-- ==== Sys2Proof/Word.lean ====
section
/-! DEFINITION. Bytes, words, the index types of the part, and tables of a fixed number of like rows. -/

namespace Sys2Proof

/-- One byte of a frame, of Buffer RAM or of the host port. -/
abbrev Byte := BitVec 8

/-- A 16-bit quantity: a register address, a CRC, a chain sum. -/
abbrev Word := BitVec 16

/-- A channel number, 0–15 (R39). -/
abbrev ChanId := Fin 16

/-- A descriptor slot number, 0–63 (R56). -/
abbrev SlotId := Fin 64

/-- A station address that has a presence entry, 0–30 (R130). -/
abbrev Station := Fin 31

/-- An offset into Buffer RAM, 0–4095 (R74). -/
abbrev Offset := BitVec 12

/-- A table of `n` rows: the channels, the slots, the presence entries. -/
structure Table (n : Nat) (α : Type) where
  rows : List α
  len : rows.length = n
deriving DecidableEq, Repr

namespace Table

/-- Row `i`. -/
def get {n : Nat} {α : Type} (t : Table n α) (i : Fin n) : α :=
  t.rows.get ⟨i.val, t.len.symm ▸ i.isLt⟩

/-- The table whose row `i` is `f i`. -/
def ofFn {n : Nat} {α : Type} (f : Fin n → α) : Table n α :=
  ⟨(List.finRange n).map f, by simp⟩

/-- The table with row `i` replaced. -/
def set {n : Nat} {α : Type} (t : Table n α) (i : Fin n) (a : α) : Table n α :=
  ⟨t.rows.set i.val a, by simp [t.len]⟩

/-- Every row replaced by a function of its index and its content. -/
def mapIdx {n : Nat} {α β : Type} (t : Table n α) (f : Fin n → α → β) : Table n β :=
  ofFn fun i => f i (t.get i)

/-- `n` equal rows. -/
def replicate (n : Nat) {α : Type} (a : α) : Table n α :=
  ⟨List.replicate n a, by simp⟩

@[simp] theorem get_ofFn {n : Nat} {α : Type} (f : Fin n → α) (i : Fin n) : (ofFn f).get i = f i := by
  simp [get, ofFn]

@[simp] theorem get_mapIdx {n : Nat} {α β : Type} (t : Table n α) (f : Fin n → α → β) (i : Fin n) :
    (t.mapIdx f).get i = f i (t.get i) := by
  simp [mapIdx]

@[simp] theorem get_replicate {n : Nat} {α : Type} (a : α) (i : Fin n) : (replicate n a).get i = a := by
  simp [get, replicate]

@[simp] theorem get_set_same {n : Nat} {α : Type} (t : Table n α) (i : Fin n) (a : α) :
    (t.set i a).get i = a := by
  simp [get, set]

theorem get_set_ne {n : Nat} {α : Type} (t : Table n α) {i j : Fin n} (a : α) (h : j ≠ i) :
    (t.set i a).get j = t.get j := by
  have : i.val ≠ j.val := fun e => h (Fin.ext e.symm)
  simp [get, set, this]

theorem get_set {n : Nat} {α : Type} (t : Table n α) (i j : Fin n) (a : α) :
    (t.set i a).get j = if j = i then a else t.get j := by
  by_cases h : j = i
  · subst h; simp
  · simp [h, get_set_ne]

/-- Two tables with equal rows are equal. -/
theorem ext_get {n : Nat} {α : Type} {t u : Table n α} (h : ∀ i, t.get i = u.get i) : t = u := by
  obtain ⟨r, hr⟩ := t
  obtain ⟨q, hq⟩ := u
  subst hr
  have : r = q := by
    apply List.ext_get hq.symm
    intro k h1 h2
    simpa [get] using h ⟨k, h1⟩
  subst this
  rfl

@[simp] theorem set_set {n : Nat} {α : Type} (t : Table n α) (i : Fin n) (a b : α) : (t.set i a).set i b = t.set i b :=
  ext_get fun j => by simp only [get_set]; split <;> rfl

@[simp] theorem set_get {n : Nat} {α : Type} (t : Table n α) (i : Fin n) : t.set i (t.get i) = t :=
  ext_get fun j => by rw [get_set]; split <;> simp_all

end Table

end Sys2Proof
end

