-- ==== Sys2Proof/Syntax.lean ====
section
/-! DEFINITION. The frames of the line and the commands of the part: one constructor of `Instr` for each row of
spec/opcode_table.json. The table gives its rows no operands; the operands here are the model's (log entry 6). -/

namespace Sys2Proof

/-- Kind of a frame (R6). -/
inductive FrameKind where
  | data | openF | publish | beacon | sleep
deriving DecidableEq, Repr

/-- Place of a DATA frame in its message (R6). -/
inductive Position where
  | only | first | middle | last
deriving DecidableEq, Repr

/-- The fields of a frame, its CRC apart, which is computed over the others (R6, R9). -/
structure Frame where
  /-- priority, H0 -/
  prio : BitVec 2
  /-- source, H0 -/
  source : BitVec 5
  /-- toggle, H0 -/
  toggle : Bool
  kind : FrameKind
  /-- channel, H1 -/
  channel : ChanId
  /-- destination, H2; 31 for all stations -/
  dest : BitVec 5
  position : Position
  payload : List Byte
  /-- present in DATA frames whose position is LAST or ONLY -/
  chain : Option Word
deriving DecidableEq, Repr

/-- The four response bytes (R17, R98). -/
inductive Answer where
  | ack | nak | halt | reopen
deriving DecidableEq, Repr

/-- The two kinds of framing error (R11), each with the last byte read, which says how many bit times the line has stood (R4). -/
inductive FramingFault where
  /-- the stop bit of `byte` is sampled dominant: the error is held (R20) -/
  | dominantStop (byte : Byte)
  /-- a byte is due after `before`, and its start bit did not come: counted when found -/
  | missingStart (before : Byte)
deriving DecidableEq, Repr

/-- What the read-back of an own frame shows at a BIT_ERROR (R31, R32; log entry 8). -/
inductive ReadBackFault where
  /-- a dominant bit driven and read recessive: the attempt ends at that bit -/
  | dominantReadRecessive
  /-- a recessive bit, after the data bits of H0, sent and read dominant: the attempt passes to CHECKING -/
  | recessiveReadDominant
  /-- the dominant run of an attempt in CHECKING ends before 16 bit times -/
  | runEnded
deriving DecidableEq, Repr

/-- The registers of notice flags (R184): the station flags at 0x030, the flags of channel c at 0x040 + c. -/
inductive FlagRegister where
  | station
  | channel (c : ChanId)
deriving DecidableEq, Repr

/-- What the WAKE pin shows (R174; log entry 11); `true` is the high level. -/
inductive PinEvent where
  /-- the pin moves to a level: what the next sample reads -/
  | moves (level : Bool)
  /-- the pin has held a level for 1 ms -/
  | held (level : Bool)
deriving DecidableEq, Repr

/-- The commands of the part: what the host, the line, the pins and the timers do to it. -/
inductive Instr where
  /-- JOIN (R146) -/
  | join
  /-- SOFT_RESET (R164) -/
  | softReset
  /-- SLEEP with its argument byte (R168) -/
  | sleep (arg : Byte)
  /-- WAKE (R175) -/
  | wake
  /-- START with its argument byte (R49) -/
  | start (arg : Byte)
  /-- HALT with its argument byte (R50) -/
  | halt (arg : Byte)
  /-- CLEAR with its argument byte (R53) -/
  | clear (arg : Byte)
  /-- KICK with its argument byte (R55) -/
  | kick (arg : Byte)
  /-- RESUME (R161) -/
  | resume
  /-- CLEAR_RESTARTS (R163) -/
  | clearRestarts
  /-- CLEAR_LIMP (R162) -/
  | clearLimp
  /-- a control transaction whose command code names no command (R180) -/
  | unknownCommand (code : Byte)
  /-- a byte written to a register with no row of its own (R178) -/
  | registerWrite (addr : Word) (value : Byte)
  /-- a byte written to the own address (R130) -/
  | ownAddressWrite (value : Byte)
  /-- a one written to the DONE flag of a channel (R73) -/
  | clearDone (c : ChanId)
  /-- ones written to flags of a flag register (R182) -/
  | clearNoticeFlags (reg : FlagRegister) (mask : Byte)
  /-- ones written to one of the four bytes of changed marks (R139) -/
  | clearChangedMarks (index : Fin 4) (mask : Byte)
  /-- one byte of a buffer transaction written to Buffer RAM (R74, R179; log entry 33) -/
  | bufferWrite (offset : Word) (value : Byte)
  /-- one byte of a buffer transaction read from Buffer RAM, `place` bytes after the offset it begins at (R74, R179; log entry
  33) -/
  | bufferRead (offset : Word) (place : Nat)
  /-- one slot of a descriptor transaction written with its eighth byte (R59, R179; log entry 33) -/
  | descriptorWrite (index : Byte) (bytes : List Byte)
  /-- the snapshot of one slot of a descriptor transaction, `place` slots after the index it begins at (R59, R179; log entry
  33) -/
  | descriptorRead (index : Byte) (place : Nat)
  /-- a low pulse on nRESET up to its rise, or power-on (R165; log entry 19) -/
  | reset
  /-- the WAKE pin moves, or has held a level for 1 ms (R174) -/
  | wakePinAccepted (pin : PinEvent)
  /-- the Station Arbiter's pick; `atOnce` is false when the start bit waits for the next bit boundary (R26, R30; log entry 9) -/
  | pick (atOnce : Bool)
  /-- the end of H3 of a frame with these four header bytes (R8) -/
  | formatError (h0 h1 h2 h3 : Byte)
  /-- a framing error in a frame being received (R11) -/
  | framingError (kind : FramingFault)
  /-- the end of a received frame, with its bytes from H0 to the last CRC byte as read (R12) -/
  | frameEnd (bytes : List Byte)
  /-- the own response byte has been sent whole (R108) -/
  | responseByteEnd
  /-- a bit of the own response byte reads back wrong (R17) -/
  | responseBitError
  /-- the response window closes on a byte, or on silence (R18) -/
  | windowClose (read : Option Byte)
  /-- a dominant bit out of place in the window, or a response byte with a dominant stop bit (R16) -/
  | windowOutOfPlace
  /-- a response byte seen under an armed clash watch (R19) -/
  | clashResponseSeen
  /-- the twelfth recessive bit time of a gap (R4) -/
  | idleGapComplete
  /-- the twelfth recessive bit time in RESYNC (R5) -/
  | resyncEnd
  /-- a dominant run reaches 0.5 ms (R20) -/
  | dominantRunHalfMs
  /-- a dominant run that holds an error ends before 0.5 ms (R20) -/
  | heldErrorCounted
  /-- a dominant run of 0.5 to 10 ms is released (R20) -/
  | wakePulseHeard
  /-- a dominant run reaches 10 ms (R21) -/
  | lineStuck
  /-- a recessive data bit of H0 reads dominant (R31) -/
  | arbitrationLost
  /-- a read-back fault of the own frame (R32) -/
  | bitError (fault : ReadBackFault)
  /-- 16 bit times of a dominant run during the own frame (R32) -/
  | wakeCollision
  /-- the own frame has been read back intact to its end (R33) -/
  | ownFrameEnd
  /-- the own wake pulse is released after 1.0 ms; `held` when another station keeps the line dominant (R34; log entry 10) -/
  | pulseSent (held : Bool)
  /-- a channel's backoff timer runs out (R90) -/
  | backoffExpiry (c : ChanId)
  /-- a channel's pacing timer runs out (R92) -/
  | pacingExpiry (c : ChanId)
  /-- the beacon timer runs out (R141) -/
  | beaconTimerExpiry
  /-- the wake-settle timer runs out (R136) -/
  | wakeSettleExpiry
  /-- an entry's age reaches its timeout (R134) -/
  | presenceTimeout (a : Station)
  /-- the listen timer runs out (R148) -/
  | listenTimerExpiry
  /-- the restart timer runs out (R153) -/
  | restartTimerExpiry
  /-- the safe timer runs out (R159) -/
  | safeTimerExpiry
  /-- a start bit of another station begins while the line is IDLE or in GAP (R4) -/
  | startBitBegins
  /-- fourteen bit times after the frame end under an armed clash watch (R19) -/
  | clashWatchDisarmed
  /-- the rise of nCS that ends a transaction (R177) -/
  | transactionEnd
deriving DecidableEq, Repr

end Sys2Proof
end

