-- ==== Sys2Proof/Decode.lean ====
section
/-! DEFINITION. The table's words. No row of spec/opcode_table.json gives bits ("n_rows_with_fixed": 0 in spec/98_reader.md),
so no word spells a command. The bytes of a host transaction are turned into commands in Machine/HostPort.lean. -/

namespace Sys2Proof

/-- The command that a word of the table's bits spells: no row has bits, so none. -/
def decodeTableWord (_nbits _w : Nat) : Option Instr := none

end Sys2Proof
end

