-- ==== Sys2Proof/Config.lean ====
section
/-! DEFINITION. The numbers the manual fixes for every MJ-241 ("Numbers used throughout", spec/00_scope.md, and the
chapters). No implementation choice and no free value is needed: log entry 27. -/

namespace Sys2Proof.Config

/-- Idle gap: recessive bit times before any frame start (R4). -/
def idleGap : Nat := 12

/-- Buffer RAM size in bytes (R74). -/
def ramSize : Nat := 4096

/-- Bit times from the start bit of H0 to the end of its eighth data bit (R2, R30). -/
def h0Bits : Nat := 9

/-- Microseconds in a second (R2). -/
def secondMicros : Nat := 1000000

/-- Microseconds in a millisecond. -/
def tickMicros : Nat := 1000

/-- Dominant-run steps of 62.5 µs in 0.5 ms, the shortest wake pulse (R20). -/
def wakeSteps : Nat := 8

/-- Dominant-run steps in 1.0 ms, the pulse a station sends (R34). -/
def pulseSteps : Nat := 16

/-- Dominant-run steps in 10 ms, where a line is stuck and the timer holds (R21). -/
def stuckSteps : Nat := 160

/-- Bit times of a dominant run that show a wake pulse during an own frame (R22). -/
def collisionBits : Nat := 16

/-- Rise of the line error count for an own transmit error (R150). -/
def transmitErrorRise : Nat := 8

/-- The line error count that raises WARN (R151). -/
def warnLevel : Nat := 96

/-- The line error count that takes the station off the line (R152). -/
def restartLevel : Nat := 128

/-- Restart delay in ms (R153). -/
def restartDelay : Nat := 5

/-- Top of the saturating 8-bit counts (R45, R144). -/
def countTop : Nat := 255

/-- Top of a presence entry's age (R130). -/
def ageTop : Nat := 65535

/-- Presence timeout in ms per unit of beacon interval (R134). -/
def timeoutPerInterval : Nat := 30

/-- Listen window in ms per unit of beacon interval: 2 intervals of 10 ms (R148). -/
def listenPerInterval : Nat := 20

/-- Milliseconds in a unit of beacon interval or of wake settle (R136, R141). -/
def unitMs : Nat := 10

/-- Milliseconds in a second of safe time (R157). -/
def secondMs : Nat := 1000

/-- Largest payload of a frame (R6). -/
def maxFramePayload : Nat := 32

end Sys2Proof.Config
end

