-- ==== Sys2Proof/Machine/Operands.lean ====
section
/-! DEFINITION. Reading and writing the operands of commands: the frame layout, its CRC and chain sum (R6 to R10, R184),
the response bytes (R17), the form in which bytes stand on the line (R2), and the idle bit times that follow a byte. -/

namespace Sys2Proof

/-- Code of a frame kind in H1 (R6, R184). -/
def FrameKind.code : FrameKind → BitVec 3
  | .data => 1
  | .openF => 2
  | .publish => 3
  | .beacon => 4
  | .sleep => 5

/-- The kind a code names; 0, 6 and 7 name none (R8). -/
def FrameKind.ofCode (w : BitVec 3) : Option FrameKind :=
  match w.toNat with
  | 1 => some .data
  | 2 => some .openF
  | 3 => some .publish
  | 4 => some .beacon
  | 5 => some .sleep
  | _ => none

/-- Code of a position in H2 (R184). -/
def Position.code : Position → BitVec 2
  | .only => 0
  | .first => 1
  | .middle => 2
  | .last => 3

/-- The position a code names (R184). -/
def Position.ofCode (w : BitVec 2) : Position :=
  match w.toNat with
  | 0 => .only
  | 1 => .first
  | 2 => .middle
  | _ => .last

/-- LAST and ONLY end a message (R6). -/
def Position.ends : Position → Bool
  | .only | .last => true
  | .first | .middle => false

/-- FIRST and ONLY begin a message (R76). -/
def Position.begins : Position → Bool
  | .only | .first => true
  | .middle | .last => false

/-- PUBLISH, BEACON and SLEEP are addressed to all stations and have no response window (R6). -/
def FrameKind.broadcast : FrameKind → Bool
  | .data | .openF => false
  | .publish | .beacon | .sleep => true

/-- Destination "all stations" (R6). -/
def allStations : BitVec 5 := 31

/-- Bit value of a flag. -/
def bit (b : Bool) : BitVec 1 := BitVec.ofBool b

/-- H0: priority 7–6, source 5–1, toggle 0 (R184). -/
def Frame.h0 (f : Frame) : Byte := f.prio ++ f.source ++ bit f.toggle

/-- H1: kind 7–5, channel 4–1, zero bit 0 (R184). -/
def Frame.h1 (f : Frame) : Byte := f.kind.code ++ BitVec.ofFin (w := 4) f.channel ++ bit false

/-- H2: destination 7–3, position 2–1, zero bit 0 (R184). -/
def Frame.h2 (f : Frame) : Byte := f.dest ++ f.position.code ++ bit false

/-- H3: the length (R184). -/
def Frame.h3 (f : Frame) : Byte := BitVec.ofNat 8 f.payload.length

/-- High and low byte of a 16-bit field, in their order on the line (R184). -/
def wordBytes (w : Word) : List Byte := [w.extractLsb' 8 8, w.extractLsb' 0 8]

/-- A 16-bit field from its high and low byte (R184). -/
def wordOf (hi lo : Byte) : Word := hi ++ lo

/-- One bit shifted into the CRC register: polynomial x^16 + x^12 + x^5 + 1 (R9). -/
def crcBit (r : Word) (b : Bool) : Word :=
  if r.msb != b then (r <<< 1) ^^^ 0x1021#16 else r <<< 1

/-- One byte shifted into the CRC register, most significant bit first (R9). -/
def crcByte (r : Word) (b : Byte) : Word :=
  [7, 6, 5, 4, 3, 2, 1, 0].foldl (fun r k => crcBit r (b.getLsbD k)) r

/-- The CRC of a run of bytes; the register starts at 0xFFFF, with no final inversion (R9). -/
def crc16 (bytes : List Byte) : Word := bytes.foldl crcByte 0xFFFF#16

/-- The chain sum field as it stands on the line (R6). -/
def Frame.chainBytes (f : Frame) : List Byte :=
  match f.chain with
  | some w => wordBytes w
  | none => []

/-- The bytes the CRC covers: header, payload, chain sum (R9). -/
def Frame.body (f : Frame) : List Byte := [f.h0, f.h1, f.h2, f.h3] ++ f.payload ++ f.chainBytes

/-- The whole image: body and CRC, high byte first (R6, R29). -/
def Frame.bytes (f : Frame) : List Byte := f.body ++ wordBytes (crc16 f.body)

/-- R7: whether a length agrees with the kind. -/
def lengthFits (k : FrameKind) (n : Nat) : Bool :=
  match k with
  | .openF | .sleep => n == 0
  | .beacon => n == 3
  | .publish | .data => n ≤ Config.maxFramePayload

/-- R8: whether a header has no format error. -/
def headerGood (h0 h1 h2 h3 : Byte) : Bool :=
  match FrameKind.ofCode (h1.extractLsb' 5 3) with
  | none => false
  | some k =>
    !h1.getLsbD 0 && !h2.getLsbD 0
      && h0.extractLsb' 1 5 != 31
      && (!h0.getLsbD 0 || k == .data)
      && (Position.ofCode (h2.extractLsb' 1 2) == .only || k == .data)
      && ((h2.extractLsb' 3 5 == allStations) == k.broadcast)
      && lengthFits k h3.toNat

/-- Whether a kind and position carry a chain sum: DATA, LAST or ONLY (R6). -/
def carriesChain (k : FrameKind) (p : Position) : Bool := k == .data && p.ends

/-- Bytes still due after H3 of a well-formed header (R8). -/
def bytesDue (k : FrameKind) (p : Position) (n : Nat) : Nat := n + (if carriesChain k p then 2 else 0) + 2

/-- The fields of a frame from all its bytes, the CRC not looked at; `none` when the header has a format error or the
number of bytes is not the one the header calls for (R8). -/
def Frame.ofBytes : List Byte → Option Frame
  | h0 :: h1 :: h2 :: h3 :: rest =>
    match FrameKind.ofCode (h1.extractLsb' 5 3) with
    | none => none
    | some k =>
      let p := Position.ofCode (h2.extractLsb' 1 2)
      let n := h3.toNat
      if headerGood h0 h1 h2 h3 && rest.length == bytesDue k p n then
        some
          { prio := h0.extractLsb' 6 2
            source := h0.extractLsb' 1 5
            toggle := h0.getLsbD 0
            kind := k
            channel := (h1.extractLsb' 1 4).toFin
            dest := h2.extractLsb' 3 5
            position := p
            payload := rest.take n
            chain :=
              if carriesChain k p then
                match rest.drop n with
                | hi :: lo :: _ => some (wordOf hi lo)
                | _ => none
              else none }
      else none
  | _ => none

/-- R9: whether the two CRC bytes at the end equal the CRC over the bytes before them. -/
def crcPasses (bytes : List Byte) : Bool :=
  let n := bytes.length - 2
  wordBytes (crc16 (bytes.take n)) == bytes.drop n

/-- Value of a response byte (R17). -/
def Answer.byte : Answer → Byte
  | .ack => 0xC3
  | .nak => 0x99
  | .halt => 0xA5
  | .reopen => 0x96

/-- The answer a byte carries, if it is one of the four values (R18). -/
def Answer.ofByte (b : Byte) : Option Answer :=
  if b == 0xC3#8 then some .ack
  else if b == 0x99#8 then some .nak
  else if b == 0xA5#8 then some .halt
  else if b == 0x96#8 then some .reopen
  else none

/-- The levels of LINE (R1): a zero bit is sent dominant, a one bit recessive (R2, R31). -/
inductive Level where
  | dominant | recessive
deriving DecidableEq, Repr

/-- The level that sends a bit (R2). -/
def Level.ofBit (b : Bool) : Level := if b then .recessive else .dominant

/-- The bits of a byte, most significant first, as LINE and the host port send them (R2, R177). -/
def byteBits (b : Byte) : List Bool := [7, 6, 5, 4, 3, 2, 1, 0].map b.getLsbD

/-- A byte on the line: start bit, eight data bits, stop bit, one level for each of its ten bit times (R2). -/
def byteLevels (b : Byte) : List Level := .dominant :: ((byteBits b).map Level.ofBit ++ [.recessive])

/-- A frame on the line: each start bit follows the stop bit before it at once (R2, R6). -/
def Frame.levels (f : Frame) : List Level := f.bytes.flatMap byteLevels

/-- A response byte on the line (R2, R17). -/
def Answer.levels (a : Answer) : List Level := byteLevels a.byte

/-- Number of one bits at the low end of a byte, counted from bit `k` over `n` bits. -/
def trailingOnes (b : Byte) (k : Nat) : Nat → Nat
  | 0 => 0
  | n + 1 => if b.getLsbD k then 1 + trailingOnes b (k + 1) n else 0

/-- Recessive bit times from the last dominant bit of a byte to the end of its stop bit (R4; worked in chapter 1, 1.8). -/
def idleAfter (b : Byte) : Nat := trailingOnes b 0 8 + 1

/-- Dominant bit times that end with a dominant stop bit of a byte; behind eight dominant data bits the start bit counts too (R2,
R22). -/
def dominantThroughStop (b : Byte) : Nat := trailingOnes (~~~b) 0 8 + if b = 0 then 2 else 1

/-- Idle bit times at the end of a run of bytes. -/
def idleAfterBytes (bytes : List Byte) : Nat :=
  match bytes.getLast? with
  | some b => idleAfter b
  | none => 0

/-- The payload of a BEACON: interval, restart count, follow sleep (R143, R184). -/
def beaconPayload (interval : Byte) (restarts : Nat) (follow : Bool) : List Byte :=
  [interval, BitVec.ofNat 8 restarts, if follow then 1 else 0]

end Sys2Proof
end

