-- ==== Sys2Proof/Machine/State.lean ====
section
/-! DEFINITION. The state of the part as plain data, its reset values, and the reasons a step can stop. Each record is owned
by one block of the manual; INVENTORY.md lists every field with its rule and its reset value. -/

namespace Sys2Proof.Machine

/-- Station modes (R144). -/
inductive Mode where
  | setup | listen | active | sleep | restart | safe
deriving DecidableEq, Repr

/-- Entry causes (R144). -/
inductive EntryCause where
  | none | wake | errors | resume | safeWake | stuck | clash | restartLimit | command | follow | safeTimer | safeFault
deriving DecidableEq, Repr

/-- Safe faults (R144). -/
inductive SafeFault where
  | none | stuck | clash | restartLimit
deriving DecidableEq, Repr

/-- Pending sleep (R167). -/
inductive PendingSleep where
  | none | announce | quiet
deriving DecidableEq, Repr

/-- Refusal codes (R181, R184). -/
inductive RefusalCode where
  | none | badAddress | badRate | badValue | ringRange | ringOverlap | dupBinding | selfPeer | configFrozen | wrongMode
  | wrongState | wrongKind | faultPresent
deriving DecidableEq, Repr

/-- Channel kinds (R39). -/
inductive Kind where
  | off | send | take | publish | subscribe
deriving DecidableEq, Repr

/-- Channel states (R46). -/
inductive ChanState where
  | stopped | opening | running | drained | holding | halted
deriving DecidableEq, Repr

/-- Halt causes (R45). -/
inductive HaltCause where
  | none | host | peerHalt | peerBusy | descError
deriving DecidableEq, Repr

/-- Station configuration (R145). -/
structure StationConfig where
  ownAddress : BitVec 5
  rateCode : BitVec 2
  beaconInterval : Byte
  followSleep : Bool
  lineWake : Bool
  wakePinEnabled : Bool
  wakePinHigh : Bool
  retryLimit : BitVec 4
  nakPatience : Byte
  nakBackoff : Byte
  silenceBackoff : Byte
  restartLimit : BitVec 4
  safeTime : Byte
  wakeSettle : Byte
deriving DecidableEq, Repr

/-- Channel configuration record (R39), each field of the width the window gives it (R40, R184). -/
structure ChanConfig where
  kindCode : BitVec 3
  peerStation : BitVec 5
  peerChannel : BitVec 4
  payloadCode : BitVec 2
  prio : BitVec 2
  pacing : Byte
  ringBase : BitVec 6
  ringLength : BitVec 7
deriving DecidableEq, Repr

/-- Descriptor slot (R56, R184). The status is the code a host write may set to any value (R56). -/
structure Slot where
  valid : Bool
  endMark : Bool
  notify : Bool
  hold : Bool
  status : BitVec 4
  offset : BitVec 12
  length : BitVec 12
  count : BitVec 12
  msgNo : Byte
deriving DecidableEq, Repr

/-- The copy the Ring Walker keeps of a slot it has fetched (R61); a fetched slot is valid. -/
structure SlotCopy where
  slot : SlotId
  endMark : Bool
  notify : Bool
  hold : Bool
  offset : BitVec 12
  length : BitVec 12
deriving DecidableEq, Repr

/-- Chain accumulator (R10). -/
structure ChainAcc where
  sum : Word
  pending : Option Byte
deriving DecidableEq, Repr

/-- Descriptor that receives an accepted frame (R97). -/
inductive Target where
  | current
  | found (d : SlotCopy)
deriving DecidableEq, Repr

/-- What becomes of the current descriptor before an accepted frame is stored (R97). -/
inductive Closes where
  | done | cut | nothing
deriving DecidableEq, Repr

/-- The work of a STORE (R97). -/
structure StoreWork where
  target : Target
  closes : Closes
  position : Position
  payload : List Byte
  sum : Option Word
deriving DecidableEq, Repr

/-- Form of an acceptance record (R97). -/
inductive AcceptForm where
  | openF
  | duplicate
  | store (work : StoreWork)
deriving DecidableEq, Repr

/-- Acceptance record of a TAKE channel (R97). -/
structure Acceptance where
  form : AcceptForm
  withdrawn : Bool
deriving DecidableEq, Repr

/-- Channel context (R45), with the Ring Walker's lists (R62, R68) and the acceptance record (R97). A timer is `none` when
stopped, else the milliseconds it has to go. -/
structure Context where
  state : ChanState
  haltCause : HaltCause
  toggle : Bool
  retry : Nat
  nak : Nat
  walker : SlotId
  msgStart : SlotId
  stream : Nat
  openMsg : Bool
  openBytes : Nat
  bytesUsed : Nat
  acc : ChainAcc
  msgNo : Byte
  drops : Nat
  duplicates : Nat
  backoff : Option Nat
  pacing : Option Nat
  haltReq : Bool
  drainNoted : Bool
  fetched : List SlotCopy
  current : Option SlotCopy
  acceptance : Option Acceptance
deriving DecidableEq, Repr

/-- Phases of a busy line (R3, R4). -/
inductive LinePhase where
  | frame | window | gap | resync
deriving DecidableEq, Repr

/-- Line state (R3). -/
inductive LineState where
  | idle
  | busy (phase : LinePhase)
deriving DecidableEq, Repr

/-- This station's part in a response window (R16). -/
inductive WindowPart where
  | sender | destination | observer
deriving DecidableEq, Repr

/-- Window record (R3, R16). Its frame end time is not held: log entry 3. -/
structure Window where
  dest : BitVec 5
  part : WindowPart
deriving DecidableEq, Repr

/-- The response byte that the station is to send or is sending, and the channel that chose it (R17, R108). -/
structure Response where
  answer : Answer
  channel : ChanId
deriving DecidableEq, Repr

/-- Line record (R3), with the response byte of R17. -/
structure LineRecord where
  state : LineState
  idleCount : Nat
  frameRecord : List Byte
  window : Option Window
  clashWatch : Bool
  heldError : Bool
  runTimer : Nat
  dominantBits : Nat
  ownRun : Bool
  stuck : Bool
  response : Option Response
deriving DecidableEq, Repr

/-- Owners of an attempt (R23). -/
inductive Owner where
  | channel (c : ChanId)
  | beacon
  | announcer
  | wakeRequest
deriving DecidableEq, Repr

/-- Form of an attempt: a frame with its latched image, or a pulse, which has none (R29). -/
inductive Form where
  | frame (image : Frame)
  | pulse
deriving DecidableEq, Repr

/-- Phases of a latched attempt (R30). -/
inductive AttemptPhase where
  | waiting | arbitration | sending | checking | answer | pulse
deriving DecidableEq, Repr

/-- The attempt in the latch (R23). -/
structure Attempt where
  owner : Owner
  form : Form
  phase : AttemptPhase
deriving DecidableEq, Repr

/-- The ten outcomes of an attempt (chapter 2, 2.7): the four answers, and six more. -/
inductive AttemptOutcome where
  | answered (a : Answer)
  | none | sent | lost | bitError | wakeCollision | abandoned
deriving DecidableEq, Repr

/-- Station Arbiter (R23). -/
structure Arbiter where
  offers : Table 16 Bool
  beaconOffer : Bool
  announceOffer : Bool
  wakeRequest : Bool
  latch : Option Attempt
  pointers : Table 4 ChanId
deriving DecidableEq, Repr

/-- Presence states (R130). -/
inductive PresenceState where
  | absent | present | asleep | waking | self
deriving DecidableEq, Repr

/-- Presence entry (R130); `none` in a peer field is "unknown". -/
structure Entry where
  state : PresenceState
  age : Nat
  interval : Option Byte
  restarts : Option Nat
  follows : Option Bool
  wakeTried : Bool
deriving DecidableEq, Repr

/-- Presence Table (R130) with its wake-settle timer (R136). -/
structure PresenceTable where
  entries : Table 31 Entry
  settle : Option Nat
deriving DecidableEq, Repr

/-- Mode Controller (R144). -/
structure ModeController where
  mode : Mode
  entryCause : EntryCause
  safeFault : SafeFault
  lineErrors : Nat
  restarts : Nat
  listenTimer : Option Nat
  restartTimer : Option Nat
  safeTimer : Option Nat
  limp : Bool
  pendingSleep : PendingSleep
deriving DecidableEq, Repr

/-- Wake Detector with the WAKE pin filter (R173, R174); `true` is the high level. -/
structure WakeDetector where
  on : Bool
  pin : Bool
  accepted : Bool
  difference : Nat
deriving DecidableEq, Repr

/-- The station flags, or their enables (R182, R183). -/
structure StationFlags where
  mode : Bool
  peers : Bool
  refused : Bool
  warn : Bool
deriving DecidableEq, Repr

/-- The flags of one channel, or the enables of their kinds (R182, R183). -/
structure ChanFlags where
  done : Bool
  halted : Bool
  drained : Bool
  drop : Bool
deriving DecidableEq, Repr

/-- Notice Unit (R182, R183) with the changed marks (R139). -/
structure NoticeUnit where
  station : StationFlags
  channels : Table 16 ChanFlags
  marks : Table 31 Bool
  stationEnables : StationFlags
  channelEnables : ChanFlags
  master : Bool
deriving DecidableEq, Repr

/-- A transaction on the host port: none known to be in progress, one that is taken, or one that a reset has dropped, which is
ignored to its rise of nCS (R165, R177; log entry 19). -/
inductive Transfer where
  | none | running | dropped
deriving DecidableEq, Repr

/-- Host Port: the status of the previous transaction, what the present one has refused, the refusal record, the bytes the last
read has taken for MISO, and the transaction in progress (R165, R177, R181; log entries 5, 19 and 21). -/
structure HostPort where
  lastRefused : Bool
  nowRefused : Bool
  controlTaken : Bool
  code : RefusalCode
  channel : Option ChanId
  shifted : List Byte
  transfer : Transfer
deriving DecidableEq, Repr

/-- The part's bit clock, which is the model's own (log entry 7): the bit times of H0 that a frame in ARBITRATION has still to
send (R30), and the microseconds of the running millisecond that bit times have taken. -/
structure BitClock where
  h0Left : Nat
  micros : Nat
deriving DecidableEq, Repr

/-- Buffer RAM (R74): (offset, byte) pairs in rising order with no byte equal to what an unlisted offset reads as. -/
abbrev Memory := List Host.Cell

/-- The whole part, and the queue of commands waiting for it, first in first out. -/
structure State where
  station : StationConfig
  configs : Table 16 ChanConfig
  contexts : Table 16 Context
  slots : Table 64 Slot
  ram : Memory
  line : LineRecord
  arb : Arbiter
  presence : PresenceTable
  beaconTimer : Option Nat
  mc : ModeController
  wake : WakeDetector
  notice : NoticeUnit
  port : HostPort
  /-- nRESET is held low (R165) -/
  resetLow : Bool
  clock : BitClock
  pending : List Instr
deriving DecidableEq, Repr

/-- No command stops the part with a fault: what the manual calls faults are states of the part (R158), so there is no
constructor, nobody raises one, and that is safe. -/
inductive Fault where
deriving DecidableEq, Repr

/-- Refusals of a step. -/
inductive Refusal where
  /-- A command with no meaning yet: raised by an arm of `exec` and by nothing else; safe, since the run stops there. -/
  | notModelled (mnemonic : String)
deriving DecidableEq, Repr

/-- Station configuration after RESET (R145). -/
def StationConfig.reset : StationConfig :=
  { ownAddress := 0, rateCode := 1, beaconInterval := 10, followSleep := false, lineWake := true, wakePinEnabled := false
    wakePinHigh := true, retryLimit := 7, nakPatience := 0, nakBackoff := 2, silenceBackoff := 5, restartLimit := 4
    safeTime := 30, wakeSettle := 25 }

/-- Channel configuration record after RESET (R40). -/
def ChanConfig.reset : ChanConfig :=
  { kindCode := 0, peerStation := 0, peerChannel := 0, payloadCode := 0, prio := 3, pacing := 0, ringBase := 0
    ringLength := 1 }

/-- Descriptor slot after RESET: every byte 0 (R56). -/
def Slot.reset : Slot :=
  { valid := false, endMark := false, notify := false, hold := false, status := 0, offset := 0, length := 0, count := 0
    msgNo := 0 }

/-- Chain accumulator at the start (R10). -/
def ChainAcc.cleared : ChainAcc := { sum := 0, pending := none }

/-- Context with its cleared values (R45). -/
def Context.cleared : Context :=
  { state := .stopped, haltCause := .none, toggle := false, retry := 0, nak := 0, walker := 0, msgStart := 0, stream := 0
    openMsg := false, openBytes := 0, bytesUsed := 0, acc := .cleared, msgNo := 0, drops := 0, duplicates := 0
    backoff := none, pacing := none, haltReq := false, drainNoted := false, fetched := [], current := none
    acceptance := none }

/-- Line record after RESET (R3). -/
def LineRecord.reset : LineRecord :=
  { state := .busy .resync, idleCount := 0, frameRecord := [], window := none, clashWatch := false, heldError := false
    runTimer := 0, dominantBits := 0, ownRun := false, stuck := false, response := none }

/-- Station Arbiter after RESET (R23). -/
def Arbiter.reset : Arbiter :=
  { offers := .replicate 16 false, beaconOffer := false, announceOffer := false, wakeRequest := false, latch := none
    pointers := .replicate 4 15 }

/-- A presence entry that is ABSENT and cleared (R130). -/
def Entry.absent : Entry :=
  { state := .absent, age := 0, interval := none, restarts := none, follows := none, wakeTried := false }

/-- The presence entry of the own address (R130). -/
def Entry.self : Entry := { Entry.absent with state := .self }

/-- Presence Table after RESET: the entry of the default own address 0 is SELF (R165). -/
def PresenceTable.reset : PresenceTable :=
  { entries := (Table.replicate 31 Entry.absent).set 0 Entry.self, settle := none }

/-- Mode Controller after RESET (R144). -/
def ModeController.reset : ModeController :=
  { mode := .setup, entryCause := .none, safeFault := .none, lineErrors := 0, restarts := 0, listenTimer := none
    restartTimer := none, safeTimer := none, limp := false, pendingSleep := .none }

/-- Wake Detector after RESET: idle (R173). DESIGN CHOICE: the pin's level, the accepted level and the difference, which the
manual does not give before the first turning on (log entry 11). -/
def WakeDetector.reset : WakeDetector := { on := false, pin := false, accepted := false, difference := 0 }

/-- Station flags all clear. -/
def StationFlags.clear : StationFlags := { mode := false, peers := false, refused := false, warn := false }

/-- Channel flags all clear. -/
def ChanFlags.clear : ChanFlags := { done := false, halted := false, drained := false, drop := false }

/-- Notice Unit after RESET (R182, R183). -/
def NoticeUnit.reset : NoticeUnit :=
  { station := .clear, channels := .replicate 16 .clear, marks := .replicate 31 false, stationEnables := .clear
    channelEnables := .clear, master := false }

/-- Host Port after RESET (R177, R181). -/
def HostPort.reset : HostPort :=
  { lastRefused := false, nowRefused := false, controlTaken := false, code := .none, channel := none, shifted := []
    transfer := .none }

/-- The bit clock after RESET, with no bit under way (log entry 7). -/
def BitClock.reset : BitClock := { h0Left := 0, micros := 0 }

/-- The part right after RESET, with nRESET high again (R165), and no command waiting. -/
def State.reset : State :=
  { station := .reset
    configs := .replicate 16 .reset
    contexts := .replicate 16 .cleared
    slots := .replicate 64 .reset
    ram := []
    line := .reset
    arb := .reset
    presence := .reset
    beaconTimer := none
    mc := .reset
    wake := .reset
    notice := .reset
    port := .reset
    resetLow := false
    clock := .reset
    pending := [] }

end Sys2Proof.Machine
end

