-- ==== Sys2Proof/Machine/Ops.lean ====
section
/-! DEFINITION. The named operations over the state: Buffer RAM, the tables, the configuration read as numbers, timers,
descriptor slots and their layout, the chain accumulator. Everything after this file reads and writes the state through
them. -/

namespace Sys2Proof.Machine

/-! ### Buffer RAM (R74) -/

/-- What an offset that the memory does not list reads as: RESET leaves every byte 0 (R74). -/
def Memory.unlisted : Byte := 0

/-- The canonical form: offsets strictly rising and inside Buffer RAM, no byte equal to an unlisted one. -/
abbrev Memory.wf (m : Memory) : Prop :=
  m.Pairwise (fun x y => x.1 < y.1) ∧ ∀ x ∈ m, x.2 ≠ Memory.unlisted ∧ x.1 < Config.ramSize

/-- The byte at an offset (R74). -/
def Memory.read : Memory → Offset → Byte
  | [], _ => Memory.unlisted
  | (k, v) :: m, a => if k = a.toNat then v else Memory.read m a

/-- The memory with one byte written (R74), in canonical form. -/
def Memory.write : Memory → Offset → Byte → Memory
  | [], a, b => if b = Memory.unlisted then [] else [(a.toNat, b)]
  | (k, v) :: m, a, b =>
    if a.toNat < k then
      if b = Memory.unlisted then (k, v) :: m else (a.toNat, b) :: (k, v) :: m
    else if a.toNat = k then
      if b = Memory.unlisted then m else (k, b) :: m
    else (k, v) :: Memory.write m a b

/-- `n` bytes from an offset on; the offset wraps from 4095 to 0 (R179). -/
def Memory.readBytes (m : Memory) (a : Offset) : Nat → List Byte
  | 0 => []
  | n + 1 => Memory.read m a :: Memory.readBytes m (a + 1) n

/-- Bytes written one after another from an offset on; the offset wraps from 4095 to 0 (R179). -/
def Memory.writeBytes (m : Memory) (a : Offset) : List Byte → Memory
  | [] => m
  | b :: bs => Memory.writeBytes (Memory.write m a b) (a + 1) bs

/-- Buffer RAM with bytes stored from an offset on. -/
def State.store (s : State) (a : Offset) (bytes : List Byte) : State :=
  { s with ram := Memory.writeBytes s.ram a bytes }

/-! ### Tables -/

/-- Configuration record of a channel (R39). -/
def State.cfg (s : State) (c : ChanId) : ChanConfig := s.configs.get c

/-- Context of a channel (R45). -/
def State.ctx (s : State) (c : ChanId) : Context := s.contexts.get c

/-- Descriptor slot (R56). -/
def State.slot (s : State) (i : SlotId) : Slot := s.slots.get i

/-- Presence entry (R130). -/
def State.entry (s : State) (a : Station) : Entry := s.presence.entries.get a

/-- The context of one channel changed. -/
def State.modCtx (s : State) (c : ChanId) (f : Context → Context) : State :=
  { s with contexts := s.contexts.set c (f (s.ctx c)) }

/-- One slot changed. -/
def State.modSlot (s : State) (i : SlotId) (f : Slot → Slot) : State :=
  { s with slots := s.slots.set i (f (s.slot i)) }

/-- The Station Arbiter changed. -/
def State.modArb (s : State) (f : Arbiter → Arbiter) : State := { s with arb := f s.arb }

/-- The line record changed. -/
def State.modLine (s : State) (f : LineRecord → LineRecord) : State := { s with line := f s.line }

/-- The Mode Controller changed. -/
def State.modMc (s : State) (f : ModeController → ModeController) : State := { s with mc := f s.mc }

/-- The Notice Unit changed. -/
def State.modNotice (s : State) (f : NoticeUnit → NoticeUnit) : State := { s with notice := f s.notice }

/-- The Host Port changed. -/
def State.modPort (s : State) (f : HostPort → HostPort) : State := { s with port := f s.port }

/-- The bit clock changed. -/
def State.modClock (s : State) (f : BitClock → BitClock) : State := { s with clock := f s.clock }

/-- All channels in ascending order of number. -/
def chanList : List ChanId := List.finRange 16

/-- All addresses that have an entry, in ascending order. -/
def stationList : List Station := List.finRange 31

/-- A change made for each channel in turn, in ascending order of number. -/
def State.forChannels (s : State) (f : State → ChanId → State) : State := chanList.foldl f s

/-! ### Configuration read as numbers -/

/-- Kind of a channel. A code of 5 to 7 never passes JOIN (R42); read outside SETUP it acts as OFF (log entry 17). -/
def ChanConfig.kind (g : ChanConfig) : Kind :=
  match g.kindCode.toNat with
  | 1 => .send
  | 2 => .take
  | 3 => .publish
  | 4 => .subscribe
  | _ => .off

/-- Max payload in bytes; the code 3 names no size (R40, R184). -/
def ChanConfig.payloadSize (g : ChanConfig) : Option Nat :=
  match g.payloadCode.toNat with
  | 0 => some 8
  | 1 => some 16
  | 2 => some 32
  | _ => none

/-- Max payload in bytes. The code 3 never passes JOIN on a channel that is not OFF (R42); it acts as 0 (log entry 17). -/
def ChanConfig.maxPayload (g : ChanConfig) : Nat := g.payloadSize.getD 0

/-- First slot of a ring (R58). -/
def ChanConfig.base (g : ChanConfig) : SlotId := g.ringBase.toFin

/-- Whether a channel's kind may own an attempt (R23). -/
def Kind.sends : Kind → Bool
  | .send | .publish => true
  | .off | .take | .subscribe => false

/-- The slot after `i` in ring order (R58). -/
def ChanConfig.next (g : ChanConfig) (i : SlotId) : SlotId :=
  if i.val + 1 = g.ringBase.toNat + g.ringLength.toNat then g.base else i + 1

/-- The presence entry number of an address field; 31 names none (R130). -/
def stationOf (a : BitVec 5) : Option Station := if h : a.toNat < 31 then some ⟨a.toNat, h⟩ else none

/-- The presence entry that an address field names, if it names one. -/
def State.entryOf (s : State) (a : BitVec 5) : Option Entry := (stationOf a).map s.entry

/-- Modes in which the Line Engine assembles frames (R12). -/
def Mode.listens : Mode → Bool
  | .listen | .active => true
  | .setup | .sleep | .restart | .safe => false

/-- Modes in which the Line Engine measures dominant runs only (R3). -/
def Mode.dozes : Mode → Bool
  | .sleep | .safe => true
  | .setup | .listen | .active | .restart => false

/-! ### Timers and counts -/

/-- A timer started with `n` ms; 0 starts none. -/
def startTimer (n : Nat) : Option Nat := if n = 0 then none else some n

/-- A count raised by one and holding at 255 (R45). -/
def saturate (n : Nat) : Nat := min Config.countTop (n + 1)

/-- The bit rate in bit/s that the rate code names; 3 names none (R2, R184). -/
def StationConfig.bitRate (g : StationConfig) : Option Nat :=
  match g.rateCode.toNat with
  | 0 => some 62500
  | 1 => some 125000
  | 2 => some 250000
  | _ => none

/-- The bit time in µs: 16, 8 or 4 (R2). The rate code 3 never passes JOIN (R146); it acts as 0 (log entry 17). -/
def StationConfig.bitMicros (g : StationConfig) : Nat := (g.bitRate.map fun r => Config.secondMicros / r).getD 0

/-- The beacon interval in ms (R141). -/
def StationConfig.beaconMs (g : StationConfig) : Nat := Config.unitMs * g.beaconInterval.toNat

/-- The settle time in ms (R136). -/
def StationConfig.settleMs (g : StationConfig) : Nat := Config.unitMs * g.wakeSettle.toNat

/-- The listen window in ms (R148). -/
def StationConfig.listenMs (g : StationConfig) : Nat := Config.listenPerInterval * g.beaconInterval.toNat

/-- The safe time in ms (R157). -/
def StationConfig.safeMs (g : StationConfig) : Nat := Config.secondMs * g.safeTime.toNat

/-- Presence timeout of an entry in ms (R134). -/
def StationConfig.timeoutMs (g : StationConfig) (e : Entry) : Nat :=
  Config.timeoutPerInterval * (e.interval.getD g.beaconInterval).toNat

/-! ### Descriptor slots (R56, R57, R184) -/

/-- Status codes of a write-back (R57). -/
inductive Status where
  | none | done | endS | cut | sumError | unfit | badRange | aborted | tooLong
deriving DecidableEq, Repr

/-- Code of a status (R57, R184). -/
def Status.code : Status → BitVec 4
  | .none => 0
  | .done => 1
  | .endS => 2
  | .cut => 3
  | .sumError => 4
  | .unfit => 5
  | .badRange => 6
  | .aborted => 7
  | .tooLong => 8

/-- The slot as its eight bytes (R184). -/
def Slot.bytes (d : Slot) : List Byte :=
  [bit d.valid ++ bit d.endMark ++ bit d.notify ++ bit d.hold ++ d.status]
    ++ wordBytes (d.offset.zeroExtend 16) ++ wordBytes (d.length.zeroExtend 16) ++ wordBytes (d.count.zeroExtend 16)
    ++ [d.msgNo]

/-- The slot that eight bytes write; the upper four bits of offset, length and count are dropped (R179). Fewer than eight
bytes write none (R59). -/
def Slot.ofBytes : List Byte → Option Slot
  | [b0, o1, o0, l1, l0, c1, c0, n] =>
    some
      { valid := b0.getLsbD 7
        endMark := b0.getLsbD 6
        notify := b0.getLsbD 5
        hold := b0.getLsbD 4
        status := b0.extractLsb' 0 4
        offset := (wordOf o1 o0).extractLsb' 0 12
        length := (wordOf l1 l0).extractLsb' 0 12
        count := (wordOf c1 c0).extractLsb' 0 12
        msgNo := n }
  | _ => none

/-- The copy a fetch takes (R61). -/
def Slot.copy (d : Slot) (i : SlotId) : SlotCopy :=
  { slot := i, endMark := d.endMark, notify := d.notify, hold := d.hold, offset := d.offset, length := d.length }

/-- Whether a slot's region runs past the end of Buffer RAM (R63, R69). -/
def Slot.outOfRange (d : Slot) : Bool := Config.ramSize < d.offset.toNat + d.length.toNat

/-- Whether a slot asks to hold when it is written back: notify and hold both set (R72). -/
def Slot.holds (d : Slot) : Bool := d.notify && d.hold

/-! ### Chain accumulator (R10) -/

/-- Ones'-complement addition with end-around carry (R10). -/
def addOnes (a b : Word) : Word :=
  let t := a.toNat + b.toNat
  BitVec.ofNat 16 (if t < 65536 then t else t - 65535)

/-- One byte fed to the accumulator (R10). -/
def ChainAcc.feed (x : ChainAcc) (b : Byte) : ChainAcc :=
  match x.pending with
  | none => { x with pending := some b }
  | some hi => { sum := addOnes x.sum (wordOf hi b), pending := none }

/-- Bytes fed in their order (R10). -/
def ChainAcc.feedAll (x : ChainAcc) (bs : List Byte) : ChainAcc := bs.foldl ChainAcc.feed x

/-- The chain sum read from the accumulator, a pending byte closed with a zero low byte (R10). -/
def ChainAcc.close (x : ChainAcc) : Word :=
  match x.pending with
  | none => x.sum
  | some hi => addOnes x.sum (wordOf hi 0)

/-! ### The latch (R23) -/

/-- Whether a channel owns the latched attempt. -/
def State.ownsLatch (s : State) (c : ChanId) : Bool :=
  match s.arb.latch with
  | some a => a.owner == .channel c
  | none => false

/-- Whether the station is driving or has started its own frame or pulse, so that what the line carries is its own. -/
def State.transmitting (s : State) : Bool :=
  s.mc.mode == .active &&
    match s.arb.latch with
    | some a => a.phase == .arbitration || a.phase == .sending || a.phase == .pulse
    | none => false

/-- Whether the station is receiving a frame of another station (R4, R13). -/
def State.receiving (s : State) : Bool :=
  s.mc.mode.listens && s.line.state == .busy .frame && !s.transmitting

end Sys2Proof.Machine
end

