-- ==== Sys2Proof/Machine/Flags.lean ====
section
/-! DEFINITION. The flags: station and channel notices and their clearing (R182), the NOTICE output (R183), the refusal
record (R181) and the transaction marks (R177). -/

namespace Sys2Proof.Machine

/-- MODE set (R166). -/
def State.raiseMode (s : State) : State :=
  s.modNotice fun n => { n with station := { n.station with mode := true } }

/-- WARN set (R151). -/
def State.raiseWarn (s : State) : State :=
  s.modNotice fun n => { n with station := { n.station with warn := true } }

/-- Flags of one channel changed. -/
def State.modChanFlags (s : State) (c : ChanId) (f : ChanFlags → ChanFlags) : State :=
  s.modNotice fun n => { n with channels := n.channels.set c (f (n.channels.get c)) }

/-- DONE of a channel set (R71). -/
def State.raiseDone (s : State) (c : ChanId) : State := s.modChanFlags c fun f => { f with done := true }

/-- HALTED of a channel set (R47). -/
def State.raiseHalted (s : State) (c : ChanId) : State := s.modChanFlags c fun f => { f with halted := true }

/-- DRAINED of a channel set (R63, R107). -/
def State.raiseDrained (s : State) (c : ChanId) : State := s.modChanFlags c fun f => { f with drained := true }

/-- DROP of a channel set (R128). -/
def State.raiseDrop (s : State) (c : ChanId) : State := s.modChanFlags c fun f => { f with drop := true }

/-- A refusal: the record is overwritten, REFUSED is set and the transaction is marked (R181, R177). -/
def State.refuse (s : State) (code : RefusalCode) (c : Option ChanId) : State :=
  { s with
    port := { s.port with code := code, channel := c, nowRefused := true }
    notice := { s.notice with station := { s.notice.station with refused := true } } }

/-- The station flags that a mask of ones leaves (R182): bit 0 MODE, 1 PEERS, 2 REFUSED, 3 WARN (R184). -/
def StationFlags.clearBits (f : StationFlags) (m : Byte) : StationFlags :=
  { mode := f.mode && !m.getLsbD 0
    peers := f.peers && !m.getLsbD 1
    refused := f.refused && !m.getLsbD 2
    warn := f.warn && !m.getLsbD 3 }

/-- The channel flags that a mask of ones leaves (R182): bit 0 DONE, 1 HALTED, 2 DRAINED, 3 DROP (R184). -/
def ChanFlags.clearBits (f : ChanFlags) (m : Byte) : ChanFlags :=
  { done := f.done && !m.getLsbD 0
    halted := f.halted && !m.getLsbD 1
    drained := f.drained && !m.getLsbD 2
    drop := f.drop && !m.getLsbD 3 }

/-- Station enables from a register byte (R184). -/
def StationFlags.ofByte (b : Byte) : StationFlags :=
  { mode := b.getLsbD 0, peers := b.getLsbD 1, refused := b.getLsbD 2, warn := b.getLsbD 3 }

/-- Channel flags or enables from a register byte (R184). -/
def ChanFlags.ofByte (b : Byte) : ChanFlags :=
  { done := b.getLsbD 0, halted := b.getLsbD 1, drained := b.getLsbD 2, drop := b.getLsbD 3 }

/-- Station flags as a register byte (R184). -/
def StationFlags.byte (f : StationFlags) : Byte :=
  0#4 ++ bit f.warn ++ bit f.refused ++ bit f.peers ++ bit f.mode

/-- Channel flags as the low bits of a register byte (R184). -/
def ChanFlags.byte (f : ChanFlags) : Byte :=
  0#4 ++ bit f.drop ++ bit f.drained ++ bit f.halted ++ bit f.done

/-- Whether some station flag is set with its enable (R183). -/
def StationFlags.enabled (f e : StationFlags) : Bool :=
  (f.mode && e.mode) || (f.peers && e.peers) || (f.refused && e.refused) || (f.warn && e.warn)

/-- Whether some channel flag is set with the enable of its kind (R183). -/
def ChanFlags.enabled (f e : ChanFlags) : Bool :=
  (f.done && e.done) || (f.halted && e.halted) || (f.drained && e.drained) || (f.drop && e.drop)

/-- Whether the NOTICE output is low (R183). -/
def NoticeUnit.low (n : NoticeUnit) : Bool :=
  n.master &&
    (n.station.enabled n.stationEnables || chanList.any fun c => (n.channels.get c).enabled n.channelEnables)

/-- Whether the host port takes what a transaction brings: nRESET is high, and the transaction is not one that a reset has
dropped (R165). -/
def State.hostOpen (s : State) : Bool := !s.resetLow && s.port.transfer != .dropped

/-- The transaction on the host port. -/
def State.setTransfer (s : State) (x : Transfer) : State := s.modPort fun p => { p with transfer := x }

/-- The start of a byte access: its transaction is in progress, and it is one of its own, so that the marks which a control
command's transaction has left are dropped (log entry 5). -/
def State.portAccess (s : State) : State :=
  s.modPort fun p =>
    { p with controlTaken := false, nowRefused := p.nowRefused && !p.controlTaken, transfer := .running }

/-- A byte access of the host. One that is not taken belongs to a transaction that is dropped to its rise of nCS (R165). -/
def State.access (s : State) (f : State → State) : State :=
  if s.hostOpen then f s.portAccess else s.setTransfer .dropped

/-- A rise of nCS: it ends the transaction in progress, and what it brings is taken unless that transaction is dropped (R165,
R177). -/
def State.atRise (s : State) (f : State → State) : State :=
  if s.hostOpen then f (s.setTransfer .none) else s.setTransfer .none

/-- A command in a transaction of its own: last-refused follows from what it refused (R177; log entry 5). -/
def State.commanded (s : State) (f : State → State) : State :=
  let t := f (s.modPort fun p => { p with controlTaken := true, nowRefused := false })
  t.modPort fun p => { p with lastRefused := p.nowRefused }

/-- A control transaction, taken at the rise of nCS (R177, R180). -/
def State.control (s : State) (f : State → State) : State := s.atRise fun t => t.commanded f

end Sys2Proof.Machine
end

