-- ==== Sys2Proof/Machine/Offers.lean ====
section
/-! DEFINITION. When a SEND or PUBLISH channel holds an offer: the offer conditions and the presence gate (R79 to R81,
R120), and the look that places or withdraws the offer or sets the wake request. -/

namespace Sys2Proof.Machine

/-- What the presence gate gives (R80). -/
inductive Gate where
  | offer | wait | wake
deriving DecidableEq, Repr

/-- The presence gate of an entry, by whether the wake-settle timer runs (R80). -/
def gateOf (e : Entry) (settling : Bool) : Gate :=
  match e.state with
  | .present => .offer
  | .waking => if settling then .wait else .offer
  | .asleep => .wake
  | .absent => if e.wakeTried then .wait else .wake
  | .self => .wait

/-- The presence gate of a channel's peer (R80). -/
def State.gate (s : State) (c : ChanId) : Gate :=
  match s.entryOf (s.cfg c).peerStation with
  | some e => gateOf e s.presence.settle.isSome
  | none => .wait

/-- The conditions of R79 other than the gate. -/
def State.sendReady (s : State) (c : ChanId) : Bool :=
  let x := s.ctx c
  (x.state == .opening || x.state == .running) && !s.ownsLatch c && x.backoff.isNone && x.pacing.isNone

/-- The conditions of R120. -/
def State.publishReady (s : State) (c : ChanId) : Bool :=
  let x := s.ctx c
  x.state == .running && !s.ownsLatch c && x.pacing.isNone

/-- Whether a channel is to hold an offer (R79, R120). -/
def State.mayOffer (s : State) (c : ChanId) : Bool :=
  match (s.cfg c).kind with
  | .send => s.sendReady c && s.gate c == .offer
  | .publish => s.publishReady c
  | .off | .take | .subscribe => false

/-- Whether a SEND channel wants a wake pulse (R80). -/
def State.wantsWake (s : State) (c : ChanId) : Bool :=
  (s.cfg c).kind == .send && s.sendReady c && s.gate c == .wake

/-- A channel looks at its offer conditions: it places, keeps or withdraws its offer, and sets the wake request where the
gate asks for it (R79 to R81, R120). -/
def State.look (s : State) (c : ChanId) : State :=
  s.modArb fun a =>
    { a with offers := a.offers.set c (s.mayOffer c), wakeRequest := a.wakeRequest || s.wantsWake c }

/-- The channels that a condition names look, in ascending order. -/
def State.lookWhere (s : State) (p : ChanId → Bool) : State :=
  s.forChannels fun t c => if p c then t.look c else t

/-- A channel enters HALTED: cause and notice set, offer withdrawn, timers stopped, halt-requested cleared (R47). -/
def State.enterHalted (s : State) (c : ChanId) (cause : HaltCause) : State :=
  (((s.modCtx c fun x =>
      { x with state := .halted, haltCause := cause, backoff := none, pacing := none, haltReq := false }).raiseHalted
    c).modArb fun a => { a with offers := a.offers.set c false })

end Sys2Proof.Machine
end

