-- ==== Sys2Proof/Machine/Presence.lean ====
section
/-! DEFINITION. The Presence Table: one operation that changes entries, marks what changed and lets the SEND channels
toward the changed entries look (R131 to R139, R81), and the events of chapter 8 as uses of it. -/

namespace Sys2Proof.Machine

/-- Whether an entry differs in state or wake-tried mark, the change that sets its changed mark (R139). -/
def Entry.changed (old new : Entry) : Bool := old.state != new.state || old.wakeTried != new.wakeTried

/-- The changed marks and PEERS for a new presence table (R139). -/
def NoticeUnit.mark (n : NoticeUnit) (old new : Table 31 Entry) : NoticeUnit :=
  let moved := fun a => (old.get a).changed (new.get a)
  { n with
    marks := n.marks.mapIdx fun a m => m || moved a
    station := { n.station with peers := n.station.peers || stationList.any moved } }

/-- The presence entries replaced, with the marks of those that changed (R139). -/
def State.withEntries (s : State) (new : Table 31 Entry) : State :=
  { s with
    presence := { s.presence with entries := new }
    notice := s.notice.mark s.presence.entries new }

/-- Whether a channel is a SEND channel whose peer's entry satisfies a condition. -/
def State.sendPeer (s : State) (c : ChanId) (p : Station → Bool) : Bool :=
  (s.cfg c).kind == .send &&
    match stationOf (s.cfg c).peerStation with
    | some a => p a
    | none => false

/-- The presence entries replaced, the marks set (R139), and the SEND channels toward the changed entries looking again
(R81). -/
def State.replaceEntries (s : State) (new : Table 31 Entry) : State :=
  let old := s.presence.entries
  (s.withEntries new).lookWhere fun c => s.sendPeer c fun a => (old.get a).changed (new.get a)

/-- Every entry other than SELF changed by a function (R130: nothing changes SELF). -/
def State.updateEntries (s : State) (f : Station → Entry → Entry) : State :=
  s.replaceEntries (s.presence.entries.mapIdx fun a e => if e.state = .self then e else f a e)

/-- One entry changed. -/
def State.updateEntry (s : State) (a : Station) (f : Entry → Entry) : State :=
  s.updateEntries fun b e => if b = a then f e else e

/-- A station heard: PRESENT, age 0, mark clear (R131). -/
def Entry.heard (e : Entry) : Entry := { e with state := .present, age := 0, wakeTried := false }

/-- The three values of a BEACON stored (R132). -/
def Entry.beaconed (e : Entry) (payload : List Byte) : Entry :=
  match payload with
  | [b0, b1, b2] =>
    { e with
      interval := if b0 = 0 then none else some b0
      restarts := if b1.toNat ≤ 14 then some b1.toNat else none
      follows := if b2 = 1 then some true else if b2 = 0 then some false else none }
  | _ => e

/-- The source or destination of a frame heard (R131). -/
def State.stationHeard (s : State) (a : Station) : State := s.updateEntry a Entry.heard

/-- A BEACON heard (R132). -/
def State.beaconHeard (s : State) (a : Station) (payload : List Byte) : State :=
  s.updateEntry a fun e => (e.beaconed payload).heard

/-- A SLEEP frame heard: the announcer ASLEEP, and every PRESENT peer that follows sleep ASLEEP (R133). -/
def State.announceHeard (s : State) (a : Station) : State :=
  s.updateEntries fun b e =>
    if b = a then { e with state := .asleep, age := 0, wakeTried := false }
    else if e.state = .present && e.follows = some true then { e with state := .asleep }
    else e

/-- An entry under a wake pulse sent or heard (R135). -/
def Entry.pulsed (e : Entry) : Entry :=
  if e.state = .asleep || (e.state = .absent && !e.wakeTried) then { e with state := .waking, age := 0 } else e

/-- The SEND channels toward WAKING peers look again (R81, R136). -/
def State.lookWaking (s : State) : State :=
  s.lookWhere fun c => s.sendPeer c fun a => (s.entry a).state == .waking

/-- A wake pulse sent or heard: entries WAKING, the settle timer started afresh (R135, R136). -/
def State.presencePulse (s : State) : State :=
  (({ s with presence := { s.presence with settle := startTimer s.station.settleMs } } : State).updateEntries fun _ e =>
      e.pulsed).lookWaking

/-- An entry under exhaustion toward it (R137). -/
def Entry.exhausted (e : Entry) : Entry :=
  match e.state with
  | .present | .asleep => { e with state := .absent, age := 0, wakeTried := false }
  | .waking => { e with state := .absent, age := 0, wakeTried := true }
  | .absent | .self => e

/-- Exhaustion toward a peer (R137). -/
def State.presenceExhausted (s : State) (peer : BitVec 5) : State :=
  match stationOf peer with
  | some a => s.updateEntry a Entry.exhausted
  | none => s

/-- An entry whose age reaches its timeout (R134). -/
def Entry.timedOut (e : Entry) : Entry :=
  match e.state with
  | .present => { e with state := .absent, wakeTried := false }
  | .waking => { e with state := .absent, wakeTried := true }
  | .absent | .asleep | .self => e

/-- The table cleared at withdrawal, with the marks that follow (R138). -/
def State.presenceClear (s : State) : State :=
  ({ s with presence := { s.presence with settle := none } } : State).updateEntries fun _ _ => Entry.absent

/-- The table cleared at SOFT_RESET, SELF kept and no mark left (R138). -/
def PresenceTable.cleared (p : PresenceTable) : PresenceTable :=
  { entries := p.entries.mapIdx fun _ e => if e.state = .self then e else Entry.absent, settle := none }

/-- The entries after a write of the own address (R130). -/
def moveSelf (t : Table 31 Entry) (old new : BitVec 5) : Table 31 Entry :=
  if old = new then t
  else
    t.mapIdx fun a e =>
      if stationOf new = some a then Entry.self else if stationOf old = some a then Entry.absent else e

end Sys2Proof.Machine
end

