-- ==== Sys2Proof/Machine/Ring.lean ====
section
/-! DEFINITION. The Ring Walker: write-backs (R57, R71), fetching for sending channels (R62 to R65), the completion of a
sent message (R67), the walk of CLEAR (R53) and the space search of taking channels (R69). -/

namespace Sys2Proof.Machine

/-- A write-back of one slot by a channel: valid cleared, status, count and message number written, the end mark too where
one is given; DONE raised when the slot's notify mark is set at that moment (R57, R60, R71). -/
def State.writeBack (s : State) (c : ChanId) (i : SlotId) (st : Status) (count : Nat) (endMark : Option Bool) : State :=
  let d := s.slot i
  let t :=
    s.modSlot i fun d =>
      { d with
        valid := false, status := st.code, count := BitVec.ofNat 12 count, msgNo := (s.ctx c).msgNo
        endMark := endMark.getD d.endMark }
  if d.notify then t.raiseDone c else t

/-- Entries of a fetched list written back one after another in ring order, with no end mark of the part's (R57). -/
def State.writeBackList (s : State) (c : ChanId) (st : Status) (count : SlotCopy → Nat) : List SlotCopy → State
  | [] => s
  | d :: ds => (s.writeBack c d.slot st (count d) none).writeBackList c st count ds

/-- Bytes of a fetched list: the sum of the lengths of its entries (R62). -/
def listBytes (l : List SlotCopy) : Nat := (l.map fun d => d.length.toNat).sum

/-- Whether a fetched list holds the end descriptor (R62). -/
def holdsEnd (l : List SlotCopy) : Bool := l.any fun d => d.endMark

/-- Whether a channel's need is met (R62). -/
def needMet (g : ChanConfig) (x : Context) : Bool :=
  holdsEnd x.fetched || (g.kind == .send && x.stream + g.maxPayload ≤ listBytes x.fetched)

/-- The context after a message has been given up: list empty, both indexes at one slot, offset, accumulator and counts
cleared (R53, R64, R65). -/
def Context.dropMessage (x : Context) (i : SlotId) : Context :=
  { x with fetched := [], walker := i, msgStart := i, stream := 0, acc := .cleared, retry := 0, nak := 0 }

/-- BAD_RANGE at a fetch (R64). -/
def State.fetchBadRange (s : State) (c : ChanId) : State :=
  let x := s.ctx c
  (((s.writeBackList c .aborted (fun _ => 0) x.fetched).writeBack c x.walker .badRange 0 none).modCtx c fun y =>
    y.dropMessage ((s.cfg c).next x.walker)).enterHalted c .descError

/-- TOO_LONG at a fetch (R65). The walker index already stands after the last slot written back. -/
def State.fetchTooLong (s : State) (c : ChanId) : State :=
  let x := s.ctx c
  ((s.writeBackList c .tooLong (fun _ => 0) x.fetched).modCtx c fun y => y.dropMessage x.walker).enterHalted c .descError

/-- A fetch that stops at an invalid slot with the need unmet: DRAINED is entered from RUNNING, with its notice (R63, R66). -/
def State.fetchDry (s : State) (c : ChanId) : State :=
  if (s.ctx c).state = .running then (s.modCtx c fun x => { x with state := .drained }).raiseDrained c else s

/-- A fetch that meets the need: a channel in DRAINED returns to RUNNING (R63). -/
def State.fetchMet (s : State) (c : ChanId) : State :=
  s.modCtx c fun x => { x with state := if x.state = .drained then .running else x.state }

/-- The slots of a fetch, one after another (R63), at most `fuel` of them. -/
def State.fetchLoop (s : State) (c : ChanId) : Nat → State
  | 0 => s
  | fuel + 1 =>
    let g := s.cfg c
    let x := s.ctx c
    let d := s.slot x.walker
    if needMet g x then s.fetchMet c
    else if x.fetched ≠ [] ∧ x.walker = x.msgStart then s.fetchTooLong c
    else if d.valid = false then s.fetchDry c
    else if d.outOfRange then s.fetchBadRange c
    else
      let t :=
        s.modCtx c fun y => { y with fetched := y.fetched ++ [d.copy x.walker], walker := g.next x.walker }
      if g.kind = .publish ∧ g.maxPayload < listBytes (t.ctx c).fetched then t.fetchTooLong c
      else t.fetchLoop c fuel

/-- A fetch, made only when the halt-requested flag is clear (R62). A ring has at most 64 slots, so 65 rounds suffice. -/
def State.fetch (s : State) (c : ChanId) : State := if (s.ctx c).haltReq then s else s.fetchLoop c 65

/-- The completion of a sent message: its descriptors written back DONE in ring order, then HOLDING where a slot asks for
it, else the fetch of occasion 4 (R67, R72). -/
def State.completeMessage (s : State) (c : ChanId) : State :=
  let l := (s.ctx c).fetched
  let held := l.any fun d => (s.slot d.slot).holds
  let t :=
    (s.writeBackList c .done (fun d => d.length.toNat) l).modCtx c fun x =>
      { x with
        msgNo := x.msgNo + 1, fetched := [], msgStart := x.walker, stream := 0, acc := .cleared
        state := if held ∧ x.state = .running then .holding else x.state }
  if (t.ctx c).state = .running then t.fetch c else t

/-- The walk of CLEAR: valid slots written back ABORTED from `i` on, up to the first invalid one or `n` slots; the state
and the slot where it stopped (R53). -/
def State.abortWalk (s : State) (c : ChanId) (i : SlotId) : Nat → State × SlotId
  | 0 => (s, i)
  | n + 1 =>
    if (s.slot i).valid then (s.writeBack c i .aborted 0 none).abortWalk c ((s.cfg c).next i) n else (s, i)

/-- The three ends of a space search (R69). -/
inductive Search where
  | found (d : SlotCopy)
  | noSpace
  | badRange
deriving DecidableEq, Repr

/-- The walker index of a channel steps to the next slot (R69). -/
def State.stepWalker (s : State) (c : ChanId) : State := s.modCtx c fun x => { x with walker := (s.cfg c).next x.walker }

/-- The slots of a space search, at most `n` of them (R69). -/
def State.searchLoop (s : State) (c : ChanId) : Nat → State × Search
  | 0 => (s, .noSpace)
  | n + 1 =>
    let g := s.cfg c
    let x := s.ctx c
    let d := s.slot x.walker
    if (x.current.map (·.slot)) = some x.walker then (s, .noSpace)
    else if d.valid = false then (s, .noSpace)
    else if d.outOfRange then
      (((s.writeBack c x.walker .badRange 0 (some false)).stepWalker c).enterHalted c .descError, .badRange)
    else if d.length.toNat < g.maxPayload then
      ((s.writeBack c x.walker .unfit 0 (some false)).stepWalker c).searchLoop c n
    else (s, .found (d.copy x.walker))

/-- A space search: as many slots as the ring has (R69). -/
def State.search (s : State) (c : ChanId) : State × Search := s.searchLoop c (s.cfg c).ringLength.toNat

/-- The bytes of a sending channel's message: region after region (R74). -/
def State.messageBytes (s : State) (c : ChanId) : List Byte :=
  (s.ctx c).fetched.flatMap fun d => Memory.readBytes s.ram d.offset d.length.toNat

end Sys2Proof.Machine
end

