-- ==== Sys2Proof/Machine/Sending.lean ====
section
/-! DEFINITION. SEND and PUBLISH channels: the frames they build (R75 to R78, R119) and what each outcome of an attempt
does to them (R82 to R89, R91, R121, R122), with the deferred HALT (R51). -/

namespace Sys2Proof.Machine

/-- The OPEN frame of a SEND channel (R75); priority and source are the Arbiter's (R29). -/
def State.openFrame (s : State) (c : ChanId) : Frame :=
  let g := s.cfg c
  { prio := g.prio, source := s.station.ownAddress, toggle := false, kind := .openF, channel := g.peerChannel.toFin
    dest := g.peerStation, position := .only, payload := [], chain := none }

/-- Position of a DATA frame from the stream offset and whether it is the last (R76). -/
def positionOf (stream : Nat) (last : Bool) : Position :=
  match stream, last with
  | 0, true => .only
  | 0, false => .first
  | _ + 1, false => .middle
  | _ + 1, true => .last

/-- The DATA frame of a SEND channel (R76, R77). -/
def State.dataFrame (s : State) (c : ChanId) : Frame :=
  let g := s.cfg c
  let x := s.ctx c
  let r := listBytes x.fetched - x.stream
  let last := holdsEnd x.fetched && r ≤ g.maxPayload
  let payload := ((s.messageBytes c).drop x.stream).take (if last then r else g.maxPayload)
  { prio := g.prio, source := s.station.ownAddress, toggle := x.toggle, kind := .data, channel := g.peerChannel.toFin
    dest := g.peerStation, position := positionOf x.stream last, payload := payload
    chain := if last then some (x.acc.feedAll payload).close else none }

/-- The current frame of a SEND channel: OPEN in OPENING, DATA otherwise (R75). -/
def State.sendFrame (s : State) (c : ChanId) : Frame :=
  if (s.ctx c).state = .opening then s.openFrame c else s.dataFrame c

/-- The frame of a PUBLISH channel's message (R119). -/
def State.publishFrame (s : State) (c : ChanId) : Frame :=
  { prio := (s.cfg c).prio, source := s.station.ownAddress, toggle := false, kind := .publish, channel := c
    dest := allStations, position := .only, payload := s.messageBytes c, chain := none }

/-- The OPEN frame answered ACK: toggle and counts 0, RUNNING, then the fetch of occasion 1 (R82). -/
def State.openAcked (s : State) (c : ChanId) : State :=
  (s.modCtx c fun x => { x with toggle := false, retry := 0, nak := 0, state := .running }).fetch c

/-- What every ACK to a DATA frame does first: toggle, counts, accumulator, stream offset, pacing (R83). -/
def State.advance (s : State) (c : ChanId) (img : Frame) : State :=
  s.modCtx c fun x =>
    { x with
      toggle := !x.toggle, retry := 0, nak := 0, acc := x.acc.feedAll img.payload
      stream := x.stream + img.payload.length, pacing := startTimer (s.cfg c).pacing.toNat }

/-- A DATA frame answered ACK: the next frame's fetch, or the completion of the message (R83, R84). -/
def State.dataAcked (s : State) (c : ChanId) (img : Frame) : State :=
  let t := s.advance c img
  if img.position.ends then t.completeMessage c else t.fetch c

/-- The current frame answered NAK (R85). -/
def State.nakAnswered (s : State) (c : ChanId) : State :=
  let p := s.station.nakPatience.toNat
  let b := startTimer s.station.nakBackoff.toNat
  if p = 0 then s.modCtx c fun x => { x with nak := saturate x.nak, backoff := b }
  else if (s.ctx c).nak + 1 < p then s.modCtx c fun x => { x with nak := x.nak + 1, backoff := b }
  else s.enterHalted c .peerBusy

/-- Exhaustion of a SEND channel's retries toward its peer (R91): the look is part of it. -/
def State.exhaust (s : State) (c : ChanId) : State :=
  ((s.modCtx c fun x => { x with retry := 0 }).presenceExhausted (s.cfg c).peerStation).look c

/-- The current frame ended NONE or BIT_ERROR, or an OPEN was answered REOPEN (R87). -/
def State.countRetry (s : State) (c : ChanId) : State :=
  if (s.ctx c).retry < s.station.retryLimit.toNat then
    s.modCtx c fun x => { x with retry := x.retry + 1, backoff := startTimer s.station.silenceBackoff.toNat }
  else s.exhaust c

/-- The rewind of a SEND channel to OPENING (R88, R49). -/
def Context.rewind (x : Context) : Context :=
  { x with stream := 0, acc := .cleared, retry := 0, nak := 0, state := .opening }

/-- What an outcome does to a SEND channel whose attempt carried the image (5.3). -/
def State.sendOutcome (s : State) (c : ChanId) (img : Frame) : AttemptOutcome → State
  | .answered .ack => if img.kind = .openF then s.openAcked c else s.dataAcked c img
  | .answered .nak => s.nakAnswered c
  | .answered .halt => s.enterHalted c .peerHalt
  | .answered .reopen => if img.kind = .openF then s.countRetry c else s.modCtx c Context.rewind
  | .none => s.countRetry c
  | .bitError => s.countRetry c
  | .lost | .wakeCollision | .abandoned | .sent => s

/-- What an outcome does to a PUBLISH channel: SENT completes the message, every other keeps it (R121, R122). -/
def State.publishOutcome (s : State) (c : ChanId) : AttemptOutcome → State
  | .sent => (s.modCtx c fun x => { x with pacing := startTimer (s.cfg c).pacing.toNat }).completeMessage c
  | .answered _ | .none | .bitError | .lost | .wakeCollision | .abandoned => s

/-- After an outcome has been applied: the deferred HALT, else a look at the offer conditions (R51, R79). -/
def State.settleHalt (s : State) (c : ChanId) : State :=
  if (s.ctx c).haltReq then s.enterHalted c .host else s.look c

/-- An outcome handed to the channel that owns the attempt (R36). -/
def State.channelOutcome (s : State) (c : ChanId) (img : Frame) (o : AttemptOutcome) : State :=
  let t :=
    match (s.cfg c).kind with
    | .send => s.sendOutcome c img o
    | .publish => s.publishOutcome c o
    | .off | .take | .subscribe => s
  t.settleHalt c

end Sys2Proof.Machine
end

