-- ==== Sys2Proof/Machine/Taking.lean ====
section
/-! DEFINITION. TAKE channels: the response decision (R98 to R107), the commit of an acceptance record (R108 to R113), cuts
(R114, R115); and SUBSCRIBE channels: matching, storing and dropping (R126 to R128). -/

namespace Sys2Proof.Machine

/-- HOLDING after a write-back of a slot that holds, when the channel stands in RUNNING (R72, R115). -/
def State.holdAfter (s : State) (c : ChanId) (holds : Bool) : State :=
  if holds ∧ (s.ctx c).state = .running then s.modCtx c fun x => { x with state := .holding } else s

/-- A current descriptor written back with the bytes used as count, then HOLDING where the slot asks for it (R70, R72). -/
def State.closeCurrent (s : State) (c : ChanId) (d : SlotCopy) (st : Status) (endMark : Bool) : State :=
  let holds := (s.slot d.slot).holds
  (s.writeBack c d.slot st (s.ctx c).bytesUsed (some endMark)).holdAfter c holds

/-- A context with its message ended: number incremented, no current descriptor, no open message, accumulator cleared
(R110, R114). -/
def Context.endMessage (x : Context) : Context :=
  { x with
    msgNo := x.msgNo + 1, current := none, openMsg := false, openBytes := 0, bytesUsed := 0, acc := .cleared }

/-- The cut of an open message; nothing when none is open (R114). -/
def State.cut (s : State) (c : ChanId) : State :=
  match (s.ctx c).current with
  | some d => (s.closeCurrent c d .cut true).modCtx c Context.endMessage
  | none => s

/-- A NAK for lack of space: DRAINED raised once (R107). -/
def State.lackOfSpace (s : State) (c : ChanId) : State :=
  if (s.ctx c).drainNoted then s else (s.modCtx c fun x => { x with drainNoted := true }).raiseDrained c

/-- An ACK with its acceptance record (R98). -/
def State.accept (s : State) (c : ChanId) (form : AcceptForm) : State × Answer :=
  (s.modCtx c fun x => { x with acceptance := some { form := form, withdrawn := false } }, .ack)

/-- The decision for a frame that needs a fresh descriptor (R105, R106). -/
def State.decideFresh (s : State) (c : ChanId) (f : Frame) (closes : Closes) : State × Answer :=
  match s.search c with
  | (t, .found d) =>
    t.accept c (.store { target := .found d, closes := closes, position := f.position, payload := f.payload, sum := f.chain })
  | (t, .noSpace) => (t.lackOfSpace c, .nak)
  | (t, .badRange) => (t, .halt)

/-- Whether the current descriptor has room for `n` bytes (R106). -/
def Context.hasRoom (x : Context) (n : Nat) : Bool :=
  match x.current with
  | some d => x.bytesUsed + n ≤ d.length.toNat
  | none => false

/-- The decision for a DATA frame with the expected toggle in RUNNING (R104 to R106). -/
def State.decideData (s : State) (c : ChanId) (f : Frame) : State × Answer :=
  let x := s.ctx c
  if f.position.begins then s.decideFresh c f (if x.openMsg then .cut else .nothing)
  else if x.openMsg = false then (s, .reopen)
  else if x.hasRoom f.payload.length then
    s.accept c (.store { target := .current, closes := .nothing, position := f.position, payload := f.payload, sum := f.chain })
  else s.decideFresh c f .done

/-- The response decision: the checks of R99 to R106 in their order (R98). A TAKE channel has no other states than these
four (R46); the two it cannot be in answer as STOPPED (log entry 17). -/
def State.decide (s : State) (c : ChanId) (f : Frame) : State × Answer :=
  let g := s.cfg c
  let x := s.ctx c
  if g.kind ≠ .take ∨ g.peerStation ≠ f.source then (s, .halt)
  else if g.maxPayload < f.payload.length then (s, .halt)
  else
    match x.state with
    | .stopped | .opening | .drained => (s, .nak)
    | .halted => (s, .halt)
    | .holding => if f.kind = .openF then s.accept c .openF else (s, .nak)
    | .running =>
      if f.kind = .openF then s.accept c .openF
      else if f.toggle ≠ x.toggle then s.accept c .duplicate
      else s.decideData c f

/-- Steps 1 to 3 of a STORE commit: the current descriptor cut or closed, the found slot taken (R109). -/
def State.commitTarget (s : State) (c : ChanId) (w : StoreWork) : State :=
  let s1 :=
    match w.closes with
    | .cut => s.cut c
    | .done =>
      match (s.ctx c).current with
      | some d => (s.closeCurrent c d .done false).modCtx c fun x => { x with current := none, bytesUsed := 0 }
      | none => s
    | .nothing => s
  match w.target with
  | .found d => (s1.stepWalker c).modCtx c fun x => { x with current := some d, bytesUsed := 0 }
  | .current => s1

/-- Steps 4 to 8 of a STORE commit: bytes stored, counts, toggle, accumulator, drain-noted (R109). -/
def State.commitBytes (s : State) (c : ChanId) (w : StoreWork) : State :=
  let x := s.ctx c
  let s1 :=
    match x.current with
    | some d => s.store (d.offset + BitVec.ofNat 12 x.bytesUsed) w.payload
    | none => s
  s1.modCtx c fun x =>
    { x with
      bytesUsed := x.bytesUsed + w.payload.length
      openMsg := true
      openBytes := (if w.position.begins then 0 else x.openBytes) + w.payload.length
      toggle := !x.toggle
      acc := (if w.position.begins then ChainAcc.cleared else x.acc).feedAll w.payload
      drainNoted := false }

/-- The completion of a received message: END when the sums are equal, else SUM_ERROR (R110). -/
def State.completeTaken (s : State) (c : ChanId) (sum : Option Word) : State :=
  let x := s.ctx c
  let st := if sum = some x.acc.close then Status.endS else Status.sumError
  match x.current with
  | some d => (s.closeCurrent c d st true).modCtx c Context.endMessage
  | none => s

/-- The commit of a STORE record (R109). -/
def State.commitStore (s : State) (c : ChanId) (w : StoreWork) : State :=
  let t := (s.commitTarget c w).commitBytes c w
  if w.position.ends then t.completeTaken c w.sum else t

/-- The commit of a record that a CLEAR has withdrawn: its toggle and count change only (R113). -/
def State.commitWithdrawn (s : State) (c : ChanId) : AcceptForm → State
  | .store _ => s.modCtx c fun x => { x with toggle := !x.toggle }
  | .openF => s.modCtx c fun x => { x with toggle := false }
  | .duplicate => s.modCtx c fun x => { x with duplicates := saturate x.duplicates }

/-- The commit of an acceptance record at the end of its ACK; the record becomes absent (R108 to R113). -/
def State.commit (s : State) (c : ChanId) : State :=
  match (s.ctx c).acceptance with
  | none => s
  | some r =>
    let t := s.modCtx c fun x => { x with acceptance := none }
    if r.withdrawn then t.commitWithdrawn c r.form
    else
      match r.form with
      | .store w => t.commitStore c w
      | .openF => (t.cut c).modCtx c fun x => { x with toggle := false, drainNoted := false }
      | .duplicate => t.modCtx c fun x => { x with duplicates := saturate x.duplicates }

/-- Every acceptance record discarded, and no response byte left to send (R108, R116). -/
def State.discardAcceptances (s : State) : State :=
  { s with
    contexts := s.contexts.mapIdx fun _ x => { x with acceptance := none }
    line := { s.line with response := none } }

/-- The open message of every TAKE channel cut (R116). -/
def State.cutAll (s : State) : State :=
  s.forChannels fun t c => if (t.cfg c).kind = .take then t.cut c else t

/-- A matching frame dropped (R128). -/
def State.dropFrame (s : State) (c : ChanId) : State :=
  (s.modCtx c fun x => { x with drops := saturate x.drops }).raiseDrop c

/-- A matching frame stored in a found slot, which is written back END (R127). -/
def State.storePublished (s : State) (c : ChanId) (d : SlotCopy) (payload : List Byte) : State :=
  (((s.store d.offset payload).writeBack c d.slot .endS payload.length (some true)).stepWalker c).modCtx c fun x =>
    { x with msgNo := x.msgNo + 1 }

/-- A matching frame at a SUBSCRIBE channel (R126 to R128). -/
def State.subscribed (s : State) (c : ChanId) (f : Frame) : State :=
  if (s.ctx c).state ≠ .running then s
  else if (s.cfg c).maxPayload < f.payload.length then s.dropFrame c
  else
    match s.search c with
    | (t, .found d) => t.storePublished c d f.payload
    | (t, .noSpace) => t.dropFrame c
    | (t, .badRange) => t.dropFrame c

/-- Whether a SUBSCRIBE channel matches a PUBLISH frame (R126). -/
def State.matches (s : State) (f : Frame) (c : ChanId) : Bool :=
  let g := s.cfg c
  g.kind == .subscribe && g.peerStation == f.source && g.peerChannel.toFin == f.channel

/-- A PUBLISH frame offered to the SUBSCRIBE channel that matches it; JOIN lets at most one (R126, R43). -/
def State.publishHeard (s : State) (f : Frame) : State :=
  match chanList.find? (s.matches f) with
  | some c => s.subscribed c f
  | none => s

end Sys2Proof.Machine
end

