-- ==== Sys2Proof/Machine/Modes.lean ====
section
/-! DEFINITION. The Mode Controller: the entries to the six modes (R146 to R172), the withdrawal (R154), the line error
count (R150 to R152), clash reports (R155), safe faults (R158) and wake events (R159, R160). -/

namespace Sys2Proof.Machine

/-- The line record on entry to SLEEP or SAFE: idle count, dominant-run timer, own run and stuck flag are kept, the line is
BUSY in RESYNC and everything else is discarded (R3). The dominant bit count is not kept there; it reads 0 (log entry 3). -/
def LineRecord.doze (l : LineRecord) : LineRecord :=
  { LineRecord.reset with idleCount := l.idleCount, runTimer := l.runTimer, ownRun := l.ownRun, stuck := l.stuck }

/-- The Wake Detector turned on: the accepted level is the pin's, and no difference runs (R173, R174). -/
def WakeDetector.turnOn (w : WakeDetector) : WakeDetector := { w with on := true, accepted := w.pin, difference := 0 }

/-- The Wake Detector turned idle: the filter stops (R173, R174). -/
def WakeDetector.turnIdle (w : WakeDetector) : WakeDetector := { w with on := false, difference := 0 }

/-- A latched attempt ends ABANDONED (R35). A channel acts on it (R89, R122); the Beacon Generator and the announcer place
nothing (R142, R169), and the wake request stays set (R25). -/
def State.abandonLatch (s : State) : State :=
  match s.arb.latch with
  | none => s
  | some a =>
    let t := s.modArb fun b => { b with latch := none }
    match a.owner, a.form with
    | .channel c, .frame img => t.channelOutcome c img .abandoned
    | _, _ => t

/-- The Beacon Generator leaving ACTIVE: timer stopped, offer withdrawn (R141). -/
def State.stopBeacon (s : State) : State :=
  { s with beaconTimer := none, arb := { s.arb with beaconOffer := false } }

/-- A SLEEP command that waits is discarded, with the announcer's offer (R154, R167). -/
def State.dropPendingSleep (s : State) : State :=
  { s with mc := { s.mc with pendingSleep := .none }, arb := { s.arb with announceOffer := false } }

/-- The withdrawal of the station from the line (R154). -/
def State.withdraw (s : State) : State :=
  s.dropPendingSleep.stopBeacon.abandonLatch.discardAcceptances.cutAll.presenceClear

/-- The entry to RESTART (R153). -/
def State.enterRestart (s : State) (cause : EntryCause) : State :=
  let t := s.withdraw
  ({ t with
      mc :=
        { t.mc with
          mode := .restart, entryCause := cause, safeFault := .none, listenTimer := none
          restartTimer := some Config.restartDelay, safeTimer := none }
      line := .reset
      wake := t.wake.turnIdle } : State).raiseMode

/-- Entry cause of SAFE that names a safe fault (R144). -/
def SafeFault.cause : SafeFault → EntryCause
  | .none => .none
  | .stuck => .stuck
  | .clash => .clash
  | .restartLimit => .restartLimit

/-- The entry to SAFE (R157). -/
def State.enterSafe (s : State) (fault : SafeFault) : State :=
  let t := s.withdraw
  ({ t with
      mc :=
        { t.mc with
          mode := .safe, entryCause := fault.cause, safeFault := fault, limp := true, listenTimer := none
          safeTimer := startTimer t.station.safeMs }
      line := t.line.doze
      wake := t.wake.turnOn } : State).raiseMode

/-- The entry to SLEEP from ACTIVE (R171). -/
def State.enterSleep (s : State) (cause : EntryCause) : State :=
  let t := s.dropPendingSleep.stopBeacon.abandonLatch.discardAcceptances
  ({ t with
      mc := { t.mc with mode := .sleep, entryCause := cause }
      line := t.line.doze
      wake := t.wake.turnOn } : State).raiseMode

/-- The entry to SLEEP from SAFE, which is not a withdrawal: the Wake Detector stays on (R159). -/
def State.enterSleepFromSafe (s : State) (cause : EntryCause) : State :=
  (s.modMc fun m =>
    { m with mode := .sleep, entryCause := cause, safeTimer := none, pendingSleep := .none }).raiseMode

/-- The entry to LISTEN, from SETUP or RESTART (R148). -/
def State.enterListen (s : State) : State :=
  ({ s with
      mc :=
        { s.mc with
          mode := .listen, lineErrors := 0, restartTimer := none, listenTimer := startTimer s.station.listenMs }
      line := .reset } : State).raiseMode

/-- The entry to ACTIVE: a beacon is due and its timer starts (R149, R141). -/
def State.enterActive (s : State) : State :=
  ({ s with
      mc := { s.mc with mode := .active, listenTimer := none }
      arb := { s.arb with beaconOffer := true }
      beaconTimer := startTimer s.station.beaconMs } : State).raiseMode

/-- The restart count raised by a line error count of 128 or more, and the entry to RESTART or SAFE that follows (R152). -/
def State.escalate (s : State) : State :=
  if s.mc.restarts + 1 < s.station.restartLimit.toNat then
    (s.modMc fun m => { m with restarts := m.restarts + 1 }).enterRestart .errors
  else (s.modMc fun m => { m with restarts := 0 }).enterSafe .restartLimit

/-- A report that raises the line error count by `n`, taken in LISTEN and ACTIVE, else discarded (R150 to R152). -/
def State.reportRise (s : State) (n : Nat) : State :=
  if s.mc.mode.listens then
    let e := min Config.countTop (s.mc.lineErrors + n)
    let t := s.modMc fun m => { m with lineErrors := e }
    let u := if s.mc.lineErrors < Config.warnLevel ∧ Config.warnLevel ≤ e then t.raiseWarn else t
    if Config.restartLevel ≤ e then u.escalate else u
  else s

/-- A good reception or transmission: the count falls by one, not below 0 (R150). -/
def State.reportGood (s : State) : State :=
  if s.mc.mode.listens then s.modMc fun m => { m with lineErrors := m.lineErrors - 1 } else s

/-- An address clash report (R155). -/
def State.reportClash (s : State) : State := if s.mc.mode.listens then s.enterSafe .clash else s

/-- Whether the safe fault is cleared (R158). -/
def State.faultCleared (s : State) : Bool :=
  match s.mc.safeFault with
  | .none | .restartLimit => true
  | .stuck => !s.line.stuck
  | .clash => false

/-- A wake event at the Mode Controller (R159, R160); in other modes it is discarded (R173). -/
def State.wakeEvent (s : State) : State :=
  match s.mc.mode with
  | .safe => if s.faultCleared then s.enterRestart .safeWake else s.enterSleepFromSafe .safeFault
  | .sleep => if s.faultCleared then s.enterRestart .wake else s
  | .setup | .listen | .active | .restart => s

end Sys2Proof.Machine
end

