-- ==== Sys2Proof/Machine/Arbiter.lean ====
section
/-! DEFINITION. The Station Arbiter: the choice rule (R27, R28), the image built at the pick (R29), the start of an attempt
(R30), and the end of one: its outcome handed to the owner with the reports that go with it (R36). -/

namespace Sys2Proof.Machine

/-! ### The choice (R26 to R28) -/

/-- Channels in the order of a round-robin search: from the one after the pointer, wrapping from 15 to 0 (R28). -/
def roundRobin (pointer : ChanId) : List ChanId := chanList.map fun k => pointer + 1 + k

/-- Whether a channel has an offer of class `k` in the set (R24). -/
def State.offersInClass (s : State) (k : Fin 4) (c : ChanId) : Bool :=
  s.arb.offers.get c && (s.cfg c).prio.toFin == k

/-- The channel that round robin picks in class `k` (R28). -/
def State.nextInClass (s : State) (k : Fin 4) : Option ChanId :=
  (roundRobin (s.arb.pointers.get k)).find? (s.offersInClass k)

/-- The owner picked among the frame offers of class `k` and above: the beacon goes before any channel of class 1 (R27). -/
def State.chooseClass (s : State) : List (Fin 4) → Option Owner
  | [] => none
  | k :: ks =>
    if k = 1 ∧ s.arb.beaconOffer then some .beacon
    else
      match s.nextInClass k with
      | some c => some (.channel c)
      | none => s.chooseClass ks

/-- The choice rule (R27). -/
def State.choose (s : State) : Option Owner :=
  if s.arb.announceOffer then some .announcer
  else if s.arb.wakeRequest then some .wakeRequest
  else s.chooseClass [0, 1, 2, 3]

/-- R26: whether a pick is made now; while the pending sleep is QUIET none is (R170). -/
def State.canPick (s : State) : Bool :=
  s.mc.mode == .active && s.line.state == .idle && s.arb.latch.isNone && s.mc.pendingSleep != .quiet

/-! ### The image (R29) -/

/-- A broadcast frame of the station itself, of class 1 (R143, R169). -/
def State.stationFrame (s : State) (kind : FrameKind) (payload : List Byte) : Frame :=
  { prio := 1, source := s.station.ownAddress, toggle := false, kind := kind, channel := 0, dest := allStations
    position := .only, payload := payload, chain := none }

/-- The frame of a channel's offer (R75, R119). -/
def State.channelFrame (s : State) (c : ChanId) : Frame :=
  if (s.cfg c).kind = .publish then s.publishFrame c else s.sendFrame c

/-- The form and image of an owner's attempt (R29). -/
def State.formOf (s : State) : Owner → Form
  | .channel c => .frame (s.channelFrame c)
  | .beacon =>
    .frame (s.stationFrame .beacon (beaconPayload s.station.beaconInterval s.mc.restarts s.station.followSleep))
  | .announcer => .frame (s.stationFrame .sleep [])
  | .wakeRequest => .pulse

/-- The picked offer leaves the set, the wake request stays set (R24, R25); the pointer of a channel's class moves to it
(R28). -/
def State.takeOffer (s : State) : Owner → State
  | .channel c =>
    s.modArb fun a =>
      { a with offers := a.offers.set c false, pointers := a.pointers.set (s.cfg c).prio.toFin c }
  | .beacon => s.modArb fun a => { a with beaconOffer := false }
  | .announcer => s.modArb fun a => { a with announceOffer := false }
  | .wakeRequest => s

/-- The attempt latched in phase WAITING (R29, R30). -/
def State.latchAttempt (s : State) (o : Owner) : State :=
  (s.takeOffer o).modArb fun a => { a with latch := some { owner := o, form := s.formOf o, phase := .waiting } }

/-- The latched attempt begins: the start bit of H0, or the first dominant time of the pulse (R30, R34). The line is BUSY in
FRAME from there (R4; log entry 30), and a frame has the nine bit times of H0 before it (R30). -/
def State.beginAttempt (s : State) : State :=
  match s.arb.latch with
  | none => s
  | some a =>
    let pulse := a.form == .pulse
    let t :=
      s.modArb fun b => { b with latch := some { a with phase := if pulse then .pulse else .arbitration } }
    (t.modLine fun l =>
      { l with
        state := .busy .frame, idleCount := 0, frameRecord := [], dominantBits := 1, ownRun := pulse }).modClock fun k =>
      { k with h0Left := if pulse then 0 else Config.h0Bits }

/-! ### The end of an attempt (R36) -/

/-- What the outcome does at the owner of the attempt (R25, R36, R142, R169). -/
def State.ownerOutcome (s : State) (a : Attempt) (o : AttemptOutcome) : State :=
  match a.owner, a.form with
  | .channel c, .frame img => s.channelOutcome c img o
  | .channel _, .pulse => s
  | .beacon, _ =>
    match o with
    | .lost | .bitError | .wakeCollision => s.modArb fun b => { b with beaconOffer := true }
    | .answered _ | .none | .sent | .abandoned => s
  | .announcer, _ =>
    match o with
    | .lost | .bitError | .wakeCollision =>
      s.modArb fun b => { b with announceOffer := s.mc.pendingSleep == .announce }
    | .answered _ | .none | .sent | .abandoned => s
  | .wakeRequest, _ =>
    match o with
    | .sent => (s.modArb fun b => { b with wakeRequest := false }).presencePulse
    | .answered _ | .none | .lost | .bitError | .wakeCollision | .abandoned => s

/-- The beacon timer started again when the station has been heard (R142). -/
def State.heardOnLine (s : State) : State :=
  if s.mc.mode = .active then { s with beaconTimer := startTimer s.station.beaconMs } else s

/-- The reports that go with an outcome (R36, R150). -/
def State.outcomeReports (s : State) : AttemptOutcome → State
  | .answered _ | .sent => s.heardOnLine.reportGood
  | .bitError => s.reportRise Config.transmitErrorRise
  | .none | .lost | .wakeCollision | .abandoned => s

/-- The latched attempt ends: the latch is emptied, the outcome handed to the owner, and the reports made (R36; log entry
12). -/
def State.handOver (s : State) (o : AttemptOutcome) : State :=
  match s.arb.latch with
  | none => s
  | some a => ((s.modArb fun b => { b with latch := none }).ownerOutcome a o).outcomeReports o

/-- The entry to SLEEP that waits for the end of an attempt (R170). -/
def State.finishQuiet (s : State) : State :=
  if s.mc.mode = .active ∧ s.mc.pendingSleep = .quiet ∧ s.arb.latch = none then s.enterSleep .command else s

/-- Whether the latched attempt is the SLEEP announcer's. -/
def State.announcing (s : State) : Bool :=
  match s.arb.latch with
  | some a => a.owner == .announcer
  | none => false

/-- The end of an attempt with the entry to SLEEP that may follow it: the announce has been SENT (R169), or a QUIET sleep
has waited (R170). -/
def State.endAttempt (s : State) (o : AttemptOutcome) : State :=
  let t := s.handOver o
  if s.announcing ∧ o = .sent ∧ t.mc.mode = .active then t.enterSleep .command else t.finishQuiet

/-- Phase of the latched attempt, if there is one. -/
def State.phase? (s : State) : Option AttemptPhase := s.arb.latch.map (·.phase)

/-- The latched attempt passes to another phase (R30). -/
def State.setPhase (s : State) (p : AttemptPhase) : State :=
  s.modArb fun b => { b with latch := b.latch.map fun a => { a with phase := p } }

end Sys2Proof.Machine
end

