-- ==== Sys2Proof/Machine/LineEvents.lean ====
section
/-! DEFINITION. The events of the line in reception: start bits and idle gaps (R4, R5), bad and valid frames (R8 to R15), the
response window (R16 to R19), dominant runs (R20, R21), and the response byte the station sends (R17, R108). An event that
comes where the manual says it cannot arise changes nothing: log entry 4. -/

namespace Sys2Proof.Machine

/-! ### The line record -/

/-- The line in RESYNC with what was being read discarded (R5, R11), `idle` recessive bit times and `run` dominant ones
counted. -/
def LineRecord.resync (l : LineRecord) (idle run : Nat) : LineRecord :=
  { l with state := .busy .resync, idleCount := idle, frameRecord := [], window := none, dominantBits := run }

/-- A dominant run is over: `idle` recessive bit times have passed (R3, R4, R20). -/
def LineRecord.recessive (l : LineRecord) (idle : Nat) : LineRecord :=
  { l with idleCount := idle, runTimer := 0, dominantBits := 0, ownRun := false }

/-- The line at the end of a valid frame: in WINDOW with its record when the frame is DATA or OPEN, else in GAP (R4, R16). -/
def LineRecord.frameDone (l : LineRecord) (f : Frame) (bytes : List Byte) (part : WindowPart) : LineRecord :=
  { l with
    state := .busy (if f.kind.broadcast then .gap else .window)
    idleCount := idleAfterBytes bytes
    frameRecord := bytes
    window := if f.kind.broadcast then none else some { dest := f.dest, part := part }
    dominantBits := 0 }

/-- The line at the close of a window: in GAP (R16). -/
def LineRecord.closeWindow (l : LineRecord) (idle : Nat) : LineRecord :=
  { l with state := .busy .gap, idleCount := idle, window := none, dominantBits := 0 }

/-- Recessive bit times since the last dominant bit when the window closes; silence leaves at least twelve (R4, R16). -/
def idleAtClose (read : Option Byte) : Nat :=
  match read with
  | some b => idleAfter b
  | none => Config.idleGap

/-- The stuck flag cleared at the twelfth recessive bit time (R21). -/
def LineRecord.gapDone (l : LineRecord) : LineRecord := { l.recessive Config.idleGap with stuck := false }

/-! ### Start bits and gaps (R4, R5) -/

/-- A start bit of another station begins in IDLE or in GAP (R4). -/
def State.startBit (s : State) : State :=
  if s.mc.mode.listens ∧ (s.line.state = .idle ∨ s.line.state = .busy .gap) then
    s.modLine fun l =>
      { l with
        state := .busy .frame, idleCount := 0, frameRecord := [], dominantBits := 1, runTimer := 0, ownRun := false }
  else s

/-- A WAITING attempt begins when the line becomes IDLE (R30). -/
def State.startWaiting (s : State) : State := if s.phase? = some .waiting then s.beginAttempt else s

/-- The twelfth recessive bit time of a gap (R4, R21). -/
def State.gapComplete (s : State) : State :=
  if s.mc.mode.dozes then s.modLine LineRecord.gapDone
  else if s.mc.mode.listens ∧ s.line.state = .busy .gap then
    (s.modLine fun l => { l.gapDone with state := .idle }).startWaiting
  else s

/-- The twelfth recessive bit time in RESYNC: GAP, with the idle count started again (R5). -/
def State.resyncComplete (s : State) : State :=
  if s.mc.mode.dozes then s.modLine LineRecord.gapDone
  else if s.mc.mode.listens ∧ s.line.state = .busy .resync then
    s.modLine fun l => { l.gapDone with state := .busy .gap, idleCount := 0 }
  else s

/-! ### Bad frames (R8, R11, R12) -/

/-- A bad header at the end of H3 (R8). -/
def State.badHeader (s : State) (h0 h1 h2 h3 : Byte) : State :=
  if s.receiving ∧ headerGood h0 h1 h2 h3 = false then
    (s.modLine fun l => l.resync (idleAfter h3) 0).reportRise 1
  else s

/-- A framing error (R11). The run of like bits reaches back from the bit at fault into the last byte read (R4, R22). -/
def State.badFraming (s : State) (kind : FramingFault) : State :=
  if s.receiving then
    match kind with
    | .dominantStop byte => s.modLine fun l => { l.resync 0 (dominantThroughStop byte) with heldError := true }
    | .missingStart before => (s.modLine fun l => l.resync (idleAfter before + 1) 0).reportRise 1
  else s

/-- A CRC error: RESYNC, the clash watch armed in ACTIVE where the frame was a DATA or OPEN frame for this station, and one
receive error (R12, R19). -/
def State.badCrc (s : State) (f : Frame) (bytes : List Byte) : State :=
  let watch := s.mc.mode == .active && !f.kind.broadcast && f.dest == s.station.ownAddress
  (s.modLine fun l => { l.resync (idleAfterBytes bytes) 0 with clashWatch := l.clashWatch || watch }).reportRise 1

/-! ### Valid frames (R14, R15) -/

/-- The effects of a frame on the Presence Table (R131 to R133). -/
def State.presenceHears (s : State) (f : Frame) : State :=
  match stationOf f.source with
  | none => s
  | some a =>
    match f.kind with
    | .beacon => s.beaconHeard a f.payload
    | .sleep => s.announceHeard a
    | .data | .openF | .publish => s.stationHeard a

/-- Whether a channel keeps the station from following an announce (R172). -/
def State.busyChannel (s : State) (c : ChanId) : Bool :=
  let x := s.ctx c
  match (s.cfg c).kind with
  | .send =>
    x.state == .opening || x.state == .running || x.state == .holding || (x.state == .drained && 0 < x.stream)
  | .publish => x.state == .opening || x.state == .running || x.state == .holding
  | .off | .take | .subscribe => false

/-- A SLEEP frame at the Mode Controller in ACTIVE (R172). -/
def State.followAnnounce (s : State) : State :=
  if s.station.followSleep ∧ chanList.all (fun c => !s.busyChannel c) then s.enterSleep .follow else s

/-- The response decision with the byte handed to the Line Engine (R98, R17). -/
def State.respond (s : State) (f : Frame) : State :=
  let (t, a) := s.decide f.channel f
  t.modLine fun l => { l with response := some { answer := a, channel := f.channel } }

/-- The deliveries of a valid frame of another station, by kind and mode (R15). -/
def State.deliver (s : State) (f : Frame) : State :=
  let t := s.presenceHears f
  let mine := f.dest = s.station.ownAddress
  if s.mc.mode = .active then
    match f.kind with
    | .data | .openF => if mine then t.respond f else t
    | .publish => t.publishHeard f
    | .beacon => t
    | .sleep => t.followAnnounce
  else
    match f.kind with
    | .data | .openF => if mine then t.modLine fun l => { l with clashWatch := true } else t
    | .publish | .beacon | .sleep => t

/-- A valid frame of another station at its frame end: a good reception, then a clash or the deliveries (R12, R14, R15; log
entry 25). -/
def State.goodFrame (s : State) (f : Frame) (bytes : List Byte) : State :=
  let part := if f.dest = s.station.ownAddress then WindowPart.destination else .observer
  let t := (s.modLine fun l => l.frameDone f bytes part).reportGood
  if f.source = s.station.ownAddress then t.reportClash else t.deliver f

/-- The end of a received frame (R9, R12). -/
def State.receiveFrame (s : State) (bytes : List Byte) : State :=
  if s.receiving then
    match Frame.ofBytes bytes with
    | none => s
    | some f => if crcPasses bytes then s.goodFrame f bytes else s.badCrc f bytes
  else s

/-! ### The own response byte (R17, R108) -/

/-- The response byte is over; the record of an ACK is committed (R108). -/
def State.endResponse (s : State) (r : Response) : State :=
  let t := s.modLine fun l => { l with response := none }
  if r.answer = .ack then t.commit r.channel else t

/-- Whether the station follows the window of a frame addressed to it (R16). -/
def LineRecord.answering (l : LineRecord) : Bool :=
  l.state == .busy .window &&
    match l.window with
    | some w => w.part == .destination
    | none => false

/-- The own response byte has been sent whole: the window closes with it (R16, R108). Where the window is broken already the line
stays in its phase, and the idle count alone follows the byte (R4, R17). -/
def State.responseSent (s : State) : State :=
  match s.line.response with
  | none => s
  | some r =>
    let t := s.endResponse r
    let idle := idleAfter r.answer.byte
    t.modLine fun l => if l.answering then l.closeWindow idle else l.recessive idle

/-- A bit of the own response byte reads back wrong: the line is released, the commit is made, and an own transmit error is
reported (R17, R108). The idle count is the least that the event shows, since its bit may have been read dominant (log entry 3). -/
def State.responseFaulted (s : State) : State :=
  match s.line.response with
  | none => s
  | some r => ((s.endResponse r).modLine fun l => { l with idleCount := 0 }).reportRise Config.transmitErrorRise

/-! ### The window of another station's or the own frame (R16, R18, R19) -/

/-- Whether the station follows a window now. -/
def State.inWindow (s : State) : Bool := s.mc.mode.listens && s.line.state == .busy .window && s.line.window.isSome

/-- Whether the station waits for the answer to its own frame (R33). -/
def State.awaitsAnswer (s : State) : Bool := s.mc.mode == .active && s.phase? == some .answer

/-- The destination of the own frame heard through its response byte (R18, R131). -/
def State.destinationHeard (s : State) : State :=
  match s.line.window with
  | some w =>
    match stationOf w.dest with
    | some a => s.stationHeard a
    | none => s
  | none => s

/-- The sender's answer at the close of its window (R18; log entry 13). A damaged byte has been reported when its NONE is
reached (R33): where the report takes the station off the line, the attempt has ended ABANDONED (R35, R37). -/
def State.takeAnswer (s : State) (read : Option Byte) : State :=
  match read with
  | none => s.endAttempt .none
  | some b =>
    match Answer.ofByte b with
    | some a => s.endAttempt (.answered a)
    | none => (s.reportRise 1).endAttempt .none

/-- The window closes on a byte or on silence (R16, R18). DESIGN CHOICE (log entry 36): on silence the idle count holds 12 when
the line passes to GAP, and the line stays in GAP until its own IDLE_GAP_COMPLETE. -/
def State.closeWindow (s : State) (read : Option Byte) : State :=
  if s.inWindow then
    let heard :=
      if s.awaitsAnswer ∧ (read.bind Answer.ofByte).isSome then s.destinationHeard else s
    let t := heard.modLine fun l => l.closeWindow (idleAtClose read)
    if s.awaitsAnswer then t.takeAnswer read else t
  else s

/-- A dominant bit out of place, or a dominant stop bit in the response byte: RESYNC, and for the sender the answer NONE with
a held error (R16, R18). -/
def State.breakWindow (s : State) : State :=
  if s.inWindow then
    if s.awaitsAnswer then (s.modLine fun l => { l.resync 0 1 with heldError := true }).endAttempt .none
    else s.modLine fun l => l.resync 0 1
  else s

/-- A response byte under an armed clash watch, at its recessive stop bit (R19; log entry 3 for the idle count). -/
def State.clashSeen (s : State) : State :=
  if s.line.clashWatch then (s.modLine fun l => { l.recessive 1 with clashWatch := false }).reportClash else s

/-- The clash watch disarmed (R19). -/
def State.disarmWatch (s : State) : State := s.modLine fun l => { l with clashWatch := false }

/-! ### Dominant runs (R20, R21) -/

/-- An own attempt that a run of 0.5 ms finds latched with its frame on the line: its run of 16 bit times, or its dominant
bit out of place, has come before (R22, R32, R33; log entry 31). -/
def State.endByRun (s : State) : State :=
  match s.phase? with
  | some .arbitration | some .sending | some .checking => s.endAttempt .wakeCollision
  | some .answer => s.endAttempt .none
  | some .waiting | some .pulse | none => s

/-- The line when a dominant run reaches 0.5 ms in LISTEN or ACTIVE: RESYNC, the open records discarded, the watch disarmed,
a held error dropped (R20). -/
def LineRecord.halfMs (l : LineRecord) : LineRecord :=
  { l.resync 0 Config.collisionBits with clashWatch := false, heldError := false, runTimer := Config.wakeSteps }

/-- A dominant run reaches 0.5 ms (R20). -/
def State.halfMs (s : State) : State :=
  if s.mc.mode.listens then (s.modLine LineRecord.halfMs).endByRun
  else if s.mc.mode.dozes then s.modLine fun l => { l with idleCount := 0, runTimer := Config.wakeSteps }
  else s

/-- A dominant run that holds an error ends before 0.5 ms: one receive error (R20). -/
def State.countHeldError (s : State) : State :=
  if s.mc.mode.listens ∧ s.line.heldError then
    (s.modLine fun l => { l.recessive 1 with heldError := false }).reportRise 1
  else s

/-- The Presence Table takes a wake pulse heard in LISTEN, ACTIVE and SLEEP (R20, R135). -/
def State.pulseAtTable (s : State) : State :=
  if s.mc.mode.listens ∨ s.mc.mode = .sleep then s.presencePulse else s

/-- The Wake Detector takes a wake pulse: a wake event when it is on and line wake is enabled (R173). -/
def State.pulseAtDetector (s : State) : State :=
  if s.wake.on ∧ s.station.lineWake then s.wakeEvent else s

/-- A dominant run of 0.5 to 10 ms is released: a wake pulse, unless the run is the station's own (R20, R34). The run has
passed 0.5 ms, with what that does (log entry 31). -/
def State.pulseHeard (s : State) : State :=
  if s.mc.mode.listens ∨ s.mc.mode.dozes then
    let t := s.halfMs.modLine fun l => l.recessive 1
    if s.line.ownRun then t else t.pulseAtTable.pulseAtDetector
  else s

/-- A dominant run reaches 10 ms: the stuck flag, and SAFE from LISTEN or ACTIVE (R21, R156). -/
def State.stuckRun (s : State) : State :=
  if s.mc.mode.listens then
    (s.modLine fun l => { l.halfMs with runTimer := Config.stuckSteps, stuck := true }).enterSafe .stuck
  else if s.mc.mode.dozes then
    s.modLine fun l => { l with idleCount := 0, runTimer := Config.stuckSteps, stuck := true }
  else s

/-! ### One meaning per row -/

/-- START_BIT_BEGINS. -/
def execStartBitBegins (s : State) : Host.Outcome State Fault Refusal := .next s.startBit

/-- FORMAT_ERROR. -/
def execFormatError (h0 h1 h2 h3 : Byte) (s : State) : Host.Outcome State Fault Refusal :=
  .next (s.badHeader h0 h1 h2 h3)

/-- FRAMING_ERROR. -/
def execFramingError (kind : FramingFault) (s : State) : Host.Outcome State Fault Refusal := .next (s.badFraming kind)

/-- FRAME_END. -/
def execFrameEnd (bytes : List Byte) (s : State) : Host.Outcome State Fault Refusal := .next (s.receiveFrame bytes)

/-- RESPONSE_BYTE_END. -/
def execResponseByteEnd (s : State) : Host.Outcome State Fault Refusal := .next s.responseSent

/-- RESPONSE_BIT_ERROR. -/
def execResponseBitError (s : State) : Host.Outcome State Fault Refusal := .next s.responseFaulted

/-- WINDOW_CLOSE. -/
def execWindowClose (read : Option Byte) (s : State) : Host.Outcome State Fault Refusal := .next (s.closeWindow read)

/-- WINDOW_OUT_OF_PLACE. -/
def execWindowOutOfPlace (s : State) : Host.Outcome State Fault Refusal := .next s.breakWindow

/-- CLASH_RESPONSE_SEEN. -/
def execClashResponseSeen (s : State) : Host.Outcome State Fault Refusal := .next s.clashSeen

/-- CLASH_WATCH_DISARMED. -/
def execClashWatchDisarmed (s : State) : Host.Outcome State Fault Refusal := .next s.disarmWatch

/-- IDLE_GAP_COMPLETE. -/
def execIdleGapComplete (s : State) : Host.Outcome State Fault Refusal := .next s.gapComplete

/-- RESYNC_END. -/
def execResyncEnd (s : State) : Host.Outcome State Fault Refusal := .next s.resyncComplete

/-- DOMINANT_RUN_HALF_MS. -/
def execDominantRunHalfMs (s : State) : Host.Outcome State Fault Refusal := .next s.halfMs

/-- HELD_ERROR_COUNTED. -/
def execHeldErrorCounted (s : State) : Host.Outcome State Fault Refusal := .next s.countHeldError

/-- WAKE_PULSE_HEARD. -/
def execWakePulseHeard (s : State) : Host.Outcome State Fault Refusal := .next s.pulseHeard

/-- LINE_STUCK. -/
def execLineStuck (s : State) : Host.Outcome State Fault Refusal := .next s.stuckRun

end Sys2Proof.Machine
end

