-- ==== Sys2Proof/Machine/AttemptEvents.lean ====
section
/-! DEFINITION. The events of the station's own attempts: the pick (R26 to R30), arbitration loss (R31), read-back faults and
wake collisions (R32), the end of the own frame (R33) and of the own pulse (R34). ARBITRATION passes to SENDING at the end of
H0, on the part's own bit clock (Machine/Tick.lean); an event of SENDING that comes before it shows that H0 is over, so it is
taken in ARBITRATION as well (log entry 7). -/

namespace Sys2Proof.Machine

/-- Whether the own frame is on its way to the line: from the start bit of H0 to its frame end (R30). -/
def State.sendingFrame (s : State) : Bool :=
  s.mc.mode == .active && (s.phase? == some .arbitration || s.phase? == some .sending)

/-- Whether the latched attempt is in CHECKING (R30, R32). -/
def State.checking (s : State) : Bool := s.mc.mode == .active && s.phase? == some .checking

/-- The image in the latch, if the attempt has one (R29). -/
def State.image? (s : State) : Option Frame :=
  match s.arb.latch with
  | some a =>
    match a.form with
    | .frame f => some f
    | .pulse => none
  | none => none

/-- A pick: the chosen offer is latched and begins, at once or, in a line that was IDLE already, at the next bit boundary
(R26, R29, R30; log entry 9). -/
def State.pickOffer (s : State) (atOnce : Bool) : State :=
  if s.canPick then
    match s.choose with
    | none => s
    | some o =>
      let t := s.latchAttempt o
      if atOnce then t.beginAttempt else t
  else s

/-- Arbitration lost in H0: the attempt ends LOST, and the station goes on as a receiver of the frame that won (R31). -/
def State.loseArbitration (s : State) : State :=
  if s.mc.mode = .active ∧ s.phase? = some .arbitration then s.endAttempt .lost else s

/-- A read-back fault of the own frame (R31, R32; log entry 8). -/
def State.readBackFault (s : State) (fault : ReadBackFault) : State :=
  match fault with
  | .dominantReadRecessive =>
    if s.sendingFrame then (s.modLine fun l => l.resync 1 0).endAttempt .bitError else s
  | .recessiveReadDominant =>
    if s.sendingFrame then (s.modLine fun l => l.resync 0 1).setPhase .checking else s
  | .runEnded => if s.checking then (s.modLine fun l => l.recessive 1).endAttempt .bitError else s

/-- Sixteen bit times of a dominant run during the own frame: WAKE_COLLISION (R22, R32). -/
def State.collide (s : State) : State :=
  if s.sendingFrame ∨ s.checking then
    (s.modLine fun l => l.resync 0 Config.collisionBits).endAttempt .wakeCollision
  else s

/-- The own frame read back intact to its frame end: SENT for a broadcast frame, else the window as sender (R33). -/
def State.ownFrameDone (s : State) : State :=
  match s.image? with
  | none => s
  | some f =>
    if s.sendingFrame then
      let t := s.modLine fun l => l.frameDone f f.bytes .sender
      if f.kind.broadcast then t.endAttempt .sent else t.setPhase .answer
    else s

/-- The line at the release of the own pulse: RESYNC since 0.5 ms; the run goes on when another station holds the line
(R20, R34; log entry 10). -/
def LineRecord.pulseDone (l : LineRecord) (held : Bool) : LineRecord :=
  if held then { l.halfMs with runTimer := Config.pulseSteps } else l.halfMs.recessive 1

/-- The own pulse released after 1.0 ms: SENT (R34). -/
def State.pulseDone (s : State) (held : Bool) : State :=
  if s.mc.mode = .active ∧ s.phase? = some .pulse then (s.modLine fun l => l.pulseDone held).endAttempt .sent else s

/-- PICK. -/
def execPick (atOnce : Bool) (s : State) : Host.Outcome State Fault Refusal := .next (s.pickOffer atOnce)

/-- ARBITRATION_LOST. -/
def execArbitrationLost (s : State) : Host.Outcome State Fault Refusal := .next s.loseArbitration

/-- BIT_ERROR. -/
def execBitError (fault : ReadBackFault) (s : State) : Host.Outcome State Fault Refusal := .next (s.readBackFault fault)

/-- WAKE_COLLISION. -/
def execWakeCollision (s : State) : Host.Outcome State Fault Refusal := .next s.collide

/-- OWN_FRAME_END. -/
def execOwnFrameEnd (s : State) : Host.Outcome State Fault Refusal := .next s.ownFrameDone

/-- PULSE_SENT. -/
def execPulseSent (held : Bool) (s : State) : Host.Outcome State Fault Refusal := .next (s.pulseDone held)

end Sys2Proof.Machine
end

