-- ==== Sys2Proof/Machine/ChannelCommands.lean ====
section
/-! DEFINITION. Channel commands: the tests of R48, and START, HALT, CLEAR and KICK (R49 to R55). -/

namespace Sys2Proof.Machine

/-- The channel an argument byte names, when it is not above 15 (R48). -/
def channelOf (arg : Byte) : Option ChanId := if h : arg.toNat < 16 then some ⟨arg.toNat, h⟩ else none

/-- Whether a kind takes KICK (R48). -/
def Kind.kickable (k : Kind) : Bool := k.sends

/-- Whether a kind takes START, HALT and CLEAR (R48). -/
def Kind.commandable : Kind → Bool
  | .off => false
  | .send | .take | .publish | .subscribe => true

/-- States in which HALT and, for a sending channel, KICK are taken (R46, R50, R55). -/
def ChanState.started : ChanState → Bool
  | .stopped | .halted => false
  | .opening | .running | .drained | .holding => true

/-- States in which START is taken (R49). -/
def ChanState.startable (x : ChanState) : Bool := !x.started

/-- States in which CLEAR is taken (R53). -/
def ChanState.clearable (x : ChanState) : Bool := x == .halted

/-- A channel command: tested in the order of R48, then taken with its effect. -/
def State.channelCommand (s : State) (arg : Byte) (kindOk : Kind → Bool) (stateOk : ChanState → Bool)
    (effect : State → ChanId → State) : State :=
  if s.mc.mode = .setup then s.refuse .wrongMode (channelOf arg)
  else
    match channelOf arg with
    | none => s.refuse .badValue none
    | some c =>
      if !kindOk (s.cfg c).kind then s.refuse .wrongKind (some c)
      else if !stateOk (s.ctx c).state then s.refuse .wrongState (some c)
      else effect s c

/-- START taken (R49): a SEND channel opens its peer, a PUBLISH channel fetches (R62, occasion 2), and both look at their
offer. -/
def State.startChannel (s : State) (c : ChanId) : State :=
  match (s.cfg c).kind with
  | .send => (s.modCtx c fun x => { x.rewind with haltCause := .none }).look c
  | .publish => ((s.modCtx c fun x => { x with state := .running, haltCause := .none }).fetch c).look c
  | .take | .subscribe => s.modCtx c fun x => { x with state := .running, haltCause := .none }
  | .off => s

/-- HALT taken (R50 to R52): deferred while the channel owns the latched attempt. -/
def State.haltChannel (s : State) (c : ChanId) : State :=
  if s.ownsLatch c then s.modCtx c fun x => { x with haltReq := true } else s.enterHalted c .host

/-- STOPPED with the halt cause NONE (R53, R54). -/
def Context.stop (x : Context) : Context := { x with state := .stopped, haltCause := .none }

/-- CLEAR taken for a SEND or PUBLISH channel (R53). -/
def State.clearSending (s : State) (c : ChanId) : State :=
  let (t, i) := s.abortWalk c (s.ctx c).msgStart (s.cfg c).ringLength.toNat
  t.modCtx c fun x => (x.dropMessage i).stop

/-- CLEAR taken for a TAKE channel: a record on its way is withdrawn, an open message is cut (R54, R113). -/
def State.clearTaking (s : State) (c : ChanId) : State :=
  let t := s.modCtx c fun x => { x with acceptance := x.acceptance.map fun r => { r with withdrawn := true } }
  (t.cut c).modCtx c fun x => { x.stop with drainNoted := false }

/-- CLEAR taken (R53, R54). -/
def State.clearChannel (s : State) (c : ChanId) : State :=
  match (s.cfg c).kind with
  | .send | .publish => s.clearSending c
  | .take => s.clearTaking c
  | .subscribe => s.modCtx c Context.stop
  | .off => s

/-- KICK taken: in DRAINED the fetch is tried again, and a channel back in RUNNING looks at its offer (R55, R81, R120). -/
def State.kickChannel (s : State) (c : ChanId) : State :=
  if (s.ctx c).state = .drained then (s.fetch c).look c else s

/-- START. -/
def execStart (arg : Byte) (s : State) : Host.Outcome State Fault Refusal :=
  .next (s.control fun t => t.channelCommand arg Kind.commandable ChanState.startable State.startChannel)

/-- HALT. -/
def execHalt (arg : Byte) (s : State) : Host.Outcome State Fault Refusal :=
  .next (s.control fun t => t.channelCommand arg Kind.commandable ChanState.started State.haltChannel)

/-- CLEAR. -/
def execClear (arg : Byte) (s : State) : Host.Outcome State Fault Refusal :=
  .next (s.control fun t => t.channelCommand arg Kind.commandable ChanState.clearable State.clearChannel)

/-- KICK. -/
def execKick (arg : Byte) (s : State) : Host.Outcome State Fault Refusal :=
  .next (s.control fun t => t.channelCommand arg Kind.kickable ChanState.started State.kickChannel)

end Sys2Proof.Machine
end

