-- ==== Sys2Proof/Machine/HostPort.lean ====
section
/-! DEFINITION. The Host Port (R177 to R181): byte writes to registers, the clearing of notice flags and marks (R182), buffer
and descriptor transactions (R59, R74, R179), the end of a transaction, and the commands that the bytes of one SPI
transaction give. -/

namespace Sys2Proof.Machine

/-! ### Register writes (R178) -/

/-- The own address stored, and SELF moved (R130, R139). -/
def State.setOwnAddress (s : State) (a : BitVec 5) : State :=
  let old := s.station.ownAddress
  ({ s with station := { s.station with ownAddress := a } } : State).replaceEntries (moveSelf s.presence.entries old a)

/-- The fields of a station configuration register byte (R184), the own address and the restart limit apart; the bits
outside a field are ignored (R178). -/
def StationConfig.writeByte (g : StationConfig) (addr : Nat) (v : Byte) : StationConfig :=
  match addr with
  | 1 => { g with rateCode := v.extractLsb' 0 2 }
  | 2 => { g with beaconInterval := v }
  | 3 =>
    { g with
      followSleep := v.getLsbD 0, lineWake := v.getLsbD 1, wakePinEnabled := v.getLsbD 2, wakePinHigh := v.getLsbD 3 }
  | 4 => { g with retryLimit := v.extractLsb' 0 4 }
  | 5 => { g with nakPatience := v }
  | 6 => { g with nakBackoff := v }
  | 7 => { g with silenceBackoff := v }
  | 9 => { g with safeTime := v }
  | 10 => { g with wakeSettle := v }
  | _ => g

/-- The restart limit stored, unless it is 0 or 15 (R145). -/
def State.writeRestartLimit (s : State) (v : BitVec 4) : State :=
  if v = 0 ∨ v = 15 then s.refuse .badValue none else { s with station := { s.station with restartLimit := v } }

/-- A byte written to register `addr` of the station configuration, 0 to 10 (R145, R178). -/
def State.writeStationByte (s : State) (addr : Nat) (v : Byte) : State :=
  if s.mc.mode ≠ .setup then s.refuse .configFrozen none
  else if addr = 0 then s.setOwnAddress (v.extractLsb' 0 5)
  else if addr = 8 then s.writeRestartLimit (v.extractLsb' 0 4)
  else { s with station := s.station.writeByte addr v }

/-- The field of a configuration record that byte `i` holds (R40, R184). -/
def ChanConfig.writeByte (g : ChanConfig) (i : Nat) (v : Byte) : ChanConfig :=
  match i with
  | 0 => { g with kindCode := v.extractLsb' 0 3 }
  | 1 => { g with peerStation := v.extractLsb' 0 5 }
  | 2 => { g with peerChannel := v.extractLsb' 0 4 }
  | 3 => { g with payloadCode := v.extractLsb' 0 2 }
  | 4 => { g with prio := v.extractLsb' 0 2 }
  | 5 => { g with pacing := v }
  | 6 => { g with ringBase := v.extractLsb' 0 6 }
  | 7 => { g with ringLength := v.extractLsb' 0 7 }
  | _ => g

/-- A byte written to byte `i` of the configuration record of a channel (R40, R178). -/
def State.writeChannelByte (s : State) (c : ChanId) (i : Nat) (v : Byte) : State :=
  if s.mc.mode ≠ .setup then s.refuse .configFrozen (some c)
  else { s with configs := s.configs.set c ((s.cfg c).writeByte i v) }

/-- Station flags cleared by ones (R182). -/
def State.clearStationFlags (s : State) (mask : Byte) : State :=
  s.modNotice fun n => { n with station := n.station.clearBits mask }

/-- A channel in HOLDING released by the clearing of its DONE flag: a sending channel fetches (R62, occasion 5) and looks at
its offer (R73). -/
def State.release (s : State) (c : ChanId) : State :=
  if (s.ctx c).state = .holding then
    let t := s.modCtx c fun x => { x with state := .running }
    if (s.cfg c).kind.sends then (t.fetch c).look c else t
  else s

/-- Flags of a channel cleared by ones, DONE with its release (R182, R73). DESIGN CHOICE (log entry 39): a byte clears all its
flags before the release, so a DRAINED or HALTED flag that it clears and that the release's fetch sets ends set; R182 gives both
outcomes. -/
def State.clearChannelFlags (s : State) (c : ChanId) (mask : Byte) : State :=
  let t := s.modChanFlags c fun f => f.clearBits mask
  if mask.getLsbD 0 then t.release c else t

/-- Changed marks of byte `i` cleared by ones: address n at byte n / 8, bit n mod 8 (R139, R184). -/
def State.clearMarks (s : State) (i : Nat) (mask : Byte) : State :=
  s.modNotice fun n =>
    { n with marks := n.marks.mapIdx fun a m => m && !(a.val / 8 == i && mask.getLsbD (a.val % 8)) }

/-- A byte written to the channel flag enables and the master enable (R183, R184). -/
def NoticeUnit.writeEnables (n : NoticeUnit) (v : Byte) : NoticeUnit :=
  { n with channelEnables := .ofByte v, master := v.getLsbD 7 }

/-- A byte written to a register (R178); a read-only register and an address in no register ignore it. -/
def State.writeRegister (s : State) (addr : Word) (v : Byte) : State :=
  let a := addr.toNat
  if a ≤ 0x00A then s.writeStationByte a v
  else if a = 0x030 then s.clearStationFlags v
  else if a = 0x031 then s.modNotice fun n => { n with stationEnables := .ofByte v }
  else if a = 0x032 then s.modNotice fun n => n.writeEnables v
  else if 0x034 ≤ a ∧ a ≤ 0x037 then s.clearMarks (a - 0x034) v
  else if 0x040 ≤ a ∧ a ≤ 0x04F then s.clearChannelFlags (Fin.ofNat 16 (a - 0x040)) v
  else if 0x200 ≤ a ∧ a ≤ 0x27F then s.writeChannelByte (Fin.ofNat 16 ((a - 0x200) / 8)) (a % 8) v
  else s

/-! ### Buffer and descriptor transactions (R59, R74, R179) -/

/-- A slot written whole with its eighth byte; fewer bytes write none (R59, R179). -/
def State.writeSlot (s : State) (i : SlotId) (bytes : List Byte) : State :=
  match Slot.ofBytes bytes with
  | some d => s.modSlot i fun _ => d
  | none => s

/-- The slot a slot index byte names: its low six bits (R179). -/
def slotOf (index : Byte) : SlotId := (index.extractLsb' 0 6).toFin

/-- The offset that two offset bytes name: their low 12 bits (R179). -/
def offsetOf (offset : Word) : Offset := offset.extractLsb' 0 12

/-- Bytes taken to be shifted out on MISO (R179). -/
def State.shiftOut (s : State) (bytes : List Byte) : State := s.modPort fun p => { p with shifted := bytes }

/-- The rise of nCS: last-refused follows from the transaction that ends (R177). DESIGN CHOICE (log entry 37): this holds for a
transaction whose access code names no form as well, which so clears last-refused, though R177 says that it changes no state. -/
def State.endTransaction (s : State) : State :=
  s.modPort fun p => { p with lastRefused := p.nowRefused, nowRefused := false, controlTaken := false }

/-! ### The commands a transaction gives (R177 to R180) -/

/-- The command of a byte written to a register. -/
def registerCommand (addr : Word) (v : Byte) : Instr :=
  let a := addr.toNat
  if a = 0 then .ownAddressWrite v
  else if a = 0x030 then .clearNoticeFlags .station v
  else if 0x034 ≤ a ∧ a ≤ 0x037 then .clearChangedMarks (Fin.ofNat 4 (a - 0x034)) v
  else if 0x040 ≤ a ∧ a ≤ 0x04F then
    let c := Fin.ofNat 16 (a - 0x040)
    if v = 1 then .clearDone c else .clearNoticeFlags (.channel c) v
  else .registerWrite addr v

/-- The commands of the data bytes of a register write; the address wraps from 0xFFFF to 0 (R178). -/
def registerCommands (addr : Word) : List Byte → List Instr
  | [] => []
  | v :: vs => registerCommand addr v :: registerCommands (addr + 1) vs

/-- The command of a control transaction (R180, R184). -/
def controlCommand (code arg : Byte) : Instr :=
  match code.toNat with
  | 0x01 => .join
  | 0x02 => .softReset
  | 0x03 => .sleep arg
  | 0x04 => .wake
  | 0x10 => .start arg
  | 0x11 => .halt arg
  | 0x12 => .clear arg
  | 0x13 => .kick arg
  | 0x20 => .resume
  | 0x21 => .clearRestarts
  | 0x22 => .clearLimp
  | _ => .unknownCommand code

/-- The commands of the data bytes of a buffer write: one for each byte, at the moment it has been received (R74, R179). -/
def bufferWrites (offset : Word) : List Byte → List Instr
  | [] => []
  | v :: vs => .bufferWrite offset v :: bufferWrites (offset + 1) vs

/-- The commands of the data bytes of a buffer read: one for each byte, at the moment it is to be shifted out (R74, R179). -/
def bufferReads (offset : Word) (n : Nat) : List Instr := (List.range n).map (.bufferRead offset)

/-- The commands of the data bytes of a descriptor write: one for each slot, at its eighth byte; a partial slot at the end
gives none (R59, R179). -/
def descriptorWrites (index : Byte) : List Byte → List Instr
  | b0 :: b1 :: b2 :: b3 :: b4 :: b5 :: b6 :: b7 :: rest =>
    .descriptorWrite index [b0, b1, b2, b3, b4, b5, b6, b7] :: descriptorWrites (index + 1) rest
  | _ => []

/-- The commands of the data bytes of a descriptor read: one snapshot for each slot that is begun (R59, R179). -/
def descriptorReads (index : Byte) (n : Nat) : List Instr := (List.range ((n + 7) / 8)).map (.descriptorRead index)

/-- The commands that the complete bytes of one transaction give, its rise of nCS included (R177 to R180, R184), by its access
code. A register read, 0x20, gives none, since it changes nothing (log entry 22); what it shifts out is said by `misoByte` in
Machine/Window.lean. An access code that names no form gives none. -/
def transaction : List Byte → List Instr
  | [] => [.transactionEnd]
  | access :: rest =>
    (match access.toNat, rest with
      | 0x20, _ => []
      | 0x21, hi :: lo :: data => registerCommands (wordOf hi lo) data
      | 0x40, hi :: lo :: data => bufferReads (wordOf hi lo) data.length
      | 0x41, hi :: lo :: data => bufferWrites (wordOf hi lo) data
      | 0x60, index :: data => descriptorReads index data.length
      | 0x61, index :: data => descriptorWrites index data
      | 0x80, code :: arg :: _ => [controlCommand code arg]
      | _, _ => [])
      ++ [.transactionEnd]

/-- A transaction of the host joins the queue, with the commands it gives; while nRESET is low none is taken (R165, R177). -/
def State.hostTransaction (s : State) (mosi : List Byte) : State :=
  if s.resetLow then s else { s with pending := s.pending ++ transaction mosi }

/-- nCS falls: a transaction is in progress from here on, before the first of its bytes; while nRESET is low it is not taken
(R165, R177; log entry 19). -/
def State.selectFalls (s : State) : State :=
  s.modPort fun p =>
    { p with controlTaken := false, nowRefused := false, transfer := if s.resetLow then .dropped else .running }

/-! ### One meaning per row -/

/-- REGISTER_WRITE (R178). -/
def execRegisterWrite (addr : Word) (value : Byte) (s : State) : Host.Outcome State Fault Refusal :=
  .next (s.access fun t => t.writeRegister addr value)

/-- OWN_ADDRESS_WRITE (R130, R145). -/
def execOwnAddressWrite (value : Byte) (s : State) : Host.Outcome State Fault Refusal :=
  .next (s.access fun t => t.writeStationByte 0 value)

/-- CLEAR_DONE (R73). -/
def execClearDone (c : ChanId) (s : State) : Host.Outcome State Fault Refusal :=
  .next (s.access fun t => t.clearChannelFlags c 1)

/-- CLEAR_NOTICE_FLAGS (R182). -/
def execClearNoticeFlags (reg : FlagRegister) (mask : Byte) (s : State) : Host.Outcome State Fault Refusal :=
  match reg with
  | .station => .next (s.access fun t => t.clearStationFlags mask)
  | .channel c => .next (s.access fun t => t.clearChannelFlags c mask)

/-- CLEAR_CHANGED_MARKS (R139). -/
def execClearChangedMarks (index : Fin 4) (mask : Byte) (s : State) : Host.Outcome State Fault Refusal :=
  .next (s.access fun t => t.clearMarks index.val mask)

/-- BUFFER_WRITE (R74, R179). -/
def execBufferWrite (offset : Word) (value : Byte) (s : State) : Host.Outcome State Fault Refusal :=
  .next (s.access fun t => t.store (offsetOf offset) [value])

/-- BUFFER_READ (R74, R179). -/
def execBufferRead (offset : Word) (place : Nat) (s : State) : Host.Outcome State Fault Refusal :=
  .next (s.access fun t => t.shiftOut [Memory.read t.ram (offsetOf offset + BitVec.ofNat 12 place)])

/-- DESCRIPTOR_WRITE (R59, R179). -/
def execDescriptorWrite (index : Byte) (bytes : List Byte) (s : State) : Host.Outcome State Fault Refusal :=
  .next (s.access fun t => t.writeSlot (slotOf index) bytes)

/-- DESCRIPTOR_READ (R59, R179). -/
def execDescriptorRead (index : Byte) (place : Nat) (s : State) : Host.Outcome State Fault Refusal :=
  .next (s.access fun t => t.shiftOut (t.slot (slotOf index + Fin.ofNat 64 place)).bytes)

/-- TRANSACTION_END (R177). -/
def execTransactionEnd (s : State) : Host.Outcome State Fault Refusal := .next (s.atRise State.endTransaction)

end Sys2Proof.Machine
end

