-- ==== Sys2Proof/Machine/StationCommands.lean ====
section
/-! DEFINITION. Station commands (R146, R161 to R165, R168, R175, R180): JOIN with its checks, SOFT_RESET, SLEEP, WAKE,
RESUME, CLEAR_RESTARTS, CLEAR_LIMP, an unknown command code, and RESET. -/

namespace Sys2Proof.Machine

/-! ### The checks of JOIN -/

/-- The station check, which stops at the first failure (R146). -/
def StationConfig.check (g : StationConfig) : Option RefusalCode :=
  if g.ownAddress = 31 then some .badAddress
  else if g.rateCode = 3 then some .badRate
  else if g.beaconInterval = 0 ∨ g.nakBackoff = 0 ∨ g.silenceBackoff = 0 ∨ g.safeTime = 0 ∨ g.wakeSettle = 0 then
    some .badValue
  else none

/-- Whether a kind is bound to a peer station (R42). -/
def Kind.hasPeer : Kind → Bool
  | .send | .take | .subscribe => true
  | .off | .publish => false

/-- Whether a kind code names a kind (R42). -/
def ChanConfig.kindNamed (g : ChanConfig) : Bool := g.kindCode.toNat ≤ 4

/-- Whether a record is examined as a channel of a kind other than OFF (R41). -/
def ChanConfig.used (g : ChanConfig) : Bool := g.kindCode != 0

/-- The single-channel checks, for a channel of a kind other than OFF (R42). -/
def ChanConfig.checkAlone (g : ChanConfig) (own : BitVec 5) : Option RefusalCode :=
  if !g.kindNamed ∨ (g.kind.hasPeer ∧ g.peerStation = 31) ∨ g.payloadSize = none ∨ g.ringLength = 0
      ∨ 64 < g.ringLength.toNat then some .badValue
  else if 64 < g.ringBase.toNat + g.ringLength.toNat then some .ringRange
  else if g.kind.hasPeer ∧ g.peerStation = own then some .selfPeer
  else none

/-- Whether two rings share a slot (R43). -/
def ChanConfig.overlaps (g d : ChanConfig) : Bool :=
  g.ringBase.toNat < d.ringBase.toNat + d.ringLength.toNat && d.ringBase.toNat < g.ringBase.toNat + g.ringLength.toNat

/-- Whether two channels are bound to one far end (R43). -/
def ChanConfig.sameBinding (g d : ChanConfig) : Bool :=
  g.kind == d.kind && (g.kind == .send || g.kind == .subscribe) && g.peerStation == d.peerStation
    && g.peerChannel == d.peerChannel

/-- The pair checks (R43). -/
def ChanConfig.checkPair (g d : ChanConfig) : Option RefusalCode :=
  if g.overlaps d then some .ringOverlap else if g.sameBinding d then some .dupBinding else none

/-- The checks that examine one channel: alone, then with each lower channel in ascending order (R41). -/
def State.checkChannel (s : State) (c : ChanId) : Option RefusalCode :=
  let g := s.cfg c
  if g.used then
    match g.checkAlone s.station.ownAddress with
    | some code => some code
    | none =>
      (chanList.filter fun d => d < c && (s.cfg d).used).findSome? fun d => g.checkPair (s.cfg d)
  else none

/-- The channel check: the first failing check, with the channel at which it failed (R41). -/
def State.checkChannels (s : State) : Option (RefusalCode × ChanId) :=
  chanList.findSome? fun c => (s.checkChannel c).map fun code => (code, c)

/-- The context with its starting values for a record: the ring base in both indexes unless the kind is OFF (R45). -/
def ChanConfig.startContext (g : ChanConfig) : Context :=
  if g.kind = .off then .cleared else { Context.cleared with walker := g.base, msgStart := g.base }

/-- JOIN taken: every context at its starting values, and LISTEN entered (R146, R44, R45). -/
def State.joined (s : State) : State :=
  ({ s with contexts := Table.ofFn fun c => (s.cfg c).startContext } : State).enterListen

/-- JOIN (R146, R41). -/
def State.join (s : State) : State :=
  if s.mc.mode ≠ .setup then s.refuse .wrongMode none
  else
    match s.station.check with
    | some code => s.refuse code none
    | none =>
      match s.checkChannels with
      | some (code, c) => s.refuse code (some c)
      | none => s.joined

/-! ### Resets -/

/-- The changes of SOFT_RESET (R164). The latched attempt ends ABANDONED, which leaves no lasting effect (R35), since the
owner's state, the offers and the notices are cleared in the same event. -/
def State.softReset (s : State) : State :=
  { s with
    contexts := .replicate 16 .cleared
    line := .reset
    arb := .reset
    presence := s.presence.cleared
    beaconTimer := none
    mc := .reset
    wake := s.wake.turnIdle
    notice :=
      { s.notice with station := .clear, channels := .replicate 16 .clear, marks := .replicate 31 false }
    port := { s.port with lastRefused := false, code := .none, channel := none } }

/-- The host port after a reset: a transaction in progress is dropped, and stays so to its rise of nCS (R165). -/
def HostPort.cut (p : HostPort) : HostPort :=
  { HostPort.reset with transfer := if p.transfer = .none then .none else .dropped }

/-- The rise of nRESET: every field at its reset value, and a transaction in progress dropped (R165). The level of the WAKE pin
is an input and stays, and so does the queue, which is not the part's (log entry 19). -/
def State.hardReset (s : State) : State :=
  { State.reset with wake := { WakeDetector.reset with pin := s.wake.pin }, port := s.port.cut, pending := s.pending }

/-- nRESET goes low: the part is held in reset, at its reset values, until RESET ends the pulse (R165; log entry 19). -/
def State.resetFalls (s : State) : State := { s.hardReset with resetLow := true }

/-! ### The other station commands -/

/-- The SLEEP command (R168 to R170). -/
def State.sleepCommand (s : State) (arg : Byte) : State :=
  if s.mc.mode ≠ .active then s.refuse .wrongMode none
  else if 1 < arg.toNat then s.refuse .badValue none
  else if s.mc.pendingSleep ≠ .none then s.refuse .wrongState none
  else if arg = 1 then
    { s with mc := { s.mc with pendingSleep := .announce }, arb := { s.arb with announceOffer := true } }
  else (s.modMc fun m => { m with pendingSleep := .quiet }).finishQuiet

/-- The WAKE command (R175). -/
def State.wakeCommand (s : State) : State :=
  match s.mc.mode with
  | .active => s.modArb fun a => { a with wakeRequest := true }
  | .sleep => if s.faultCleared then s.enterRestart .wake else s.refuse .faultPresent none
  | .setup | .listen | .restart | .safe => s.refuse .wrongMode none

/-- RESUME (R161). -/
def State.resume (s : State) : State :=
  if s.mc.mode ≠ .safe then s.refuse .wrongMode none
  else if s.faultCleared then s.enterRestart .resume
  else s.refuse .faultPresent none

/-- CLEAR_RESTARTS (R163). -/
def State.clearRestarts (s : State) : State := s.modMc fun m => { m with restarts := 0 }

/-- CLEAR_LIMP (R162). -/
def State.clearLimp (s : State) : State :=
  if s.mc.mode = .active then s.modMc fun m => { m with limp := false } else s.refuse .wrongMode none

/-! ### One meaning per row -/

/-- JOIN. -/
def execJoin (s : State) : Host.Outcome State Fault Refusal := .next (s.control State.join)

/-- SOFT_RESET. -/
def execSoftReset (s : State) : Host.Outcome State Fault Refusal := .next (s.control State.softReset)

/-- SLEEP. -/
def execSleep (arg : Byte) (s : State) : Host.Outcome State Fault Refusal :=
  .next (s.control fun t => t.sleepCommand arg)

/-- WAKE. -/
def execWake (s : State) : Host.Outcome State Fault Refusal := .next (s.control State.wakeCommand)

/-- RESUME. -/
def execResume (s : State) : Host.Outcome State Fault Refusal := .next (s.control State.resume)

/-- CLEAR_RESTARTS. -/
def execClearRestarts (s : State) : Host.Outcome State Fault Refusal := .next (s.control State.clearRestarts)

/-- CLEAR_LIMP. -/
def execClearLimp (s : State) : Host.Outcome State Fault Refusal := .next (s.control State.clearLimp)

/-- UNKNOWN_COMMAND: the code names no command, so it is refused with BAD_VALUE and no channel (R180). -/
def execUnknownCommand (_code : Byte) (s : State) : Host.Outcome State Fault Refusal :=
  .next (s.control fun t => t.refuse .badValue none)

/-- RESET. -/
def execReset (s : State) : Host.Outcome State Fault Refusal := .next s.hardReset

end Sys2Proof.Machine
end

