-- ==== Sys2Proof/Machine/TimerEvents.lean ====
section
/-! DEFINITION. The expiries of the timers (R90, R92, R123, R134, R136, R141, R148, R153, R159) and the WAKE pin (R174). An
expiry acts only on a timer that runs; how much it has to go is not looked at (log entry 24), the age of a presence entry
is. -/

namespace Sys2Proof.Machine

/-- A backoff timer runs out: it is stopped, and the channel looks at its offer conditions (R90). -/
def State.backoffExpired (s : State) (c : ChanId) : State :=
  if (s.ctx c).backoff.isSome then (s.modCtx c fun x => { x with backoff := none }).look c else s

/-- A pacing timer runs out (R92, R123). -/
def State.pacingExpired (s : State) (c : ChanId) : State :=
  if (s.ctx c).pacing.isSome then (s.modCtx c fun x => { x with pacing := none }).look c else s

/-- Whether the latched attempt is the Beacon Generator's (R141). -/
def State.beaconLatched (s : State) : Bool :=
  match s.arb.latch with
  | some a => a.owner == .beacon
  | none => false

/-- The beacon timer runs out in ACTIVE: it is started again, and a beacon is due (R141). -/
def State.beaconExpired (s : State) : State :=
  if s.mc.mode = .active ∧ s.beaconTimer.isSome then
    { s with
      beaconTimer := startTimer s.station.beaconMs
      arb := { s.arb with beaconOffer := s.arb.beaconOffer || !s.beaconLatched } }
  else s

/-- The wake-settle timer runs out: the SEND channels toward WAKING peers look again (R136, R81). -/
def State.settleExpired (s : State) : State :=
  if s.presence.settle.isSome then
    ({ s with presence := { s.presence with settle := none } } : State).lookWaking
  else s

/-- Whether the age of an entry has reached its presence timeout (R134). -/
def State.timeoutReached (s : State) (a : Station) : Bool := s.station.timeoutMs (s.entry a) ≤ (s.entry a).age

/-- A presence timeout in LISTEN and ACTIVE, where entries age. A frame taken first has set the age to 0, and no timeout
occurs (R134). -/
def State.presenceTimedOut (s : State) (a : Station) : State :=
  if s.mc.mode.listens ∧ s.timeoutReached a then s.updateEntry a Entry.timedOut else s

/-- The listen timer runs out: ACTIVE (R148, R149). -/
def State.listenExpired (s : State) : State :=
  if s.mc.mode = .listen ∧ s.mc.listenTimer.isSome then s.enterActive else s

/-- The restart timer runs out: LISTEN (R153). -/
def State.restartExpired (s : State) : State :=
  if s.mc.mode = .restart ∧ s.mc.restartTimer.isSome then s.enterListen else s

/-- The safe timer runs out: SLEEP, with the safe fault kept (R159). -/
def State.safeExpired (s : State) : State :=
  if s.mc.mode = .safe ∧ s.mc.safeTimer.isSome then s.enterSleepFromSafe .safeTimer else s

/-- The WAKE pin has held a level for 1 ms: while the Wake Detector is on, a level other than the accepted one is accepted,
and a change to the active level with the pin enabled is a wake event (R174). -/
def State.pinAccepted (s : State) (level : Bool) : State :=
  let t : State := { s with wake := { s.wake with pin := level } }
  if s.wake.on ∧ level ≠ s.wake.accepted then
    let u : State := { t with wake := { t.wake with accepted := level, difference := 0 } }
    if s.station.wakePinEnabled ∧ level = s.station.wakePinHigh then u.wakeEvent else u
  else t

/-- What the WAKE pin shows: a move is what the filter reads next (R174). -/
def State.pinShows (s : State) : PinEvent → State
  | .moves level => { s with wake := { s.wake with pin := level } }
  | .held level => s.pinAccepted level

/-- BACKOFF_EXPIRY. -/
def execBackoffExpiry (c : ChanId) (s : State) : Host.Outcome State Fault Refusal := .next (s.backoffExpired c)

/-- PACING_EXPIRY. -/
def execPacingExpiry (c : ChanId) (s : State) : Host.Outcome State Fault Refusal := .next (s.pacingExpired c)

/-- BEACON_TIMER_EXPIRY. -/
def execBeaconTimerExpiry (s : State) : Host.Outcome State Fault Refusal := .next s.beaconExpired

/-- WAKE_SETTLE_EXPIRY. -/
def execWakeSettleExpiry (s : State) : Host.Outcome State Fault Refusal := .next s.settleExpired

/-- PRESENCE_TIMEOUT. -/
def execPresenceTimeout (a : Station) (s : State) : Host.Outcome State Fault Refusal := .next (s.presenceTimedOut a)

/-- LISTEN_TIMER_EXPIRY. -/
def execListenTimerExpiry (s : State) : Host.Outcome State Fault Refusal := .next s.listenExpired

/-- RESTART_TIMER_EXPIRY. -/
def execRestartTimerExpiry (s : State) : Host.Outcome State Fault Refusal := .next s.restartExpired

/-- SAFE_TIMER_EXPIRY. -/
def execSafeTimerExpiry (s : State) : Host.Outcome State Fault Refusal := .next s.safeExpired

/-- WAKE_PIN_ACCEPTED. -/
def execWakePinAccepted (pin : PinEvent) (s : State) : Host.Outcome State Fault Refusal := .next (s.pinShows pin)

end Sys2Proof.Machine
end

