-- ==== Sys2Proof/Machine/Dispatch.lean ====
section
/-! DEFINITION. The meaning of every command: one arm per row of spec/opcode_table.json. -/

namespace Sys2Proof.Machine

/-- The command's effect on everything but the queue. -/
def exec (i : Instr) (s : State) : Host.Outcome State Fault Refusal :=
  match i with
  | .join => Sys2Proof.Machine.execJoin s
  | .softReset => Sys2Proof.Machine.execSoftReset s
  | .sleep arg => Sys2Proof.Machine.execSleep arg s
  | .wake => Sys2Proof.Machine.execWake s
  | .start arg => Sys2Proof.Machine.execStart arg s
  | .halt arg => Sys2Proof.Machine.execHalt arg s
  | .clear arg => Sys2Proof.Machine.execClear arg s
  | .kick arg => Sys2Proof.Machine.execKick arg s
  | .resume => Sys2Proof.Machine.execResume s
  | .clearRestarts => Sys2Proof.Machine.execClearRestarts s
  | .clearLimp => Sys2Proof.Machine.execClearLimp s
  | .unknownCommand code => Sys2Proof.Machine.execUnknownCommand code s
  | .registerWrite addr value => Sys2Proof.Machine.execRegisterWrite addr value s
  | .ownAddressWrite value => Sys2Proof.Machine.execOwnAddressWrite value s
  | .clearDone c => Sys2Proof.Machine.execClearDone c s
  | .clearNoticeFlags reg mask => Sys2Proof.Machine.execClearNoticeFlags reg mask s
  | .clearChangedMarks index mask => Sys2Proof.Machine.execClearChangedMarks index mask s
  | .bufferWrite offset value => Sys2Proof.Machine.execBufferWrite offset value s
  | .bufferRead offset place => Sys2Proof.Machine.execBufferRead offset place s
  | .descriptorWrite index bytes => Sys2Proof.Machine.execDescriptorWrite index bytes s
  | .descriptorRead index place => Sys2Proof.Machine.execDescriptorRead index place s
  | .reset => Sys2Proof.Machine.execReset s
  | .wakePinAccepted pin => Sys2Proof.Machine.execWakePinAccepted pin s
  | .pick atOnce => Sys2Proof.Machine.execPick atOnce s
  | .formatError h0 h1 h2 h3 => Sys2Proof.Machine.execFormatError h0 h1 h2 h3 s
  | .framingError kind => Sys2Proof.Machine.execFramingError kind s
  | .frameEnd bytes => Sys2Proof.Machine.execFrameEnd bytes s
  | .responseByteEnd => Sys2Proof.Machine.execResponseByteEnd s
  | .responseBitError => Sys2Proof.Machine.execResponseBitError s
  | .windowClose read => Sys2Proof.Machine.execWindowClose read s
  | .windowOutOfPlace => Sys2Proof.Machine.execWindowOutOfPlace s
  | .clashResponseSeen => Sys2Proof.Machine.execClashResponseSeen s
  | .idleGapComplete => Sys2Proof.Machine.execIdleGapComplete s
  | .resyncEnd => Sys2Proof.Machine.execResyncEnd s
  | .dominantRunHalfMs => Sys2Proof.Machine.execDominantRunHalfMs s
  | .heldErrorCounted => Sys2Proof.Machine.execHeldErrorCounted s
  | .wakePulseHeard => Sys2Proof.Machine.execWakePulseHeard s
  | .lineStuck => Sys2Proof.Machine.execLineStuck s
  | .arbitrationLost => Sys2Proof.Machine.execArbitrationLost s
  | .bitError fault => Sys2Proof.Machine.execBitError fault s
  | .wakeCollision => Sys2Proof.Machine.execWakeCollision s
  | .ownFrameEnd => Sys2Proof.Machine.execOwnFrameEnd s
  | .pulseSent held => Sys2Proof.Machine.execPulseSent held s
  | .backoffExpiry c => Sys2Proof.Machine.execBackoffExpiry c s
  | .pacingExpiry c => Sys2Proof.Machine.execPacingExpiry c s
  | .beaconTimerExpiry => Sys2Proof.Machine.execBeaconTimerExpiry s
  | .wakeSettleExpiry => Sys2Proof.Machine.execWakeSettleExpiry s
  | .presenceTimeout a => Sys2Proof.Machine.execPresenceTimeout a s
  | .listenTimerExpiry => Sys2Proof.Machine.execListenTimerExpiry s
  | .restartTimerExpiry => Sys2Proof.Machine.execRestartTimerExpiry s
  | .safeTimerExpiry => Sys2Proof.Machine.execSafeTimerExpiry s
  | .startBitBegins => Sys2Proof.Machine.execStartBitBegins s
  | .clashWatchDisarmed => Sys2Proof.Machine.execClashWatchDisarmed s
  | .transactionEnd => Sys2Proof.Machine.execTransactionEnd s

end Sys2Proof.Machine
end

