-- ==== Sys2Proof/Machine/Tick.lean ====
section
/-! DEFINITION. What the part does of itself when no command waits: the pick that is due (R26), the start of a WAITING attempt
in an IDLE line (R30), a bit time of an attempt in ARBITRATION (R30; log entry 7), and otherwise one tick of the millisecond
clock. An expiry that a tick brings is put into the queue as the command of its row (log entry 2). -/

namespace Sys2Proof.Machine

/-- A timer at a tick: one millisecond less; at its last millisecond it waits for its expiry, which is due. -/
def tickTimer : Option Nat → Option Nat
  | some (n + 2) => some (n + 1)
  | t => t

/-- Whether a timer runs out at a tick: the n-th tick after a start with n ms. -/
def due : Option Nat → Bool
  | some n => n ≤ 1
  | none => false

/-- The timers of a channel at a tick; they run in every mode (R45, R90, R123). -/
def Context.tick (x : Context) : Context := { x with backoff := tickTimer x.backoff, pacing := tickTimer x.pacing }

/-- The age of an entry at a tick in LISTEN or ACTIVE (R134). -/
def Entry.tick (e : Entry) : Entry :=
  match e.state with
  | .present | .waking | .absent => { e with age := min Config.ageTop (e.age + 1) }
  | .asleep | .self => e

/-- Modes in which the wake-settle timer counts (R136). -/
def Mode.settles : Mode → Bool
  | .listen | .active | .sleep => true
  | .setup | .restart | .safe => false

/-- The Presence Table at a tick (R134, R136). -/
def PresenceTable.tick (p : PresenceTable) (m : Mode) : PresenceTable :=
  { entries := if m.listens then p.entries.mapIdx fun _ e => e.tick else p.entries
    settle := if m.settles then tickTimer p.settle else p.settle }

/-- The mode timers at a tick (R148, R153, R157). -/
def ModeController.tick (m : ModeController) : ModeController :=
  { m with
    listenTimer := tickTimer m.listenTimer, restartTimer := tickTimer m.restartTimer, safeTimer := tickTimer m.safeTimer }

/-- The WAKE pin filter at a tick: a difference begins, runs on, or is reset (R174). -/
def WakeDetector.tick (w : WakeDetector) : WakeDetector :=
  if w.on ∧ w.pin ≠ w.accepted then { w with difference := w.difference + 1 } else { w with difference := 0 }

/-- Entries whose age has reached their timeout (R134). -/
def State.dueTimeouts (s : State) : List Station :=
  if s.mc.mode.listens then
    stationList.filter fun a =>
      let e := s.entry a
      (e.state == .present || e.state == .waking) && s.timeoutReached a
  else []

/-- The expiries due at a tick, from the state before it (`s`) and after it (`t`), in the order of log entry 2. -/
def State.dueEvents (s t : State) : List Instr :=
  (chanList.filter fun c => due (s.ctx c).backoff).map .backoffExpiry
    ++ (chanList.filter fun c => due (s.ctx c).pacing).map .pacingExpiry
    ++ (if s.mc.mode.settles && due s.presence.settle then [.wakeSettleExpiry] else [])
    ++ t.dueTimeouts.map .presenceTimeout
    ++ (if due s.beaconTimer then [.beaconTimerExpiry] else [])
    ++ (if due s.mc.listenTimer then [.listenTimerExpiry] else [])
    ++ (if due s.mc.restartTimer then [.restartTimerExpiry] else [])
    ++ (if due s.mc.safeTimer then [.safeTimerExpiry] else [])
    ++ (if t.wake.on && 2 ≤ t.wake.difference then [.wakePinAccepted (.held t.wake.pin)] else [])

/-- The part after one tick, the expiries apart. -/
def State.ticked (s : State) : State :=
  { s with
    contexts := s.contexts.mapIdx fun _ x => x.tick
    presence := s.presence.tick s.mc.mode
    beaconTimer := tickTimer s.beaconTimer
    mc := s.mc.tick
    wake := s.wake.tick }

/-- One tick of the millisecond clock. -/
def State.tick (s : State) : State := { s.ticked with pending := s.dueEvents s.ticked }

/-- A whole millisecond with no bit of the part's own to time: the next tick comes, and the bit times before it are in it. -/
def State.msStep (s : State) : State := (s.modClock fun k => { k with micros := 0 }).tick

/-- A bit time of H0 has passed; with that of its eighth data bit the attempt is in SENDING (R30, R2). -/
def State.h0Bit (s : State) : State :=
  let t := s.modClock fun k => { h0Left := k.h0Left - 1, micros := k.micros + s.station.bitMicros }
  if t.clock.h0Left = 0 then t.setPhase .sending else t

/-- A bit time of an attempt in ARBITRATION, and the millisecond tick where it completes one (log entry 7). -/
def State.bitStep (s : State) : State :=
  let t := s.h0Bit
  if Config.tickMicros ≤ t.clock.micros then
    (t.modClock fun k => { k with micros := k.micros - Config.tickMicros }).tick
  else t

/-- The part with no command waiting (log entry 2). -/
def State.idle (s : State) : State :=
  if s.canPick && s.choose.isSome then { s with pending := [.pick true] }
  else if s.mc.mode = .active ∧ s.line.state = .idle ∧ s.phase? = some .waiting then s.beginAttempt
  else if s.phase? = some .arbitration then s.bitStep
  else s.msStep

end Sys2Proof.Machine
end

