-- ==== Sys2Proof/Machine/Window.lean ====
section
/-! DEFINITION. What the outside sees of the state: the register window (R178, R184), the bytes on MISO (R177 to R179), the
NOTICE and LIMP outputs (R162, R183) and what the station sends on LINE (R1, R2). A register read changes nothing: log entry
22. -/

namespace Sys2Proof.Machine

/-! ### Codes (R184) -/

/-- Code of a mode. -/
def Mode.code : Mode → BitVec 3
  | .setup => 0
  | .listen => 1
  | .active => 2
  | .sleep => 3
  | .restart => 4
  | .safe => 5

/-- Code of an entry cause. -/
def EntryCause.code : EntryCause → Byte
  | .none => 0
  | .wake => 1
  | .errors => 2
  | .resume => 3
  | .safeWake => 4
  | .stuck => 5
  | .clash => 6
  | .restartLimit => 7
  | .command => 8
  | .follow => 9
  | .safeTimer => 10
  | .safeFault => 11

/-- Code of a safe fault. -/
def SafeFault.code : SafeFault → Byte
  | .none => 0
  | .stuck => 5
  | .clash => 6
  | .restartLimit => 7

/-- Code of a pending sleep. -/
def PendingSleep.code : PendingSleep → BitVec 2
  | .none => 0
  | .announce => 1
  | .quiet => 2

/-- Code of a refusal. -/
def RefusalCode.code : RefusalCode → Byte
  | .none => 0
  | .badAddress => 1
  | .badRate => 2
  | .badValue => 3
  | .ringRange => 4
  | .ringOverlap => 5
  | .dupBinding => 6
  | .selfPeer => 7
  | .configFrozen => 8
  | .wrongMode => 9
  | .wrongState => 10
  | .wrongKind => 11
  | .faultPresent => 12

/-- Code of a channel state. -/
def ChanState.code : ChanState → Byte
  | .stopped => 0
  | .opening => 1
  | .running => 2
  | .drained => 3
  | .holding => 4
  | .halted => 5

/-- Code of a halt cause. -/
def HaltCause.code : HaltCause → Byte
  | .none => 0
  | .host => 1
  | .peerHalt => 2
  | .peerBusy => 3
  | .descError => 4

/-- Code of a presence state. -/
def PresenceState.code : PresenceState → BitVec 3
  | .absent => 0
  | .present => 1
  | .asleep => 2
  | .waking => 3
  | .self => 4

/-- Code of the latch owner. -/
def Owner.code : Owner → Byte
  | .channel c => BitVec.ofNat 8 c.val
  | .beacon => 16
  | .announcer => 17
  | .wakeRequest => 18

/-- Code of the latch phase. -/
def AttemptPhase.code : AttemptPhase → Byte
  | .waiting => 1
  | .arbitration => 2
  | .sending => 3
  | .checking => 4
  | .answer => 5
  | .pulse => 6

/-! ### Fields -/

/-- Byte `k` of a number held in `n` bytes, high byte first (R184). -/
def byteOf (v n k : Nat) : Byte := BitVec.ofNat 8 (v / 256 ^ (n - 1 - k))

/-- A timer reads 0 when stopped (R184). -/
def timeToGo (t : Option Nat) : Nat := t.getD 0

/-- An index or slot field that names nothing reads 0xFF (R184). -/
def slotField (d : Option SlotCopy) : Byte :=
  match d with
  | some d => BitVec.ofNat 8 d.slot.val
  | none => 0xFF

/-- Byte `i` of the station configuration (R184). -/
def StationConfig.readByte (g : StationConfig) (i : Nat) : Byte :=
  match i with
  | 0 => g.ownAddress.zeroExtend 8
  | 1 => g.rateCode.zeroExtend 8
  | 2 => g.beaconInterval
  | 3 => 0#4 ++ bit g.wakePinHigh ++ bit g.wakePinEnabled ++ bit g.lineWake ++ bit g.followSleep
  | 4 => g.retryLimit.zeroExtend 8
  | 5 => g.nakPatience
  | 6 => g.nakBackoff
  | 7 => g.silenceBackoff
  | 8 => g.restartLimit.zeroExtend 8
  | 9 => g.safeTime
  | 10 => g.wakeSettle
  | _ => 0

/-- Registers 0x010 to 0x01B: the Mode Controller (R184). -/
def ModeController.readByte (m : ModeController) (i : Nat) : Byte :=
  match i with
  | 0 => m.mode.code.zeroExtend 8
  | 1 => m.entryCause.code
  | 2 => m.safeFault.code
  | 3 => BitVec.ofNat 8 m.lineErrors
  | 4 => BitVec.ofNat 8 m.restarts
  | 5 => 0#5 ++ m.pendingSleep.code ++ bit m.limp
  | 6 => byteOf (timeToGo m.listenTimer) 2 0
  | 7 => byteOf (timeToGo m.listenTimer) 2 1
  | 8 => BitVec.ofNat 8 (timeToGo m.restartTimer)
  | 9 => byteOf (timeToGo m.safeTimer) 3 0
  | 10 => byteOf (timeToGo m.safeTimer) 3 1
  | 11 => byteOf (timeToGo m.safeTimer) 3 2
  | _ => 0

/-- Registers 0x020 to 0x026: the latch, the refusal record and the wake-settle timer (R38, R181, R184). -/
def State.readLatchByte (s : State) (i : Nat) : Byte :=
  match i with
  | 0 =>
    match s.arb.latch with
    | some a => a.owner.code
    | none => 0xFF
  | 1 =>
    match s.arb.latch with
    | some a => a.phase.code
    | none => 0
  | 2 => 0#7 ++ bit s.arb.wakeRequest
  | 3 => s.port.code.code
  | 4 =>
    match s.port.channel with
    | some c => BitVec.ofNat 8 c.val
    | none => 0xFF
  | 5 => byteOf (timeToGo s.presence.settle) 2 0
  | 6 => byteOf (timeToGo s.presence.settle) 2 1
  | _ => 0

/-- One byte of changed marks (R184). -/
def NoticeUnit.markByte (n : NoticeUnit) (i : Nat) : Byte :=
  BitVec.ofNat 8
    ((stationList.filter fun a => n.marks.get a && a.val / 8 == i).map fun a => 2 ^ (a.val % 8)).sum

/-- Byte `i` of a presence entry (R184). -/
def Entry.readByte (e : Entry) (i : Nat) : Byte :=
  match i with
  | 0 => bit e.wakeTried ++ 0#4 ++ e.state.code
  | 1 => byteOf e.age 2 0
  | 2 => byteOf e.age 2 1
  | 3 => e.interval.getD 0
  | 4 =>
    match e.restarts with
    | some n => BitVec.ofNat 8 n
    | none => 0xFF
  | 5 =>
    match e.follows with
    | some b => if b then 1 else 0
    | none => 0xFF
  | _ => 0

/-- Byte `i` of a configuration record (R184). -/
def ChanConfig.readByte (g : ChanConfig) (i : Nat) : Byte :=
  match i with
  | 0 => g.kindCode.zeroExtend 8
  | 1 => g.peerStation.zeroExtend 8
  | 2 => g.peerChannel.zeroExtend 8
  | 3 => g.payloadCode.zeroExtend 8
  | 4 => g.prio.zeroExtend 8
  | 5 => g.pacing
  | 6 => g.ringBase.zeroExtend 8
  | 7 => g.ringLength.zeroExtend 8
  | _ => 0

/-- Byte `i` of a channel context (R45, R184). -/
def Context.readByte (x : Context) (i : Nat) : Byte :=
  match i with
  | 0 => x.state.code
  | 1 => x.haltCause.code
  | 2 =>
    0#3 ++ bit x.acc.pending.isSome ++ bit x.drainNoted ++ bit x.haltReq ++ bit x.openMsg ++ bit x.toggle
  | 3 => BitVec.ofNat 8 x.retry
  | 4 => BitVec.ofNat 8 x.nak
  | 5 => BitVec.ofNat 8 x.walker.val
  | 6 => BitVec.ofNat 8 x.msgStart.val
  | 7 => byteOf x.stream 3 0
  | 8 => byteOf x.stream 3 1
  | 9 => byteOf x.stream 3 2
  | 10 => byteOf x.openBytes 3 0
  | 11 => byteOf x.openBytes 3 1
  | 12 => byteOf x.openBytes 3 2
  | 13 => byteOf x.bytesUsed 2 0
  | 14 => byteOf x.bytesUsed 2 1
  | 15 => x.acc.sum.extractLsb' 8 8
  | 16 => x.acc.sum.extractLsb' 0 8
  | 17 => x.acc.pending.getD 0
  | 18 => x.msgNo
  | 19 => BitVec.ofNat 8 x.drops
  | 20 => BitVec.ofNat 8 x.duplicates
  | 21 => BitVec.ofNat 8 (timeToGo x.backoff)
  | 22 => BitVec.ofNat 8 (timeToGo x.pacing)
  | 23 => slotField x.current
  | 24 => BitVec.ofNat 8 x.fetched.length
  | _ => 0

/-! ### The window (R184) -/

/-- Registers below 0x100 (R184). -/
def State.readLow (s : State) (a : Nat) : Byte :=
  if a ≤ 0x00A then s.station.readByte a
  else if 0x010 ≤ a ∧ a ≤ 0x01B then s.mc.readByte (a - 0x010)
  else if 0x020 ≤ a ∧ a ≤ 0x026 then s.readLatchByte (a - 0x020)
  else if a = 0x030 then s.notice.station.byte
  else if a = 0x031 then s.notice.stationEnables.byte
  else if a = 0x032 then s.notice.channelEnables.byte ||| (bit s.notice.master ++ 0#7)
  else if 0x034 ≤ a ∧ a ≤ 0x037 then s.notice.markByte (a - 0x034)
  else if 0x040 ≤ a ∧ a ≤ 0x04F then (s.notice.channels.get (Fin.ofNat 16 (a - 0x040))).byte
  else 0

/-- The byte at a register address; an address in no register reads 0 (R178, R184). -/
def State.readRegister (s : State) (addr : Word) : Byte :=
  let a := addr.toNat
  if a < 0x100 then s.readLow a
  else if a < 0x1F8 then
    match stationOf (BitVec.ofNat 5 ((a - 0x100) / 8)) with
    | some n => (s.entry n).readByte (a % 8)
    | none => 0
  else if 0x200 ≤ a ∧ a < 0x280 then (s.cfg (Fin.ofNat 16 ((a - 0x200) / 8))).readByte (a % 8)
  else if 0x300 ≤ a ∧ a < 0x500 then (s.ctx (Fin.ofNat 16 ((a - 0x300) / 32))).readByte (a % 32)
  else 0

/-- The first address of the field that holds a register address: fields of two and three bytes are timers, ages, counts and
the chain sum (R184); any other byte is a field by itself. -/
def fieldStart (a : Nat) : Nat :=
  if a < 0x100 then
    match a with
    | 0x017 => 0x016
    | 0x01A | 0x01B => 0x019
    | 0x026 => 0x025
    | _ => a
  else if a < 0x1F8 then (if a % 8 = 2 then a - 1 else a)
  else if 0x300 ≤ a ∧ a < 0x500 then
    match a % 32 with
    | 8 | 11 | 14 | 16 => a - 1
    | 9 | 12 => a - 2
    | _ => a
  else a

/-- The data byte of a register read at whose moment data byte `k` is taken: the first byte of its field, where the read
includes that byte, else its own (R178; log entry 38). -/
def takenAt (addr : Word) (k : Nat) : Nat :=
  let a := (addr + BitVec.ofNat 16 k).toNat
  if a - fieldStart a ≤ k then k - (a - fieldStart a) else k

/-! ### Outputs -/

/-- The status byte: mode, NOTICE-pending, last-refused (R177, R184). -/
def State.statusByte (s : State) : Byte := s.mc.mode.code ++ bit s.notice.low ++ bit s.port.lastRefused ++ 0#3

/-- Byte `n` of read data on MISO, 0x00 where the byte carries none or the access code names no form (R177 to R179):
`moment j` is the part at the moment byte `j` of the transaction is to be shifted out, so a register field is taken at its
first byte, a byte of Buffer RAM at its own, and a slot at its first. -/
def readData (mosi : List Byte) (moment : Nat → State) (n : Nat) : Byte :=
  match mosi with
  | [] => 0
  | access :: rest =>
    match access.toNat, rest with
    | 0x20, hi :: lo :: _ =>
      if n < 3 then 0
      else (moment (takenAt (wordOf hi lo) (n - 3) + 3)).readRegister (wordOf hi lo + BitVec.ofNat 16 (n - 3))
    | 0x40, hi :: lo :: _ =>
      if n < 3 then 0 else Memory.read (moment n).ram (offsetOf (wordOf hi lo) + BitVec.ofNat 12 (n - 3))
    | 0x60, index :: _ =>
      if n < 2 then 0
      else
        ((moment (n - (n - 2) % 8)).slot (slotOf index + Fin.ofNat 64 ((n - 2) / 8))).bytes.getD ((n - 2) % 8) 0
    | _, _ => 0

/-- Byte `n` that MISO shifts out while the host sends `mosi`: the status byte as the part stood at the fall of nCS, then the
read data. Nothing is driven from where nRESET is low, and nothing to the end of a transaction that a reset has dropped (R165,
R177; DESIGN CHOICE for what follows the rise of nRESET: log entry 19). Its bits go out most significant first (`byteBits`). -/
def misoByte (mosi : List Byte) (moment : Nat → State) (n : Nat) : Option Byte :=
  if (List.range (n + 1)).any fun j => !(moment j).hostOpen then none
  else some (if n = 0 then (moment 0).statusByte else readData mosi moment n)

/-- Whether the NOTICE output is low (R183). -/
def State.noticeLow (s : State) : Bool := s.notice.low

/-- The level of the LIMP pin: high while LIMP is asserted (R162). -/
def State.limpPin (s : State) : Bool := s.mc.limp

/-- Whether the station may be driving LINE dominant: a frame or a pulse on its way, or a response byte to send, in ACTIVE
only (R1). Which bit is under way is not held: log entry 3. -/
def State.drivesLine (s : State) : Bool := s.mc.mode == .active && (s.transmitting || s.line.response.isSome)

/-- The levels of the bytes that the station is sending, one for each bit time: the image of the own frame, or the own response
byte (R1, R2, R17, R30). -/
def State.sentLevels (s : State) : List Level :=
  if s.mc.mode = .active then
    match s.arb.latch, s.line.response with
    | some { owner := _, form := .frame f, phase := .arbitration }, _ => f.levels
    | some { owner := _, form := .frame f, phase := .sending }, _ => f.levels
    | _, some r => r.answer.levels
    | _, none => []
  else []

end Sys2Proof.Machine
end

