-- ==== Sys2Proof/Safety.lean ====
section
/-! DEFINITION. The words in which the statements are made: what a taken or refused control command leaves at the host port,
what an entry to RESTART, SAFE or SLEEP leaves, and the invariants that every step keeps. -/

namespace Sys2Proof

/-- A command that is a byte, or the slot that an eighth byte completes, of a transaction in progress (R178, R179). -/
def Instr.movesByte : Instr → Bool
  | .registerWrite _ _ | .ownAddressWrite _ | .clearDone _ | .clearNoticeFlags _ _ | .clearChangedMarks _ _
  | .bufferWrite _ _ | .bufferRead _ _ | .descriptorWrite _ _ | .descriptorRead _ _ => true
  | _ => false

/-- A command that comes with a rise of nCS (R177, R180). -/
def Instr.atRise : Instr → Bool
  | .join | .softReset | .sleep _ | .wake | .start _ | .halt _ | .clear _ | .kick _ | .resume | .clearRestarts | .clearLimp
  | .unknownCommand _ | .transactionEnd => true
  | _ => false

end Sys2Proof

namespace Sys2Proof.Machine

/-! ### The host port after a command -/

/-- The host port after a control command that was taken (R177). -/
def HostPort.taken (p : HostPort) : HostPort :=
  { p with controlTaken := true, nowRefused := false, lastRefused := false, transfer := .none }

/-- The host port with a byte access begun: its transaction is in progress, and the marks of a control transaction before it are
dropped (R177). -/
def HostPort.accessed (p : HostPort) : HostPort :=
  { p with controlTaken := false, nowRefused := p.nowRefused && !p.controlTaken, transfer := .running }

/-- The REFUSED notice set (R181). -/
def NoticeUnit.refusedSet (n : NoticeUnit) : NoticeUnit := { n with station := { n.station with refused := true } }

/-- The MODE notice set (R166). -/
def NoticeUnit.modeSet (n : NoticeUnit) : NoticeUnit := { n with station := { n.station with mode := true } }

/-- The part after a control command refused with a code and a channel: nothing but the refusal record, last-refused and
REFUSED has changed (R177, R181). -/
def State.refusedBy (s : State) (code : RefusalCode) (c : Option ChanId) : State :=
  { s with
    port :=
      { s.port with
        code := code, channel := c, controlTaken := true, nowRefused := true, lastRefused := true, transfer := .none }
    notice := s.notice.refusedSet }

/-- The part after a register write refused with a code and a channel: last-refused follows at the end of the transaction
(R177, R181). -/
def State.writeRefused (s : State) (code : RefusalCode) (c : Option ChanId) : State :=
  { s with
    port := { s.port.accessed with code := code, channel := c, nowRefused := true }
    notice := s.notice.refusedSet }

/-- The part with a control command taken, the command's own effects apart (R177). -/
def State.taken (s : State) : State := { s with port := s.port.taken }

/-- The part with a byte access begun, its own effects apart (R177). -/
def State.accessed (s : State) : State := { s with port := s.port.accessed }

/-- The bits of a configuration register that lie in a field (R184); the own address, at 0, has a row of its own. -/
def fieldMask (addr : Nat) : Byte :=
  match addr with
  | 1 => 0x03
  | 3 => 0x0F
  | 4 => 0x0F
  | 8 => 0x0F
  | _ =>
    if addr < 0x200 then 0xFF
    else
      match addr % 8 with
      | 0 => 0x07
      | 1 => 0x1F
      | 2 => 0x0F
      | 3 => 0x03
      | 4 => 0x03
      | 5 => 0xFF
      | 6 => 0x3F
      | _ => 0x7F

/-! ### Entries to modes -/

/-- Whether the clearing of the Presence Table changes an entry: one that is neither SELF nor ABSENT with its mark clear (R138,
R139). -/
def Entry.clears (e : Entry) : Prop := e.state ≠ .self ∧ (e.state ≠ .absent ∨ e.wakeTried = true)

/-- The context of a TAKE channel whose open message a withdrawal has cut (R114, R116), in HOLDING where the slot asks for it and
the channel stood in RUNNING (R115). -/
def Context.withdrawn (x : Context) (holds : Bool) : Context :=
  { x with
    state := if holds = true ∧ x.state = .running then .holding else x.state
    msgNo := x.msgNo + 1, current := none, openMsg := false, openBytes := 0, bytesUsed := 0
    acc := { sum := 0, pending := none }, acceptance := none }

/-- A context whose channel has halted with a cause: no timer runs and no HALT waits (R47, R52). -/
def Context.haltedBy (x : Context) (cause : HaltCause) : Context :=
  { x with state := .halted, haltCause := cause, backoff := none, pacing := none, haltReq := false }

/-- A slot written back CUT from a context (R114, R57). -/
def Slot.cutBy (d : Slot) (x : Context) : Slot :=
  { d with valid := false, endMark := true, status := 3, count := BitVec.ofNat 12 x.bytesUsed, msgNo := x.msgNo }

/-- What a withdrawal leaves, beside the mode (R154): no attempt, no beacon or announce offer, no beacon timer, no acceptance
record; the open message of each TAKE channel cut, with its slot written back (R114, R116); the Presence Table cleared, with the
marks of the entries that this changes (R138, R139); every other slot, context and flag, Buffer RAM, both configurations,
enables, pointers and queue as they were. The owner of the latched attempt may halt (R51); two channels never fill one slot
(R43). -/
structure Withdrawn (s t : State) : Prop where
  latch : t.arb.latch = none
  beaconOffer : t.arb.beaconOffer = false
  announceOffer : t.arb.announceOffer = false
  pointers : t.arb.pointers = s.arb.pointers
  beaconTimer : t.beaconTimer = none
  settle : t.presence.settle = none
  entries : ∀ a, t.entry a = if (s.entry a).state = .self then s.entry a else Entry.absent
  acceptances : ∀ c, (t.ctx c).acceptance = none
  taking : ∀ c, (s.cfg c).kind = .take → (t.ctx c).current = none
  others : ∀ c, (s.cfg c).kind ≠ .take ∨ (s.ctx c).current = none → s.ownsLatch c = false →
    t.ctx c = { s.ctx c with acceptance := none } ∧ t.notice.channels.get c = s.notice.channels.get c
  cuts : ∀ c d, (s.cfg c).kind = .take → s.ownsLatch c = false → (s.ctx c).current = some d →
    (∀ e, e ≠ c → (s.cfg e).kind = .take → ((s.ctx e).current.map (·.slot)) ≠ some d.slot) →
    t.ctx c = (s.ctx c).withdrawn ((s.slot d.slot).notify && (s.slot d.slot).hold)
      ∧ t.slot d.slot = (s.slot d.slot).cutBy (s.ctx c)
      ∧ t.notice.channels.get c =
          { s.notice.channels.get c with done := (s.notice.channels.get c).done || (s.slot d.slot).notify }
  marks : ∀ a, t.notice.marks.get a = true ↔ s.notice.marks.get a = true ∨ (s.entry a).clears
  peers : t.notice.station.peers = true ↔ s.notice.station.peers = true ∨ ∃ a, (s.entry a).clears
  refused : t.notice.station.refused = s.notice.station.refused
  warn : t.notice.station.warn = s.notice.station.warn
  slots : ∀ i, (∀ c, (s.cfg c).kind = .take → ((s.ctx c).current.map (·.slot)) ≠ some i) → t.slot i = s.slot i
  ram : t.ram = s.ram
  station : t.station = s.station
  configs : t.configs = s.configs
  stationEnables : t.notice.stationEnables = s.notice.stationEnables
  channelEnables : t.notice.channelEnables = s.notice.channelEnables
  master : t.notice.master = s.notice.master
  pending : t.pending = s.pending

/-- The station has entered RESTART with a cause (R153). -/
structure Restarted (s t : State) (cause : EntryCause) : Prop extends Withdrawn s t where
  mc : t.mc =
    { s.mc with
      mode := .restart, entryCause := cause, safeFault := .none, listenTimer := none, restartTimer := some 5
      safeTimer := none, pendingSleep := .none }
  line : t.line = LineRecord.reset
  detector : t.wake.on = false
  modeNotice : t.notice.station.mode = true

/-- The station has entered SAFE with a fault (R157). -/
structure SafeEntered (s t : State) (fault : SafeFault) : Prop extends Withdrawn s t where
  mc : t.mc =
    { s.mc with
      mode := .safe, entryCause := fault.cause, safeFault := fault, limp := true, listenTimer := none
      safeTimer := startTimer (1000 * s.station.safeTime.toNat), pendingSleep := .none }
  lineState : t.line.state = .busy .resync
  detector : t.wake.on = true
  modeNotice : t.notice.station.mode = true

/-- The station has entered SLEEP from ACTIVE with a cause: what it keeps and what it gives up (R171). -/
structure FallenAsleep (s t : State) (cause : EntryCause) : Prop where
  mc : t.mc = { s.mc with mode := .sleep, entryCause := cause, pendingSleep := .none }
  latch : t.arb.latch = none
  beaconOffer : t.arb.beaconOffer = false
  announceOffer : t.arb.announceOffer = false
  pointers : t.arb.pointers = s.arb.pointers
  beaconTimer : t.beaconTimer = none
  presence : t.presence = s.presence
  contexts : ∀ c, s.ownsLatch c = false → t.ctx c = { s.ctx c with acceptance := none }
  acceptances : ∀ c, (t.ctx c).acceptance = none
  lineState : t.line.state = .busy .resync
  detector : t.wake.on = true
  modeNotice : t.notice.station.mode = true
  slots : t.slots = s.slots
  ram : t.ram = s.ram
  station : t.station = s.station
  configs : t.configs = s.configs
  pending : t.pending = s.pending

/-! ### Frames of the line -/

end Sys2Proof.Machine

namespace Sys2Proof

/-- A frame that R6 to R8 admit: a header without a format error, and a chain sum exactly where its kind and position carry
one. -/
def Frame.admitted (f : Frame) : Prop :=
  f.source ≠ 31 ∧ (f.toggle = true → f.kind = .data) ∧ (f.position ≠ .only → f.kind = .data)
    ∧ (f.dest = allStations ↔ f.kind.broadcast = true) ∧ lengthFits f.kind f.payload.length = true
    ∧ (f.chain.isSome ↔ carriesChain f.kind f.position = true)

end Sys2Proof

namespace Sys2Proof.Machine

/-- Sum of the words of a message, an odd last byte being the high byte of a word whose low byte is 0 (R10). -/
def wordSum : List Byte → Nat
  | hi :: lo :: rest => 256 * hi.toNat + lo.toNat + wordSum rest
  | [hi] => 256 * hi.toNat
  | [] => 0

/-- A frame of another station is at its end: the station assembles it and is not sending one (R4, R12). -/
structure State.Hears (s : State) (f : Frame) : Prop where
  admitted : f.admitted
  mode : s.mc.mode = .listen ∨ s.mc.mode = .active
  line : s.line.state = .busy .frame
  silent : ∀ a, s.arb.latch = some a → a.phase = .waiting
  source : f.source ≠ s.station.ownAddress

/-- The line record at the end of a valid frame (R4, R16), with its idle bit times (log entry 3). -/
def LineRecord.after (l : LineRecord) (f : Frame) (part : WindowPart) : LineRecord :=
  { l with
    state := if f.kind = .data ∨ f.kind = .openF then .busy .window else .busy .gap
    idleCount := idleAfterBytes f.bytes
    frameRecord := f.bytes
    window := if f.kind = .data ∨ f.kind = .openF then some { dest := f.dest, part := part } else none
    dominantBits := 0 }

/-- The line record in RESYNC, what was being read discarded (R5, R11, R20). -/
def LineRecord.upset (l : LineRecord) (idle run : Nat) : LineRecord :=
  { l with state := .busy .resync, idleCount := idle, frameRecord := [], window := none, dominantBits := run }

/-- The station waits in the window of the frame that a SEND channel has sent, with no quiet sleep waiting for its end (R33,
R170). -/
structure State.AtAnswer (s : State) (c : ChanId) (img : Frame) : Prop where
  mode : s.mc.mode = .active
  line : s.line.state = .busy .window
  window : s.line.window = some { dest := (s.cfg c).peerStation, part := .sender }
  latch : s.arb.latch = some { owner := .channel c, form := .frame img, phase := .answer }
  kind : (s.cfg c).kind = .send
  awake : s.mc.pendingSleep ≠ .quiet

/-- The station waits so with no HALT waiting for the end of the attempt (R51). -/
structure State.Awaits (s : State) (c : ChanId) (img : Frame) : Prop extends State.AtAnswer s c img where
  running : (s.ctx c).haltReq = false

/-- What the end of an attempt leaves alone: every context but the owner's, Buffer RAM, both configurations, the mode and its
timers, the other classes of offers and the queue. -/
structure AttemptFrame (s t : State) (c : ChanId) : Prop where
  latch : t.arb.latch = none
  pointers : t.arb.pointers = s.arb.pointers
  beaconOffer : t.arb.beaconOffer = s.arb.beaconOffer
  announceOffer : t.arb.announceOffer = s.arb.announceOffer
  contexts : ∀ d, d ≠ c → t.ctx d = s.ctx d
  ram : t.ram = s.ram
  station : t.station = s.station
  configs : t.configs = s.configs
  port : t.port = s.port
  pending : t.pending = s.pending
  mode : t.mc = { s.mc with lineErrors := t.mc.lineErrors }

/-- The response decision has chosen a byte for a frame (R98, R17): the line in WINDOW as destination with the byte to send, one
good reception, and everything but the addressed channel, its ring, its notices and the Presence Table left alone. -/
structure Answered (s t : State) (f : Frame) (a : Answer) : Prop where
  line : t.line = { s.line.after f .destination with response := some { answer := a, channel := f.channel } }
  mc : t.mc = { s.mc with lineErrors := s.mc.lineErrors - 1 }
  contexts : ∀ d, d ≠ f.channel → t.ctx d = s.ctx d
  flags : ∀ d, d ≠ f.channel → t.notice.channels.get d = s.notice.channels.get d
  latch : t.arb.latch = s.arb.latch
  pointers : t.arb.pointers = s.arb.pointers
  beaconTimer : t.beaconTimer = s.beaconTimer
  ram : t.ram = s.ram
  station : t.station = s.station
  configs : t.configs = s.configs
  port : t.port = s.port
  pending : t.pending = s.pending

/-- What the end of the own response byte leaves alone: every other channel, the ring slots not named, the Presence Table, the
offers, the mode, both configurations, the host port and the queue (R108). -/
structure CommitFrame (s t : State) (c : ChanId) : Prop where
  contexts : ∀ d, d ≠ c → t.ctx d = s.ctx d
  flags : ∀ d, d ≠ c → t.notice.channels.get d = s.notice.channels.get d
  stationFlags : t.notice.station = s.notice.station
  marks : t.notice.marks = s.notice.marks
  arb : t.arb = s.arb
  presence : t.presence = s.presence
  mc : t.mc = s.mc
  beaconTimer : t.beaconTimer = s.beaconTimer
  station : t.station = s.station
  configs : t.configs = s.configs
  port : t.port = s.port
  pending : t.pending = s.pending

/-! ### Walks of a ring -/

/-- The slot that a walk of a ring reaches in `n` steps from slot `i` (R58). -/
def ChanConfig.after (g : ChanConfig) (i : SlotId) : Nat → SlotId
  | 0 => i
  | n + 1 => g.next (g.after i n)

/-- A state in which one channel's context and flags, and the Descriptor Table, are those of another. -/
def State.withRing (s u : State) (c : ChanId) : State :=
  { s with
    contexts := s.contexts.set c (u.ctx c), slots := u.slots
    notice := { s.notice with channels := s.notice.channels.set c (u.notice.channels.get c) } }

/-- The fetched list of a context after `n` more slots of its ring (R61, R62). -/
def State.listAfter (s : State) (c : ChanId) (x : Context) (n : Nat) : List SlotCopy :=
  x.fetched ++ (List.range n).map fun k =>
    (s.slot ((s.cfg c).after x.walker k)).copy ((s.cfg c).after x.walker k)

/-- A fetch that begins with a context adds `n` slots: at each the need is unmet, the ring has not come round, and the slot is
valid, ends within Buffer RAM and leaves a publication no longer than max payload (R62, R63). -/
def State.FetchAdds (s : State) (c : ChanId) (x : Context) (n : Nat) : Prop :=
  ∀ k < n,
    let i := (s.cfg c).after x.walker k
    needMet (s.cfg c) { x with fetched := s.listAfter c x k } = false ∧ (s.listAfter c x k = [] ∨ i ≠ x.msgStart)
      ∧ (s.slot i).valid = true ∧ (s.slot i).offset.toNat + (s.slot i).length.toNat ≤ 4096
      ∧ ((s.cfg c).kind = .publish → listBytes (s.listAfter c x (k + 1)) ≤ (s.cfg c).maxPayload)

/-- A fetch that adds no more slots has left the channel with a context, the Descriptor Table and its flags as they were but for
DRAINED (R63). -/
structure FetchRests (s t : State) (c : ChanId) (y : Context) (drained : Bool) : Prop where
  ctx : t.ctx c = y
  slots : t.slots = s.slots
  flags : t.notice.channels.get c =
    { s.notice.channels.get c with drained := (s.notice.channels.get c).drained || drained }

/-- A descriptor error at a fetch (R64, R65): each slot of the message written back with a status, after them the slot at fault
BAD_RANGE where there is one, DONE raised for the notify marks among them; the message given up, both indexes on one slot, and the
channel halted. -/
structure FetchFails (s t : State) (c : ChanId) (x : Context) (l : List SlotCopy) (status : BitVec 4) (bad : Option SlotId)
    (i : SlotId) : Prop where
  ctx : t.ctx c =
    Context.haltedBy
      { x with
        fetched := [], walker := i, msgStart := i, stream := 0, acc := { sum := 0, pending := none }, retry := 0, nak := 0 }
      .descError
  fault : ∀ j, bad = some j →
    t.slot j = { s.slot j with valid := false, status := 6, count := 0, msgNo := x.msgNo }
  message : ∀ k ∈ l, bad ≠ some k.slot →
    t.slot k.slot = { s.slot k.slot with valid := false, status := status, count := 0, msgNo := x.msgNo }
  others : ∀ j, bad ≠ some j → (∀ k ∈ l, k.slot ≠ j) → t.slot j = s.slot j
  flags : t.notice.channels.get c =
    { s.notice.channels.get c with
      halted := true
      done :=
        (s.notice.channels.get c).done || (l.any fun k => (s.slot k.slot).notify)
          || bad.any fun j => (s.slot j).notify }

/-- What a fetch leaves of its channel, from a state and the context with which the fetch begins, by the slots it adds, at most a
ring of 64: none with a halt requested (R62); the need met; an invalid slot; a slot out of range; the ring come round; a
publication too long (R63 to R65). -/
structure FetchGives (s t : State) (c : ChanId) (x : Context) : Prop where
  halting : x.haltReq = true → FetchRests s t c x false
  met : x.haltReq = false → ∀ n, n ≤ 64 → s.FetchAdds c x n →
    needMet (s.cfg c) { x with fetched := s.listAfter c x n } = true →
    FetchRests s t c
      { x with
        fetched := s.listAfter c x n, walker := (s.cfg c).after x.walker n
        state := if x.state = .drained then .running else x.state }
      false
  dry : x.haltReq = false → ∀ n, n ≤ 64 → s.FetchAdds c x n →
    needMet (s.cfg c) { x with fetched := s.listAfter c x n } = false →
    s.listAfter c x n = [] ∨ (s.cfg c).after x.walker n ≠ x.msgStart →
    (s.slot ((s.cfg c).after x.walker n)).valid = false →
    FetchRests s t c
      { x with
        fetched := s.listAfter c x n, walker := (s.cfg c).after x.walker n
        state := if x.state = .running then .drained else x.state }
      (decide (x.state = .running))
  badRange : x.haltReq = false → ∀ n, n ≤ 64 → s.FetchAdds c x n →
    needMet (s.cfg c) { x with fetched := s.listAfter c x n } = false →
    s.listAfter c x n = [] ∨ (s.cfg c).after x.walker n ≠ x.msgStart →
    let d := s.slot ((s.cfg c).after x.walker n)
    d.valid = true → 4096 < d.offset.toNat + d.length.toNat →
    FetchFails s t c x (s.listAfter c x n) 7 (some ((s.cfg c).after x.walker n)) ((s.cfg c).after x.walker (n + 1))
  round : x.haltReq = false → ∀ n, n ≤ 64 → s.FetchAdds c x n →
    needMet (s.cfg c) { x with fetched := s.listAfter c x n } = false →
    s.listAfter c x n ≠ [] → (s.cfg c).after x.walker n = x.msgStart →
    FetchFails s t c x (s.listAfter c x n) 8 none x.msgStart
  oversize : x.haltReq = false → ∀ n, n ≤ 64 → s.FetchAdds c x n →
    needMet (s.cfg c) { x with fetched := s.listAfter c x n } = false →
    s.listAfter c x n = [] ∨ (s.cfg c).after x.walker n ≠ x.msgStart →
    let d := s.slot ((s.cfg c).after x.walker n)
    d.valid = true → d.offset.toNat + d.length.toNat ≤ 4096 → (s.cfg c).kind = .publish →
    (s.cfg c).maxPayload < listBytes (s.listAfter c x (n + 1)) →
    FetchFails s t c x (s.listAfter c x (n + 1)) 8 none ((s.cfg c).after x.walker (n + 1))

/-- The slots of a sent message written back DONE, each with its length, and DONE raised for the notify marks among them (R67,
R71). -/
structure MessageDone (s u : State) (c : ChanId) : Prop where
  message : ∀ k ∈ (s.ctx c).fetched,
    u.slot k.slot = { s.slot k.slot with valid := false, status := 1, count := k.length, msgNo := (s.ctx c).msgNo }
  others : ∀ j, (∀ k ∈ (s.ctx c).fetched, k.slot ≠ j) → u.slot j = s.slot j
  rest : u =
    { s with
      slots := u.slots
      notice :=
        { s.notice with
          channels :=
            s.notice.channels.set c
              { s.notice.channels.get c with
                done :=
                  (s.notice.channels.get c).done || (s.ctx c).fetched.any fun k => (s.slot k.slot).notify } } }

/-- A space search passes `n` slots: each is another than the current descriptor's, valid, within Buffer RAM and shorter than max
payload (R69). -/
def State.SearchPasses (s : State) (c : ChanId) (n : Nat) : Prop :=
  ∀ k < n,
    let i := (s.cfg c).after (s.ctx c).walker k
    ((s.ctx c).current.map fun d => d.slot) ≠ some i ∧ (s.slot i).valid = true
      ∧ (s.slot i).offset.toNat + (s.slot i).length.toNat ≤ 4096 ∧ (s.slot i).length.toNat < (s.cfg c).maxPayload

/-- The Descriptor Table with the `n` slots that a space search has passed written back UNFIT (R69). -/
def State.unfitSlots (s : State) (c : ChanId) (n : Nat) : Table 64 Slot :=
  .ofFn fun j =>
    if ∃ k < n, (s.cfg c).after (s.ctx c).walker k = j then
      { s.slot j with valid := false, endMark := false, status := 5, count := 0, msgNo := (s.ctx c).msgNo }
    else s.slot j

/-- A channel's flags with DONE raised where one of the `n` slots that a space search has passed has its notify mark (R69, R71). -/
def State.unfitFlags (s : State) (c : ChanId) (n : Nat) : ChanFlags :=
  { s.notice.channels.get c with
    done :=
      (s.notice.channels.get c).done
        || (List.range n).any fun k => (s.slot ((s.cfg c).after (s.ctx c).walker k)).notify }

/-! ### Invariants -/

/-- The entry of the own address is SELF, and no other is (R130). -/
def State.SelfExact (s : State) : Prop :=
  ∀ a, (s.entry a).state = .self ↔ stationOf s.station.ownAddress = some a

/-- The restart limit lies in 1 to 14 and the restart count below it; in SETUP the count is 0 (R144, R145, R152). -/
def State.RestartsBounded (s : State) : Prop :=
  1 ≤ s.station.restartLimit.toNat ∧ s.station.restartLimit.toNat ≤ 14 ∧ s.mc.restarts < s.station.restartLimit.toNat
    ∧ (s.mc.mode = .setup → s.mc.restarts = 0)

/-- In LISTEN and ACTIVE the line error count is below 128 (R152). -/
def State.ErrorsBounded (s : State) : Prop := s.mc.mode.listens = true → s.mc.lineErrors < 128

/-- What holds of the mode in every state a run reaches: an attempt is latched in ACTIVE only (R35), LIMP is asserted in SAFE
(R162), and the Wake Detector is on in SLEEP and SAFE only (R173). -/
def State.ModeConsistent (s : State) : Prop :=
  (s.arb.latch.isSome = true → s.mc.mode = .active) ∧ (s.mc.mode = .safe → s.mc.limp = true)
    ∧ s.wake.on = s.mc.mode.dozes

/-- A TAKE channel holds a current descriptor exactly while its open-message flag is set (R97); a record that stores into the
current descriptor finds one. -/
def Context.OpenExact (x : Context) : Prop :=
  (x.openMsg = true ↔ x.current.isSome = true)
    ∧ ∀ r w, x.acceptance = some r → r.form = .store w → w.target = .current → r.withdrawn = false →
        w.closes = .nothing ∧ x.current.isSome = true

/-- Every channel's open message is exact (R97). -/
def State.OpenExact (s : State) : Prop := ∀ c, (s.ctx c).OpenExact

/-- Only a TAKE channel holds an acceptance record or a current descriptor, and in SETUP none does (R97, R45). -/
def State.TakingExact (s : State) : Prop :=
  ∀ c, (s.cfg c).kind ≠ .take ∨ s.mc.mode = .setup → (s.ctx c).acceptance = none ∧ (s.ctx c).current = none

/-- Each channel holds an offer exactly when its conditions hold (R79, R120); in SETUP every channel stands in STOPPED
(R45). -/
def State.OffersExact (s : State) : Prop :=
  (∀ c, s.arb.offers.get c = s.mayOffer c) ∧ (s.mc.mode = .setup → ∀ c, (s.ctx c).state = .stopped)

/-- A channel's attempt, the beacon and the announce have an image, and the wake request's attempt has none (R29). -/
def State.LatchFormed (s : State) : Prop :=
  ∀ a, s.arb.latch = some a → (a.form = .pulse ↔ a.owner = .wakeRequest)

/-- Whether a slot lies in a channel's ring (R58). -/
def ChanConfig.inRing (g : ChanConfig) (i : SlotId) : Prop :=
  g.ringBase.toNat ≤ i.val ∧ i.val < g.ringBase.toNat + g.ringLength.toNat

/-- Outside SETUP both indexes of a channel of a kind other than OFF name slots of its own ring, which lies within slots 0 to
63 (R44, R58). -/
def State.IndexesInRing (s : State) : Prop :=
  s.mc.mode ≠ .setup → ∀ c, (s.cfg c).kind ≠ .off →
    (s.cfg c).ringBase.toNat + (s.cfg c).ringLength.toNat ≤ 64 ∧ (s.cfg c).inRing (s.ctx c).walker
      ∧ (s.cfg c).inRing (s.ctx c).msgStart

/-- A SEND channel's retry count does not exceed the retry limit, and its NAK count stays below a NAK patience that is not 0,
outside SETUP (R85, R87). -/
def State.CountsBounded (s : State) : Prop :=
  s.mc.mode ≠ .setup → ∀ c,
    (s.ctx c).retry ≤ s.station.retryLimit.toNat
      ∧ (s.station.nakPatience ≠ 0 → (s.ctx c).nak < s.station.nakPatience.toNat)

end Sys2Proof.Machine
end

