-- ==== Sys2Proof/Certificates/Slice0/Obligations.lean ====
section
/-! DEFINITION. The statements for the provers. A statement that names an operation of the model (`reportRise`, `handOver`,
`look` and the like) has another statement that says what that operation does. -/

open Sys2Proof Sys2Proof.Machine

/-! ### The step and the queue -/

/-- One step takes the command at the front of the queue and runs it with the queue's rest. -/
def Obligations.StepRunsFrontCommand : Prop :=
  ∀ (c : Instr) (s : State) (rest : List Instr),
    step { s with pending := c :: rest } = exec c { s with pending := rest }

/-- The step with no command waiting (the model's choice, log entries 2 and 7). A pick that is due joins the queue, and an attempt
that waits begins in an IDLE line (R26, R30). A frame in ARBITRATION sends one bit time of H0, at the rate its code gives, and is
in SENDING with the eighth data bit (R2, R30); bit times that fill a millisecond bring its tick. Otherwise the step is one tick:
a running timer loses a millisecond, and in its last one its expiry joins the queue (R90, R92, R136, R141, R148, R153, R159); the
presence entries age in LISTEN and ACTIVE, and one that reaches its timeout is timed out (R134); a difference of the WAKE pin
begins, runs on, or is reset, and a level read for a whole tick is accepted (R174). -/
def Obligations.EmptyQueueStepTicksTheClocks : Prop :=
  (∀ s : State, s.pending = [] → (s.canPick && s.choose.isSome) = true →
    step s = .next { s with pending := [.pick true] })
  ∧ (∀ (s : State) (a : Attempt), s.pending = [] → s.mc.mode = .active → s.line.state = .idle → s.arb.latch = some a →
      a.phase = .waiting →
      step s = .next
        { s with
          arb := { s.arb with latch := some { a with phase := if a.form = .pulse then .pulse else .arbitration } }
          line :=
            { s.line with
              state := .busy .frame, idleCount := 0, frameRecord := [], dominantBits := 1
              ownRun := decide (a.form = .pulse) }
          clock := { s.clock with h0Left := if a.form = .pulse then 0 else 9 } })
  ∧ (∀ (s : State) (a : Attempt), s.pending = [] → s.arb.latch = some a → a.phase = .arbitration → s.station.rateCode ≠ 3 →
      let bit := if s.station.rateCode = 0 then 16 else if s.station.rateCode = 1 then 8 else 4
      ∃ t, step s = .next t
        ∧ t.arb = { s.arb with latch := some (if 1 < s.clock.h0Left then a else { a with phase := .sending }) }
        ∧ t.clock.h0Left = s.clock.h0Left - 1
        ∧ (s.clock.micros + bit < 1000 →
            t = { s with arb := t.arb, clock := { h0Left := s.clock.h0Left - 1, micros := s.clock.micros + bit } })
        ∧ (1000 ≤ s.clock.micros + bit →
            t.clock.micros = s.clock.micros + bit - 1000
              ∧ ∀ c n, (s.ctx c).backoff = some (n + 2) → (t.ctx c).backoff = some (n + 1)))
  ∧ ∀ s : State, s.pending = [] → (s.canPick && s.choose.isSome) = false → s.phase? ≠ some .waiting →
      s.phase? ≠ some .arbitration →
      ∃ t, step s = .next t
        ∧ (∀ c n, (s.ctx c).backoff = some (n + 2) → (t.ctx c).backoff = some (n + 1) ∧ .backoffExpiry c ∉ t.pending)
        ∧ (∀ c, (s.ctx c).backoff = some 1 → .backoffExpiry c ∈ t.pending)
        ∧ (∀ c n, (s.ctx c).pacing = some (n + 2) → (t.ctx c).pacing = some (n + 1) ∧ .pacingExpiry c ∉ t.pending)
        ∧ (∀ c, (s.ctx c).pacing = some 1 → .pacingExpiry c ∈ t.pending)
        ∧ (∀ n, s.beaconTimer = some (n + 2) → t.beaconTimer = some (n + 1) ∧ .beaconTimerExpiry ∉ t.pending)
        ∧ (s.beaconTimer = some 1 → .beaconTimerExpiry ∈ t.pending)
        ∧ (∀ n, s.mc.listenTimer = some (n + 2) → t.mc.listenTimer = some (n + 1) ∧ .listenTimerExpiry ∉ t.pending)
        ∧ (s.mc.listenTimer = some 1 → .listenTimerExpiry ∈ t.pending)
        ∧ (∀ n, s.mc.restartTimer = some (n + 2) → t.mc.restartTimer = some (n + 1) ∧ .restartTimerExpiry ∉ t.pending)
        ∧ (s.mc.restartTimer = some 1 → .restartTimerExpiry ∈ t.pending)
        ∧ (∀ n, s.mc.safeTimer = some (n + 2) → t.mc.safeTimer = some (n + 1) ∧ .safeTimerExpiry ∉ t.pending)
        ∧ (s.mc.safeTimer = some 1 → .safeTimerExpiry ∈ t.pending)
        ∧ (s.mc.mode = .listen ∨ s.mc.mode = .active ∨ s.mc.mode = .sleep →
            (∀ n, s.presence.settle = some (n + 2) →
              t.presence.settle = some (n + 1) ∧ .wakeSettleExpiry ∉ t.pending)
            ∧ (s.presence.settle = some 1 → .wakeSettleExpiry ∈ t.pending))
        ∧ (s.mc.mode = .setup ∨ s.mc.mode = .restart ∨ s.mc.mode = .safe →
            t.presence.settle = s.presence.settle ∧ .wakeSettleExpiry ∉ t.pending)
        ∧ (s.mc.mode = .listen ∨ s.mc.mode = .active →
            ∀ a,
              t.entry a =
                  (if (s.entry a).state = .present ∨ (s.entry a).state = .waking ∨ (s.entry a).state = .absent then
                    { s.entry a with age := min 65535 ((s.entry a).age + 1) }
                  else s.entry a)
                ∧ (.presenceTimeout a ∈ t.pending ↔
                    ((s.entry a).state = .present ∨ (s.entry a).state = .waking)
                      ∧ 30 * ((s.entry a).interval.getD s.station.beaconInterval).toNat
                          ≤ min 65535 ((s.entry a).age + 1)))
        ∧ (s.mc.mode ≠ .listen → s.mc.mode ≠ .active →
            t.presence.entries = s.presence.entries ∧ ∀ a, .presenceTimeout a ∉ t.pending)
        ∧ (s.wake.on = true → s.wake.pin ≠ s.wake.accepted →
            t.wake = { s.wake with difference := s.wake.difference + 1 }
              ∧ (.wakePinAccepted (.held s.wake.pin) ∈ t.pending ↔ 1 ≤ s.wake.difference))
        ∧ (s.wake.on = false ∨ s.wake.pin = s.wake.accepted →
            t.wake = { s.wake with difference := 0 } ∧ ∀ p, .wakePinAccepted p ∉ t.pending)
        ∧ t.station = s.station ∧ t.configs = s.configs ∧ t.slots = s.slots ∧ t.ram = s.ram ∧ t.line = s.line
        ∧ t.notice = s.notice ∧ t.port = s.port ∧ t.mc.mode = s.mc.mode ∧ t.mc.lineErrors = s.mc.lineErrors
        ∧ t.arb = s.arb ∧ t.resetLow = s.resetLow ∧ t.clock = { s.clock with micros := 0 }

/-- No command stops the part, and none touches the commands that wait behind it. -/
def Obligations.EveryCommandAnswersNextAndKeepsTheQueue : Prop :=
  ∀ (c : Instr) (s : State), ∃ t, exec c s = .next t ∧ t.pending = s.pending

/-! ### Resets -/

/-- RESET, with the rise of nRESET, gives every register the value the manual states (R165); the level of the WAKE pin, an input,
and the queue stay (log entry 19), and the values of the pin filter and of the bit clock are the model's (log entries 11 and 7).
A transaction in progress is dropped: none of its later bytes is taken, nor what its rise of nCS brings, and the rise ends it
(R165); that a byte taken shows a transaction in progress is the model's form (log entry 19). From the fall of nRESET on the part
is held at the reset values: LINE is released, LIMP low and NOTICE high, no host transaction is taken, MISO is not driven, and
nothing but RESET, the level of the WAKE pin and the mark of the transaction in progress changes (R165). -/
def Obligations.ResetGivesTheResetValues : Prop :=
  (∀ s : State, ∃ t, exec .reset s = .next t
    ∧ t.station =
        { ownAddress := 0, rateCode := 1, beaconInterval := 10, followSleep := false, lineWake := true
          wakePinEnabled := false, wakePinHigh := true, retryLimit := 7, nakPatience := 0, nakBackoff := 2
          silenceBackoff := 5, restartLimit := 4, safeTime := 30, wakeSettle := 25 }
    ∧ (∀ c, t.cfg c =
        { kindCode := 0, peerStation := 0, peerChannel := 0, payloadCode := 0, prio := 3, pacing := 0, ringBase := 0
          ringLength := 1 })
    ∧ (∀ c, t.ctx c = Context.cleared)
    ∧ (∀ i, (t.slot i).bytes = [0, 0, 0, 0, 0, 0, 0, 0])
    ∧ (∀ a, Memory.read t.ram a = 0)
    ∧ t.line =
        { state := .busy .resync, idleCount := 0, frameRecord := [], window := none, clashWatch := false, heldError := false
          runTimer := 0, dominantBits := 0, ownRun := false, stuck := false, response := none }
    ∧ (∀ c, t.arb.offers.get c = false) ∧ t.arb.beaconOffer = false ∧ t.arb.announceOffer = false
    ∧ t.arb.wakeRequest = false ∧ t.arb.latch = none ∧ (∀ k, t.arb.pointers.get k = 15)
    ∧ (∀ a, t.entry a = if a = 0 then Entry.self else Entry.absent) ∧ t.presence.settle = none ∧ t.beaconTimer = none
    ∧ t.mc =
        { mode := .setup, entryCause := .none, safeFault := .none, lineErrors := 0, restarts := 0, listenTimer := none
          restartTimer := none, safeTimer := none, limp := false, pendingSleep := .none }
    ∧ t.notice.station = .clear ∧ (∀ c, t.notice.channels.get c = .clear) ∧ (∀ a, t.notice.marks.get a = false)
    ∧ t.notice.stationEnables = .clear ∧ t.notice.channelEnables = .clear ∧ t.notice.master = false
    ∧ t.port.code = .none ∧ t.port.channel = none ∧ t.port.lastRefused = false
    ∧ t.port.transfer = (if s.port.transfer = .none then .none else .dropped)
    ∧ t.wake = { on := false, pin := s.wake.pin, accepted := false, difference := 0 } ∧ t.pending = s.pending
    ∧ t.resetLow = false ∧ t.clock = { h0Left := 0, micros := 0 } ∧ s.resetFalls = { t with resetLow := true })
  ∧ (∀ (s : State) (c : Instr),
      (c.movesByte = true →
        (s.hostOpen = true → ∃ t, exec c s = .next t ∧ t.port.transfer = .running)
        ∧ (s.hostOpen = false → exec c s = .next { s with port := { s.port with transfer := .dropped } }))
      ∧ (c.atRise = true →
          (s.hostOpen = true → ∃ t, exec c s = .next t ∧ t.port.transfer = .none)
          ∧ (s.hostOpen = false → exec c s = .next { s with port := { s.port with transfer := .none } }))
      ∧ (s.resetLow = true → s.selectFalls.port.transfer = .dropped)
      ∧ (s.resetLow = false → s.selectFalls.port.transfer = .running))
  ∧ ∀ s : State,
      let low := s.resetFalls
      low.drivesLine = false ∧ low.sentLevels = [] ∧ low.limpPin = false ∧ low.noticeLow = false
      ∧ (∀ mosi, low.hostTransaction mosi = low)
      ∧ (∀ mosi (moment : Nat → State) (j n : Nat), j ≤ n → moment j = low → misoByte mosi moment n = none)
      ∧ (∀ c : Instr, c ≠ .reset → (∀ p, c ≠ .wakePinAccepted p) → c.movesByte = false → c.atRise = false →
          exec c low = .next low)
      ∧ (∀ level, ∀ p ∈ [PinEvent.moves level, .held level],
          exec (.wakePinAccepted p) low = .next { low with wake := { low.wake with pin := level } })
      ∧ (s.pending = [] → step low = .next low)

/-- SOFT_RESET (R164): everything but the configuration, the Descriptor Table, Buffer RAM and the enables takes its cleared
value; the Presence Table keeps SELF. -/
def Obligations.SoftResetClearsAllButTheConfiguration : Prop :=
  ∀ s : State, s.hostOpen = true →
    exec .softReset s = .next
      { s with
        contexts := .replicate 16 .cleared
        line := .reset
        arb :=
          { offers := .replicate 16 false, beaconOffer := false, announceOffer := false, wakeRequest := false
            latch := none, pointers := .replicate 4 15 }
        presence :=
          { entries := s.presence.entries.mapIdx fun _ e => if e.state = .self then e else Entry.absent, settle := none }
        beaconTimer := none
        mc :=
          { mode := .setup, entryCause := .none, safeFault := .none, lineErrors := 0, restarts := 0, listenTimer := none
            restartTimer := none, safeTimer := none, limp := false, pendingSleep := .none }
        wake := { s.wake with on := false, difference := 0 }
        notice :=
          { s.notice with station := .clear, channels := .replicate 16 .clear, marks := .replicate 31 false }
        port := { s.port.taken with code := .none, channel := none } }

/-! ### JOIN -/

/-- JOIN with a good configuration (R146, R45, R148): the contexts at their starting values, LISTEN entered. -/
def Obligations.JoinTakenStartsListening : Prop :=
  ∀ s : State, s.hostOpen = true → s.mc.mode = .setup → s.station.ownAddress ≠ 31 → s.station.rateCode ≠ 3 →
    s.station.beaconInterval ≠ 0 → s.station.nakBackoff ≠ 0 → s.station.silenceBackoff ≠ 0 → s.station.safeTime ≠ 0 →
    s.station.wakeSettle ≠ 0 → (∀ c, s.checkChannel c = none) →
    exec .join s = .next
      { s with
        contexts :=
          .ofFn fun c =>
            if (s.cfg c).kind = .off then Context.cleared
            else { Context.cleared with walker := (s.cfg c).ringBase.toFin, msgStart := (s.cfg c).ringBase.toFin }
        mc :=
          { s.mc with
            mode := .listen, lineErrors := 0, restartTimer := none
            listenTimer := some (20 * s.station.beaconInterval.toNat) }
        line := .reset
        notice := s.notice.modeSet
        port := s.port.taken }

/-- JOIN refused (R146, R41): in another mode, at the first station check that fails, else at the lowest channel at which a
check fails, which is stored with the code. -/
def Obligations.JoinRefusedAtTheFirstFailure : Prop :=
  ∀ s : State, s.hostOpen = true →
    (s.mc.mode ≠ .setup → exec .join s = .next (s.refusedBy .wrongMode none))
    ∧ (s.mc.mode = .setup →
        (s.station.ownAddress = 31 → exec .join s = .next (s.refusedBy .badAddress none))
        ∧ (s.station.ownAddress ≠ 31 →
            (s.station.rateCode = 3 → exec .join s = .next (s.refusedBy .badRate none))
            ∧ (s.station.rateCode ≠ 3 →
                (s.station.beaconInterval = 0 ∨ s.station.nakBackoff = 0 ∨ s.station.silenceBackoff = 0
                    ∨ s.station.safeTime = 0 ∨ s.station.wakeSettle = 0 →
                  exec .join s = .next (s.refusedBy .badValue none))
                ∧ ∀ c code, s.station.beaconInterval ≠ 0 → s.station.nakBackoff ≠ 0 → s.station.silenceBackoff ≠ 0 →
                    s.station.safeTime ≠ 0 → s.station.wakeSettle ≠ 0 → s.checkChannel c = some code →
                    (∀ d, d < c → s.checkChannel d = none) →
                    exec .join s = .next (s.refusedBy code (some c)))))

/-- The channel check passes exactly when every channel that is not OFF has fields in their ranges, a ring within slots 0 to
63, a peer that is another station where its kind has one, and shares no slot and no binding with a lower channel (R41 to
R43). -/
def Obligations.ChannelCheckPassesExactlyOnGoodRecords : Prop :=
  ∀ s : State,
    (∀ c, s.checkChannel c = none) ↔
      ∀ c, (s.cfg c).kindCode ≠ 0 →
        (s.cfg c).kindCode.toNat ≤ 4 ∧ (s.cfg c).payloadCode ≠ 3
          ∧ 1 ≤ (s.cfg c).ringLength.toNat ∧ (s.cfg c).ringBase.toNat + (s.cfg c).ringLength.toNat ≤ 64
          ∧ ((s.cfg c).kind = .send ∨ (s.cfg c).kind = .take ∨ (s.cfg c).kind = .subscribe →
              (s.cfg c).peerStation ≠ 31 ∧ (s.cfg c).peerStation ≠ s.station.ownAddress)
          ∧ ∀ d, d < c → (s.cfg d).kindCode ≠ 0 →
              (∀ i, ¬ ((s.cfg c).inRing i ∧ (s.cfg d).inRing i))
                ∧ ¬ ((s.cfg c).kind = (s.cfg d).kind ∧ ((s.cfg c).kind = .send ∨ (s.cfg c).kind = .subscribe)
                      ∧ (s.cfg c).peerStation = (s.cfg d).peerStation ∧ (s.cfg c).peerChannel = (s.cfg d).peerChannel)

/-- The code of the check that fails at a channel that is not OFF, in the order of R42 and R43: BAD_VALUE, RING_RANGE,
SELF_PEER, then with the lowest lower channel RING_OVERLAP before DUP_BINDING. -/
def Obligations.ChannelCheckReportsTheFirstCode : Prop :=
  ∀ (s : State) (c : ChanId), (s.cfg c).kindCode ≠ 0 →
    let g := s.cfg c
    let peered := g.kind = .send ∨ g.kind = .take ∨ g.kind = .subscribe
    let bad :=
      4 < g.kindCode.toNat ∨ (peered ∧ g.peerStation = 31) ∨ g.payloadCode = 3 ∨ g.ringLength = 0 ∨ 64 < g.ringLength.toNat
    let past := 64 < g.ringBase.toNat + g.ringLength.toNat
    let selfPeer := peered ∧ g.peerStation = s.station.ownAddress
    (bad → s.checkChannel c = some .badValue)
    ∧ (¬ bad → past → s.checkChannel c = some .ringRange)
    ∧ (¬ bad → ¬ past → selfPeer → s.checkChannel c = some .selfPeer)
    ∧ (¬ bad → ¬ past → ¬ selfPeer →
        ∀ d, d < c → (s.cfg d).kindCode ≠ 0 →
          (∀ e, e < d → (s.cfg e).kindCode ≠ 0 → g.overlaps (s.cfg e) = false ∧ g.sameBinding (s.cfg e) = false) →
          (g.overlaps (s.cfg d) = true → s.checkChannel c = some .ringOverlap)
          ∧ (g.overlaps (s.cfg d) = false → g.sameBinding (s.cfg d) = true → s.checkChannel c = some .dupBinding))

/-! ### The other station commands -/

/-- The SLEEP command (R168 to R170): its tests in order, the announce, the quiet sleep that enters at once, and the one that
waits for the latched attempt. A QUIET sleep that waits is entered in the event that ends the attempt, when the outcome has been
applied as it is without one (R170, R171; the order is log entry 12). -/
def Obligations.SleepCommandTakenOrRefused : Prop :=
  (∀ (s : State) (arg : Byte), s.hostOpen = true →
    (s.mc.mode ≠ .active → exec (.sleep arg) s = .next (s.refusedBy .wrongMode none))
    ∧ (s.mc.mode = .active → arg ≠ 0 → arg ≠ 1 → exec (.sleep arg) s = .next (s.refusedBy .badValue none))
    ∧ (s.mc.mode = .active → arg = 0 ∨ arg = 1 → s.mc.pendingSleep ≠ .none →
        exec (.sleep arg) s = .next (s.refusedBy .wrongState none))
    ∧ (s.mc.mode = .active → arg = 1 → s.mc.pendingSleep = .none →
        exec (.sleep arg) s = .next
          { s with
            mc := { s.mc with pendingSleep := .announce }, arb := { s.arb with announceOffer := true }
            port := s.port.taken })
    ∧ (s.mc.mode = .active → arg = 0 → s.mc.pendingSleep = .none → s.arb.latch ≠ none →
        exec (.sleep arg) s = .next { s with mc := { s.mc with pendingSleep := .quiet }, port := s.port.taken })
    ∧ (s.mc.mode = .active → arg = 0 → s.mc.pendingSleep = .none → s.arb.latch = none →
        ∃ t, exec (.sleep arg) s = .next t ∧ FallenAsleep s t .command ∧ t.port = s.port.taken
          ∧ (∀ c, t.ctx c = { s.ctx c with acceptance := none }) ∧ t.arb.offers = s.arb.offers
          ∧ t.arb.wakeRequest = s.arb.wakeRequest ∧ t.notice = s.notice.modeSet))
  ∧ ∀ (s u : State) (i : Instr), s.mc.mode = .active → s.mc.pendingSleep = .quiet → s.arb.latch ≠ none →
      i = .arbitrationLost ∨ i = .wakeCollision ∨ i = .ownFrameEnd ∨ i = .windowOutOfPlace ∨ i = .dominantRunHalfMs
        ∨ (∃ held, i = .pulseSent held) ∨ (∃ read, i = .windowClose read) ∨ (∃ fault, i = .bitError fault) →
      exec i { s with mc := { s.mc with pendingSleep := .none } } = .next u → u.arb.latch = none → u.mc.mode = .active →
      ∃ t, exec i s = .next t ∧ FallenAsleep u t .command ∧ t.arb.offers = u.arb.offers
        ∧ t.arb.wakeRequest = u.arb.wakeRequest ∧ t.notice = u.notice.modeSet

/-- The WAKE command (R175): in ACTIVE it sets the wake request, in SLEEP it is a wake event tested against the safe fault,
elsewhere it is refused. -/
def Obligations.WakeCommandByMode : Prop :=
  ∀ s : State, s.hostOpen = true →
    (s.mc.mode = .active → exec .wake s = .next { s with arb := { s.arb with wakeRequest := true }, port := s.port.taken })
    ∧ (s.mc.mode = .sleep → s.faultCleared = true →
        ∃ t, exec .wake s = .next t ∧ Restarted s t .wake ∧ t.port = s.port.taken)
    ∧ (s.mc.mode = .sleep → s.faultCleared = false → exec .wake s = .next (s.refusedBy .faultPresent none))
    ∧ (s.mc.mode = .setup ∨ s.mc.mode = .listen ∨ s.mc.mode = .restart ∨ s.mc.mode = .safe →
        exec .wake s = .next (s.refusedBy .wrongMode none))

/-- RESUME (R161): from SAFE to RESTART when the safe fault is cleared, else refused. A fault is cleared by its kind (R158): NONE
and RESTART_LIMIT always, STUCK while the stuck flag is clear, CLASH never. -/
def Obligations.ResumeLeavesSafeWhenTheFaultIsCleared : Prop :=
  ∀ s : State, s.hostOpen = true →
    (s.mc.mode = .safe → s.faultCleared = true →
        ∃ t, exec .resume s = .next t ∧ Restarted s t .resume ∧ t.port = s.port.taken ∧ t.mc.limp = s.mc.limp)
    ∧ (s.mc.mode = .safe → s.faultCleared = false → exec .resume s = .next (s.refusedBy .faultPresent none))
    ∧ (s.mc.mode ≠ .safe → exec .resume s = .next (s.refusedBy .wrongMode none))
    ∧ (s.faultCleared = true ↔
        s.mc.safeFault = .none ∨ s.mc.safeFault = .restartLimit ∨ (s.mc.safeFault = .stuck ∧ s.line.stuck = false))

/-- CLEAR_RESTARTS is taken in every mode and sets the restart count to 0; it changes no other field (R163). A control
transaction whose code names no command is refused with BAD_VALUE and no channel (R180). -/
def Obligations.ClearRestartsTakenAndUnknownCodesRefused : Prop :=
  (∀ s : State, s.hostOpen = true →
    exec .clearRestarts s = .next { s with mc := { s.mc with restarts := 0 }, port := s.port.taken })
  ∧ ∀ (s : State) (code : Byte), s.hostOpen = true → exec (.unknownCommand code) s = .next (s.refusedBy .badValue none)

/-- LIMP (R162): CLEAR_LIMP releases it in ACTIVE and is refused elsewhere; beside it only SOFT_RESET and RESET release it,
and only an entry to SAFE asserts it; the pin follows. -/
def Obligations.LimpAssertedBySafeReleasedByTheHost : Prop :=
  (∀ s : State, s.hostOpen = true → s.mc.mode = .active →
      exec .clearLimp s = .next { s with mc := { s.mc with limp := false }, port := s.port.taken })
  ∧ (∀ s : State, s.hostOpen = true → s.mc.mode ≠ .active → exec .clearLimp s = .next (s.refusedBy .wrongMode none))
  ∧ (∀ (c : Instr) (s t : State), exec c s = .next t → s.mc.limp = true → t.mc.limp = false →
      (c = .clearLimp ∧ s.mc.mode = .active) ∨ c = .softReset ∨ c = .reset)
  ∧ (∀ (c : Instr) (s t : State), exec c s = .next t → s.mc.limp = false → t.mc.limp = true →
      t.mc.mode = .safe)
  ∧ ∀ s : State, s.limpPin = s.mc.limp

/-! ### Channel commands -/

/-- A channel command is tested in the order of R48: WRONG_MODE in SETUP, BAD_VALUE for an argument above 15, WRONG_KIND, then
WRONG_STATE; the channel is stored when the argument names one. -/
def Obligations.ChannelCommandsRefusedInOrder : Prop :=
  ∀ (s : State) (arg : Byte), s.hostOpen = true →
    (∀ i ∈ [Instr.start arg, .halt arg, .clear arg, .kick arg],
      (s.mc.mode = .setup → 16 ≤ arg.toNat → exec i s = .next (s.refusedBy .wrongMode none))
      ∧ (s.mc.mode ≠ .setup → 16 ≤ arg.toNat → exec i s = .next (s.refusedBy .badValue none))
      ∧ ∀ c : ChanId, arg.toNat = c.val →
          (s.mc.mode = .setup → exec i s = .next (s.refusedBy .wrongMode (some c)))
          ∧ (s.mc.mode ≠ .setup → (s.cfg c).kind = .off → exec i s = .next (s.refusedBy .wrongKind (some c))))
    ∧ ∀ c : ChanId, arg.toNat = c.val → s.mc.mode ≠ .setup → (s.cfg c).kind ≠ .off →
        ((s.ctx c).state ≠ .stopped → (s.ctx c).state ≠ .halted →
          exec (.start arg) s = .next (s.refusedBy .wrongState (some c)))
        ∧ ((s.ctx c).state = .stopped ∨ (s.ctx c).state = .halted →
            exec (.halt arg) s = .next (s.refusedBy .wrongState (some c)))
        ∧ ((s.ctx c).state ≠ .halted → exec (.clear arg) s = .next (s.refusedBy .wrongState (some c)))
        ∧ ((s.cfg c).kind = .take ∨ (s.cfg c).kind = .subscribe →
            exec (.kick arg) s = .next (s.refusedBy .wrongKind (some c)))
        ∧ ((s.cfg c).kind = .send ∨ (s.cfg c).kind = .publish →
            (s.ctx c).state = .stopped ∨ (s.ctx c).state = .halted →
            exec (.kick arg) s = .next (s.refusedBy .wrongState (some c)))

/-- START taken (R49): a SEND channel opens its peer, with the offer or the wake request that the presence gate gives (R79,
R80); a TAKE or SUBSCRIBE channel runs; a PUBLISH channel runs with the message it has kept, and without one it fetches, with
each end of a fetch over any number of slots (R62 to R65, R124), and looks at its offer. -/
def Obligations.StartTakenByKind : Prop :=
  ∀ (s : State) (arg : Byte) (c : ChanId), s.hostOpen = true → arg.toNat = c.val → s.mc.mode ≠ .setup →
    (s.ctx c).state = .stopped ∨ (s.ctx c).state = .halted →
    (∀ a : Station, (s.cfg c).kind = .send → (s.cfg c).peerStation.toNat = a.val →
      let x := s.ctx c
      let ready := !s.ownsLatch c && x.backoff.isNone && x.pacing.isNone
      let e := s.entry a
      let open? := e.state == .present || (e.state == .waking && s.presence.settle.isNone)
      let wake? := e.state == .asleep || (e.state == .absent && !e.wakeTried)
      exec (.start arg) s = .next
        { s with
          contexts :=
            s.contexts.set c
              { x with
                state := .opening, haltCause := .none, retry := 0, nak := 0, stream := 0
                acc := { sum := 0, pending := none } }
          arb :=
            { s.arb with
              offers := s.arb.offers.set c (ready && open?), wakeRequest := s.arb.wakeRequest || (ready && wake?) }
          port := s.port.taken })
    ∧ ((s.cfg c).kind = .take ∨ (s.cfg c).kind = .subscribe →
        exec (.start arg) s = .next
          { s with
            contexts := s.contexts.set c { s.ctx c with state := .running, haltCause := .none }, port := s.port.taken })
    ∧ ((s.cfg c).kind = .publish → holdsEnd (s.ctx c).fetched = true →
        exec (.start arg) s = .next
          { s with
            contexts := s.contexts.set c { s.ctx c with state := .running, haltCause := .none }
            arb :=
              { s.arb with offers := s.arb.offers.set c (!s.ownsLatch c && (s.ctx c).pacing.isNone) }
            port := s.port.taken })
    ∧ ((s.cfg c).kind = .publish →
        ∃ u, FetchGives s u c { s.ctx c with state := .running, haltCause := .none }
          ∧ exec (.start arg) s = .next (({ s with port := s.port.taken }.withRing u c).look c))

/-- HALT taken (R50 to R52, R47): at once, with cause HOST, the notice, the timers stopped and the offer withdrawn, unless the
channel owns the latched attempt; then the halt-requested flag alone is set. The deferred HALT is carried out at the outcome of
the attempt, when the outcome has been applied, with no fetch, no offer and cause HOST (R51): at LOST and WAKE_COLLISION, which
change nothing else of the channel, at the SENT of a publication, here of one region, and at each answer to a SEND channel and
its silence. A halt that the outcome itself makes keeps its own cause (R85, R86). That WAKE_COLLISION and the frame's end are
taken in ARBITRATION too, where they show that H0 is over, is the model's choice (log entry 7). -/
def Obligations.HaltTakenAtOnceOrDeferred : Prop :=
  (∀ (s : State) (arg : Byte) (c : ChanId), s.hostOpen = true → arg.toNat = c.val → s.mc.mode ≠ .setup →
    (s.cfg c).kind ≠ .off → (s.ctx c).state ≠ .stopped → (s.ctx c).state ≠ .halted →
    (s.ownsLatch c = false →
      exec (.halt arg) s = .next
        { s with
          contexts :=
            s.contexts.set c
              { s.ctx c with state := .halted, haltCause := .host, backoff := none, pacing := none, haltReq := false }
          arb := { s.arb with offers := s.arb.offers.set c false }
          notice :=
            { s.notice with channels := s.notice.channels.set c { s.notice.channels.get c with halted := true } }
          port := s.port.taken })
    ∧ (s.ownsLatch c = true →
        exec (.halt arg) s = .next
          { s with contexts := s.contexts.set c { s.ctx c with haltReq := true }, port := s.port.taken }))
  ∧ (∀ (s : State) (c : ChanId) (img : Frame) (p : AttemptPhase), s.mc.mode = .active → s.mc.pendingSleep ≠ .quiet →
      s.arb.latch = some { owner := .channel c, form := .frame img, phase := p } → (s.ctx c).haltReq = true →
      let stopped (line : LineRecord) : State :=
        { s with
          contexts := s.contexts.set c ((s.ctx c).haltedBy .host)
          arb := { s.arb with latch := none, offers := s.arb.offers.set c false }
          notice := { s.notice with channels := s.notice.channels.set c { s.notice.channels.get c with halted := true } }
          line := line }
      (p = .arbitration → exec .arbitrationLost s = .next (stopped s.line))
      ∧ (p = .arbitration ∨ p = .sending ∨ p = .checking → exec .wakeCollision s = .next (stopped (s.line.upset 0 16)))
      ∧ ∀ d, p = .arbitration ∨ p = .sending → img.kind = .publish → (s.cfg c).kind = .publish →
          (s.ctx c).fetched = [d] →
          ∃ t, exec .ownFrameEnd s = .next t
            ∧ t.ctx c =
                Context.haltedBy
                  { s.ctx c with
                    msgNo := (s.ctx c).msgNo + 1, fetched := [], msgStart := (s.ctx c).walker, stream := 0
                    acc := { sum := 0, pending := none } }
                  .host
            ∧ t.slots =
                s.slots.set d.slot
                  { s.slot d.slot with valid := false, status := 1, count := d.length, msgNo := (s.ctx c).msgNo }
            ∧ t.notice.channels.get c =
                { s.notice.channels.get c with
                  done := (s.notice.channels.get c).done || (s.slot d.slot).notify, halted := true }
            ∧ t.arb.latch = none ∧ t.arb.offers.get c = false ∧ ∀ e, e ≠ c → t.ctx e = s.ctx e)
  ∧ ∀ (s : State) (c : ChanId) (img : Frame), s.AtAnswer c img → (s.ctx c).haltReq = true →
      let x := s.ctx c
      let g := s.station
      let halts (i : Instr) (y : Context) (cause : HaltCause) : Prop :=
        ∃ t, exec i s = .next t ∧ AttemptFrame s t c ∧ t.ctx c = y.haltedBy cause ∧ t.arb.offers.get c = false
          ∧ (t.notice.channels.get c).halted = true
      (img.kind = .openF → halts (.windowClose (some 0xC3)) { x with toggle := false, retry := 0, nak := 0 } .host)
      ∧ (img.kind = .data →
          let y := { x with toggle := !x.toggle, retry := 0, nak := 0 }
          (img.position = .first ∨ img.position = .middle →
            halts (.windowClose (some 0xC3))
              { y with acc := x.acc.feedAll img.payload, stream := x.stream + img.payload.length } .host)
          ∧ (img.position = .last ∨ img.position = .only →
              halts (.windowClose (some 0xC3))
                { y with
                  msgNo := x.msgNo + 1, fetched := [], msgStart := x.walker, stream := 0
                  acc := { sum := 0, pending := none } }
                .host))
      ∧ (g.nakPatience = 0 → halts (.windowClose (some 0x99)) { x with nak := min 255 (x.nak + 1) } .host)
      ∧ (x.nak + 1 < g.nakPatience.toNat → halts (.windowClose (some 0x99)) { x with nak := x.nak + 1 } .host)
      ∧ (g.nakPatience ≠ 0 → g.nakPatience.toNat ≤ x.nak + 1 → halts (.windowClose (some 0x99)) x .peerBusy)
      ∧ halts (.windowClose (some 0xA5)) x .peerHalt
      ∧ (img.kind = .data →
          halts (.windowClose (some 0x96))
            { x with stream := 0, acc := { sum := 0, pending := none }, retry := 0, nak := 0 } .host)
      ∧ (x.retry < g.retryLimit.toNat → halts (.windowClose none) { x with retry := x.retry + 1 } .host)

/-- The slot `k` places after slot `i` in a ring (R58). -/
def ringStep (g : ChanConfig) (i : SlotId) : Nat → SlotId
  | 0 => i
  | k + 1 => ringStep g (g.next i) k

/-- CLEAR taken for a SEND or PUBLISH channel (R53): the valid slots from the message start on are written back ABORTED up to
the first invalid one or once round the ring, both indexes stand where the walk stopped, and the message is given up. -/
def Obligations.ClearAbortsTheSendingRing : Prop :=
  ∀ (s : State) (arg : Byte) (c : ChanId), s.hostOpen = true → arg.toNat = c.val → s.mc.mode ≠ .setup → s.IndexesInRing →
    (s.cfg c).kind = .send ∨ (s.cfg c).kind = .publish → (s.ctx c).state = .halted →
    ∀ n, n ≤ (s.cfg c).ringLength.toNat →
      (∀ k, k < n → (s.slot (ringStep (s.cfg c) (s.ctx c).msgStart k)).valid = true) →
      (n = (s.cfg c).ringLength.toNat ∨ (s.slot (ringStep (s.cfg c) (s.ctx c).msgStart n)).valid = false) →
      ∃ t, exec (.clear arg) s = .next t
        ∧ (∀ k, k < n →
            t.slot (ringStep (s.cfg c) (s.ctx c).msgStart k) =
              { s.slot (ringStep (s.cfg c) (s.ctx c).msgStart k) with
                valid := false, status := 7, count := 0, msgNo := (s.ctx c).msgNo })
        ∧ (∀ i, (∀ k, k < n → i ≠ ringStep (s.cfg c) (s.ctx c).msgStart k) → t.slot i = s.slot i)
        ∧ t.ctx c =
            { s.ctx c with
              state := .stopped, haltCause := .none, fetched := [], walker := ringStep (s.cfg c) (s.ctx c).msgStart n
              msgStart := ringStep (s.cfg c) (s.ctx c).msgStart n, stream := 0, acc := { sum := 0, pending := none }
              retry := 0, nak := 0 }
        ∧ (∀ d, d ≠ c → t.ctx d = s.ctx d ∧ t.notice.channels.get d = s.notice.channels.get d)
        ∧ t.notice.channels.get c =
            { s.notice.channels.get c with
              done :=
                (s.notice.channels.get c).done
                  || (List.range n).any fun k => (s.slot (ringStep (s.cfg c) (s.ctx c).msgStart k)).notify }
        ∧ t.ram = s.ram ∧ t.arb = s.arb ∧ t.line = s.line ∧ t.mc = s.mc ∧ t.presence = s.presence
        ∧ t.port = s.port.taken ∧ t.station = s.station ∧ t.configs = s.configs

/-- CLEAR taken for a TAKE or SUBSCRIBE channel (R54, R113, R114): a TAKE channel's open message is cut in its current slot and
a record on its way is withdrawn; the state becomes STOPPED. -/
def Obligations.ClearCutsTheTakingChannel : Prop :=
  ∀ (s : State) (arg : Byte) (c : ChanId), s.hostOpen = true → arg.toNat = c.val → s.mc.mode ≠ .setup →
    (s.ctx c).state = .halted →
    ((s.cfg c).kind = .take → (s.ctx c).current = none →
      exec (.clear arg) s = .next
        { s with
          contexts :=
            s.contexts.set c
              { s.ctx c with
                state := .stopped, haltCause := .none, drainNoted := false
                acceptance := (s.ctx c).acceptance.map fun r => { r with withdrawn := true } }
          port := s.port.taken })
    ∧ (∀ d, (s.cfg c).kind = .take → (s.ctx c).current = some d →
        exec (.clear arg) s = .next
          { s with
            contexts :=
              s.contexts.set c
                { s.ctx c with
                  state := .stopped, haltCause := .none, drainNoted := false, msgNo := (s.ctx c).msgNo + 1
                  current := none, openMsg := false, openBytes := 0, bytesUsed := 0
                  acc := { sum := 0, pending := none }
                  acceptance := (s.ctx c).acceptance.map fun r => { r with withdrawn := true } }
            slots :=
              s.slots.set d.slot
                { s.slot d.slot with
                  valid := false, endMark := true, status := 3, count := BitVec.ofNat 12 (s.ctx c).bytesUsed
                  msgNo := (s.ctx c).msgNo }
            notice :=
              if (s.slot d.slot).notify = true then
                { s.notice with channels := s.notice.channels.set c { s.notice.channels.get c with done := true } }
              else s.notice
            port := s.port.taken })
    ∧ ((s.cfg c).kind = .subscribe →
        exec (.clear arg) s = .next
          { s with
            contexts := s.contexts.set c { s.ctx c with state := .stopped, haltCause := .none }, port := s.port.taken })

/-- KICK taken (R55, R62 to R65): without effect in OPENING, RUNNING and HOLDING; in DRAINED the channel fetches and looks at
its offer. With a HALT waiting nothing is fetched; an invalid slot met with the need unmet leaves the channel in DRAINED, with
what it has fetched; a need that is met brings it back to RUNNING. A slot whose region runs past the end of Buffer RAM is
written back BAD_RANGE, after the slots fetched before it, ABORTED; a round of the ring without the need met, or a publication
longer than max payload, is written back TOO_LONG; both halt the channel with DESC_ERROR, its message given up and its indexes
on the next slot. -/
def Obligations.KickRetriesTheFetchInDrained : Prop :=
  ∀ (s : State) (arg : Byte) (c : ChanId), s.hostOpen = true → arg.toNat = c.val → s.mc.mode ≠ .setup →
    (s.cfg c).kind = .send ∨ (s.cfg c).kind = .publish →
    let x := s.ctx c
    let resting : State := { s with arb := { s.arb with offers := s.arb.offers.set c false }, port := s.port.taken }
    (x.state = .opening ∨ x.state = .running ∨ x.state = .holding → exec (.kick arg) s = .next s.taken)
    ∧ (x.state = .drained →
        ∃ u, FetchGives s u c x ∧ exec (.kick arg) s = .next (({ s with port := s.port.taken }.withRing u c).look c))
    ∧ (x.state = .drained → x.haltReq = true → exec (.kick arg) s = .next resting)
    ∧ (x.state = .drained → needMet (s.cfg c) x = false → x.fetched = [] ∨ x.walker ≠ x.msgStart →
        (s.slot x.walker).valid = false → exec (.kick arg) s = .next resting)

/-! ### Host port and Notice Unit -/

/-- A configuration byte written in SETUP is stored and read back as written, the bits outside its field as 0, and no other
register changes (R40, R145, R178): the station configuration but for the own address, and the channel records. -/
def Obligations.ConfigurationWrittenInSetupReadsBack : Prop :=
  ∀ (s : State) (addr : Word) (v : Byte), s.hostOpen = true → s.mc.mode = .setup →
    ((1 ≤ addr.toNat ∧ addr.toNat ≤ 0x00A) ∨ (0x200 ≤ addr.toNat ∧ addr.toNat ≤ 0x27F)) →
    ¬ (addr.toNat = 8 ∧ (v.extractLsb' 0 4 = 0 ∨ v.extractLsb' 0 4 = 15)) →
    ∃ t, exec (.registerWrite addr v) s = .next t
      ∧ t.readRegister addr = v &&& fieldMask addr.toNat
      ∧ (∀ b, b ≠ addr → t.readRegister b = s.readRegister b)
      ∧ t = { s with station := t.station, configs := t.configs, port := s.port.accessed }

/-- A configuration byte written outside SETUP is refused with CONFIG_FROZEN, with the channel of a channel record; a restart
limit of 0 or 15 is refused with BAD_VALUE; a read-only register and an address in no register ignore a write (R178, R145). -/
def Obligations.RegisterWritesRefusedOrIgnored : Prop :=
  ∀ (s : State) (addr : Word) (v : Byte), s.hostOpen = true →
    (s.mc.mode ≠ .setup → 1 ≤ addr.toNat → addr.toNat ≤ 0x00A →
      exec (.registerWrite addr v) s = .next (s.writeRefused .configFrozen none))
    ∧ (∀ c : ChanId, s.mc.mode ≠ .setup → 0x200 ≤ addr.toNat → (addr.toNat - 0x200) / 8 = c.val →
        exec (.registerWrite addr v) s = .next (s.writeRefused .configFrozen (some c)))
    ∧ (s.mc.mode = .setup → addr.toNat = 8 → v.extractLsb' 0 4 = 0 ∨ v.extractLsb' 0 4 = 15 →
        exec (.registerWrite addr v) s = .next (s.writeRefused .badValue none))
    ∧ ((0x00A < addr.toNat ∧ addr.toNat < 0x030) ∨ addr.toNat = 0x033 ∨ (0x037 < addr.toNat ∧ addr.toNat < 0x040)
          ∨ (0x04F < addr.toNat ∧ addr.toNat < 0x200) ∨ 0x27F < addr.toNat →
        exec (.registerWrite addr v) s = .next s.accessed)

/-- The enables are written in every mode, are clear after RESET and kept by SOFT_RESET; NOTICE is low exactly when the master
enable and an enabled flag are set, whatever the changed marks, and NOTICE-pending follows it (R183). -/
def Obligations.NoticeFollowsTheEnabledFlags : Prop :=
  (∀ (s : State) (v : Byte), s.hostOpen = true →
    exec (.registerWrite 0x031 v) s = .next
      { s with
        notice :=
          { s.notice with
            stationEnables :=
              { mode := v.getLsbD 0, peers := v.getLsbD 1, refused := v.getLsbD 2, warn := v.getLsbD 3 } }
        port := s.port.accessed }
    ∧ exec (.registerWrite 0x032 v) s = .next
        { s with
          notice :=
            { s.notice with
              channelEnables :=
                { done := v.getLsbD 0, halted := v.getLsbD 1, drained := v.getLsbD 2, drop := v.getLsbD 3 }
              master := v.getLsbD 7 }
          port := s.port.accessed })
  ∧ (∀ s t : State, exec .reset s = .next t →
      t.notice.stationEnables = .clear ∧ t.notice.channelEnables = .clear ∧ t.notice.master = false)
  ∧ (∀ s t : State, exec .softReset s = .next t →
      t.notice.stationEnables = s.notice.stationEnables ∧ t.notice.channelEnables = s.notice.channelEnables
        ∧ t.notice.master = s.notice.master)
  ∧ (∀ s : State,
      s.noticeLow = true ↔
        s.notice.master = true
          ∧ ((s.notice.station.mode = true ∧ s.notice.stationEnables.mode = true)
              ∨ (s.notice.station.peers = true ∧ s.notice.stationEnables.peers = true)
              ∨ (s.notice.station.refused = true ∧ s.notice.stationEnables.refused = true)
              ∨ (s.notice.station.warn = true ∧ s.notice.stationEnables.warn = true)
              ∨ ∃ c,
                  ((s.notice.channels.get c).done = true ∧ s.notice.channelEnables.done = true)
                  ∨ ((s.notice.channels.get c).halted = true ∧ s.notice.channelEnables.halted = true)
                  ∨ ((s.notice.channels.get c).drained = true ∧ s.notice.channelEnables.drained = true)
                  ∨ ((s.notice.channels.get c).drop = true ∧ s.notice.channelEnables.drop = true)))
  ∧ (∀ (s : State) (m : Table 31 Bool), ({ s with notice := { s.notice with marks := m } } : State).noticeLow = s.noticeLow)
  ∧ ∀ s : State, s.statusByte.getLsbD 4 = s.noticeLow

/-- A write of the own address (R130, R145, R139): in SETUP the new address takes SELF and the old one is cleared, with the
marks of both; the address already held changes nothing, and 31 leaves no SELF; outside SETUP the write is refused. -/
def Obligations.OwnAddressWriteMovesSelf : Prop :=
  ∀ (s : State) (v : Byte), s.hostOpen = true →
    (s.mc.mode ≠ .setup → exec (.ownAddressWrite v) s = .next (s.writeRefused .configFrozen none))
    ∧ (s.mc.mode = .setup → s.SelfExact →
        ∃ t, exec (.ownAddressWrite v) s = .next t
          ∧ t.station = { s.station with ownAddress := v.extractLsb' 0 5 }
          ∧ (∀ a : Station,
              t.entry a =
                if a.val = (v.extractLsb' 0 5).toNat then (if v.extractLsb' 0 5 = s.station.ownAddress then s.entry a else Entry.self)
                else if a.val = s.station.ownAddress.toNat then Entry.absent
                else s.entry a)
          ∧ (∀ a : Station,
              t.notice.marks.get a = true ↔
                s.notice.marks.get a = true
                  ∨ (v.extractLsb' 0 5 ≠ s.station.ownAddress
                      ∧ (a.val = (v.extractLsb' 0 5).toNat ∨ a.val = s.station.ownAddress.toNat)))
          ∧ t.configs = s.configs ∧ t.contexts = s.contexts ∧ t.slots = s.slots ∧ t.ram = s.ram ∧ t.line = s.line
          ∧ t.mc = s.mc ∧ t.port = s.port.accessed ∧ t.presence.settle = s.presence.settle)

/-- The clearing of DONE (R73, R182): the flag is cleared; a TAKE channel in HOLDING is released to RUNNING, a sending channel
in HOLDING runs, fetches with each end of a fetch over any number of slots (R62 to R65), and looks at its offer; in any other state
nothing else changes. -/
def Obligations.ClearDoneReleasesAHoldingChannel : Prop :=
  ∀ (s : State) (c : ChanId), s.hostOpen = true →
    let flags := { s.notice.channels.get c with done := false }
    ((s.ctx c).state ≠ .holding →
      exec (.clearDone c) s = .next
        { s with
          notice := { s.notice with channels := s.notice.channels.set c flags }, port := s.port.accessed })
    ∧ ((s.ctx c).state = .holding → (s.cfg c).kind.sends = false →
        exec (.clearDone c) s = .next
          { s with
            contexts := s.contexts.set c { s.ctx c with state := .running }
            notice := { s.notice with channels := s.notice.channels.set c flags }
            port := s.port.accessed })
    ∧ ((s.ctx c).state = .holding → (s.cfg c).kind.sends = true →
        let cleared : State :=
          { s with
            notice := { s.notice with channels := s.notice.channels.set c flags }, port := s.port.accessed }
        ∃ u, FetchGives cleared u c { s.ctx c with state := .running }
          ∧ exec (.clearDone c) s = .next ((cleared.withRing u c).look c))

/-- Ones written to notice flags or changed marks clear them, and zeros leave them; nothing else changes but for the release
that the DONE flag of a channel in HOLDING brings (R182, R139, R73). That a byte clears all its flags before that release, so that a
flag which the release's fetch raises ends set, is the model's choice (log entry 39). -/
def Obligations.OnesClearFlagsAndMarks : Prop :=
  (∀ (s : State) (m : Byte), s.hostOpen = true →
    exec (.clearNoticeFlags .station m) s = .next
      { s with
        notice :=
          { s.notice with
            station :=
              { mode := s.notice.station.mode && !m.getLsbD 0
                peers := s.notice.station.peers && !m.getLsbD 1
                refused := s.notice.station.refused && !m.getLsbD 2
                warn := s.notice.station.warn && !m.getLsbD 3 } }
        port := s.port.accessed })
  ∧ (∀ (s : State) (c : ChanId) (m : Byte), s.hostOpen = true →
      let cleared : State :=
        { s with
          notice :=
            { s.notice with
              channels :=
                s.notice.channels.set c
                  { done := (s.notice.channels.get c).done && !m.getLsbD 0
                    halted := (s.notice.channels.get c).halted && !m.getLsbD 1
                    drained := (s.notice.channels.get c).drained && !m.getLsbD 2
                    drop := (s.notice.channels.get c).drop && !m.getLsbD 3 } }
          port := s.port.accessed }
      (m.getLsbD 0 = false ∨ (s.ctx c).state ≠ .holding → exec (.clearNoticeFlags (.channel c) m) s = .next cleared)
      ∧ (m.getLsbD 0 = true → (s.ctx c).state = .holding →
          ((s.cfg c).kind.sends = false →
            exec (.clearNoticeFlags (.channel c) m) s = .next
              { cleared with contexts := s.contexts.set c { s.ctx c with state := .running } })
          ∧ ((s.cfg c).kind.sends = true →
              ∃ u, FetchGives cleared u c { s.ctx c with state := .running }
                ∧ exec (.clearNoticeFlags (.channel c) m) s = .next ((cleared.withRing u c).look c))))
  ∧ (∀ (s : State) (i : Fin 4) (m : Byte), s.hostOpen = true →
      ∃ t, exec (.clearChangedMarks i m) s = .next t
        ∧ (∀ a : Station,
            t.notice.marks.get a = true ↔
              s.notice.marks.get a = true ∧ ¬ (a.val / 8 = i.val ∧ m.getLsbD (a.val % 8) = true))
        ∧ t = { s with notice := { s.notice with marks := t.notice.marks }, port := s.port.accessed })

/-- Buffer and descriptor transactions (R74, R59, R179): a buffer write stores its byte at its offset and every other byte keeps
its value; a buffer read takes the byte as it stands, and a descriptor read the whole slot. Nothing else changes. Each data byte
of a buffer transaction, and each slot of a descriptor read, is a command of its own, so that events may fall between them, with
the offset and the index rising from the ones the transaction carries (the model's form, log entry 33); the offset wraps at 4096
and the slot at 64. A transaction joins the queue, and none does while nRESET is low (R165). -/
def Obligations.BufferAndReadTransactionsMoveEachByte : Prop :=
  (∀ (s : State) (offset : Word) (v : Byte), s.hostOpen = true → Memory.wf s.ram →
    ∃ t, exec (.bufferWrite offset v) s = .next t
      ∧ (∀ a : Offset, Memory.read t.ram a = if a = offset.extractLsb' 0 12 then v else Memory.read s.ram a)
      ∧ t = { s with ram := t.ram, port := s.port.accessed })
  ∧ (∀ (s : State) (offset : Word) (place : Nat), s.hostOpen = true →
      exec (.bufferRead offset place) s = .next
        { s with
          port :=
            { s.port.accessed with
              shifted := [Memory.read s.ram (offset.extractLsb' 0 12 + BitVec.ofNat 12 place)] } })
  ∧ (∀ (s : State) (index : Byte) (place : Nat), s.hostOpen = true →
      exec (.descriptorRead index place) s = .next
        { s with
          port := { s.port.accessed with shifted := (s.slot (Fin.ofNat 64 (index.toNat + place))).bytes } })
  ∧ (∀ (hi lo : Byte) (data : List Byte),
      transaction (0x41 :: hi :: lo :: data) =
          (data.mapIdx fun k v => Instr.bufferWrite (hi ++ lo + BitVec.ofNat 16 k) v) ++ [.transactionEnd]
        ∧ transaction (0x40 :: hi :: lo :: data) =
            ((List.range data.length).map fun k => Instr.bufferRead (hi ++ lo) k) ++ [.transactionEnd])
  ∧ (∀ (index : Byte) (data : List Byte),
      transaction (0x60 :: index :: data) =
        ((List.range ((data.length + 7) / 8)).map fun k => Instr.descriptorRead index k) ++ [.transactionEnd])
  ∧ ∀ (s : State) (mosi : List Byte),
      (s.resetLow = true → s.hostTransaction mosi = s)
        ∧ (s.resetLow = false → s.hostTransaction mosi = { s with pending := s.pending ++ transaction mosi })

/-- A descriptor write of one slot (R59, R179, R184): all eight bytes take effect together, the slot reads back with the upper
bits of offset, length and count as 0, and no other slot changes; anything but eight bytes writes nothing. A transaction writes
one slot with each eighth byte, the index rising, and its partial slot at the end gives no command (log entry 33). The eight bytes
of a slot say the whole slot. -/
def Obligations.DescriptorWriteReplacesTheSlot : Prop :=
  (∀ (s : State) (index b0 o1 o0 l1 l0 c1 c0 n : Byte), s.hostOpen = true →
    ∃ t, exec (.descriptorWrite index [b0, o1, o0, l1, l0, c1, c0, n]) s = .next t
      ∧ (t.slot (Fin.ofNat 64 index.toNat)).bytes = [b0, o1 &&& 0x0F, o0, l1 &&& 0x0F, l0, c1 &&& 0x0F, c0, n]
      ∧ (∀ i, i ≠ Fin.ofNat 64 index.toNat → t.slot i = s.slot i)
      ∧ t = { s with slots := t.slots, port := s.port.accessed })
  ∧ (∀ (s : State) (index : Byte) (bytes : List Byte), s.hostOpen = true → bytes.length ≠ 8 →
      exec (.descriptorWrite index bytes) s = .next s.accessed)
  ∧ (∀ (index b0 b1 b2 b3 b4 b5 b6 b7 : Byte) (rest : List Byte),
      transaction (0x61 :: index :: b0 :: b1 :: b2 :: b3 :: b4 :: b5 :: b6 :: b7 :: rest) =
        .descriptorWrite index [b0, b1, b2, b3, b4, b5, b6, b7] :: transaction (0x61 :: (index + 1) :: rest))
  ∧ (∀ (index : Byte) (rest : List Byte), rest.length < 8 → transaction (0x61 :: index :: rest) = [.transactionEnd])
  ∧ ∀ d : Slot, Slot.ofBytes d.bytes = some d

/-- The rise of nCS (R177): last-refused is set when a register write of the transaction, or the control command taken with
this rise, was refused, and cleared otherwise, here after a transaction with an unknown access code as well, which gives no
command (the model's choice, log entry 37). MISO shifts out the status byte of the fall of nCS, then read data: a register byte at
its own moment, and a later byte of a field of two or three bytes at the moment of the field's first byte where the read includes
it (R178; log entry 38), a byte of Buffer RAM at its own moment, a slot at the moment of its first byte (R179), and 0x00 where
there is none; it is not driven from where nRESET is low (R165), and not to the end of a transaction that a reset has
dropped (the model's choice, log entry 19). -/
def Obligations.TransactionEndSetsLastRefused : Prop :=
  (∀ s : State, s.hostOpen = true →
    exec .transactionEnd s = .next
        { s with
          port :=
            { s.port with
              lastRefused := s.port.nowRefused, nowRefused := false, controlTaken := false, transfer := .none } }
      ∧ s.statusByte.getLsbD 3 = s.port.lastRefused)
  ∧ (∀ (access : Byte) (rest : List Byte), access ∉ ([0x20, 0x21, 0x40, 0x41, 0x60, 0x61, 0x80] : List Byte) →
      transaction (access :: rest) = [.transactionEnd])
  ∧ (∀ (mosi : List Byte) (moment : Nat → State) (j n : Nat), j ≤ n → (moment j).hostOpen = false →
      misoByte mosi moment n = none)
  ∧ ∀ moment : Nat → State, (∀ j, (moment j).hostOpen = true) →
      (∀ mosi, misoByte mosi moment 0 = some (moment 0).statusByte)
      ∧ (∀ (hi lo : Byte) (rest : List Byte) (k : Nat),
          let a := (hi ++ lo + BitVec.ofNat 16 k).toNat
          let fields :=
            [(0x016, 2), (0x019, 3), (0x025, 2)] ++ ((List.range 31).map fun n => (0x101 + 8 * n, 2))
              ++ ((List.range 16).flatMap fun c =>
                  [(0x307 + 32 * c, 3), (0x30A + 32 * c, 3), (0x30D + 32 * c, 2), (0x30F + 32 * c, 2)])
          (∀ f ∈ fields, ∀ j, j < f.2 → a = f.1 + j → j ≤ k →
            misoByte (0x20 :: hi :: lo :: rest) moment (k + 3) =
              some ((moment (k - j + 3)).readRegister (hi ++ lo + BitVec.ofNat 16 k)))
          ∧ ((∀ f ∈ fields, ∀ j, 1 ≤ j → j ≤ k → j < f.2 → a ≠ f.1 + j) →
              misoByte (0x20 :: hi :: lo :: rest) moment (k + 3) =
                some ((moment (k + 3)).readRegister (hi ++ lo + BitVec.ofNat 16 k)))
          ∧ misoByte (0x40 :: hi :: lo :: rest) moment (k + 3) =
              some (Memory.read (moment (k + 3)).ram ((hi ++ lo).extractLsb' 0 12 + BitVec.ofNat 12 k)))
      ∧ (∀ (index : Byte) (rest : List Byte) (k r : Nat), r < 8 →
          misoByte (0x60 :: index :: rest) moment (8 * k + r + 2) =
            some (((moment (8 * k + 2)).slot (Fin.ofNat 64 (index.toNat + k))).bytes.getD r 0))
      ∧ ∀ (access : Byte) (rest : List Byte) (n : Nat), 1 ≤ n →
          (access = 0x20 ∨ access = 0x40 → n < 3) → (access = 0x60 → n < 2) →
          misoByte (access :: rest) moment n = some 0x00

/-! ### Frames of the line -/

/-- Every admitted frame is read back from its bytes with every field as it was, its CRC passes, and it is 4 + n + 2 bytes
long, or 4 + n + 4 with a chain sum (R6, R9, R184). -/
def Obligations.FrameReadBackFromItsBytes : Prop :=
  ∀ f : Frame, f.admitted →
    Frame.ofBytes f.bytes = some f ∧ crcPasses f.bytes = true
      ∧ f.bytes.length = 4 + f.payload.length + (if f.chain.isSome then 4 else 2)

/-- A header is good exactly when it has none of the format errors of R8. -/
def Obligations.HeaderGoodExactlyWithoutFormatError : Prop :=
  ∀ h0 h1 h2 h3 : Byte,
    let kind := h1.toNat / 32
    let position := h2.toNat / 2 % 4
    headerGood h0 h1 h2 h3 = true ↔
      h1.toNat % 2 = 0 ∧ h2.toNat % 2 = 0 ∧ h0.toNat / 2 % 32 ≠ 31 ∧ kind ≠ 0 ∧ kind ≠ 6 ∧ kind ≠ 7
        ∧ (h0.toNat % 2 = 1 → kind = 1) ∧ (position ≠ 0 → kind = 1)
        ∧ (h2.toNat / 8 = 31 ↔ kind = 3 ∨ kind = 4 ∨ kind = 5)
        ∧ (kind = 2 ∨ kind = 5 → h3 = 0) ∧ (kind = 4 → h3 = 3) ∧ (kind = 1 ∨ kind = 3 → h3.toNat ≤ 32)

/-- The chain accumulator over the bytes of a message, closed, is their 16-bit ones'-complement sum: its residue modulo 65535,
with 0 for bytes that are all 0 alone; and it is carried over frame boundaries (R10). -/
def Obligations.ChainSumIsTheOnesComplementSum : Prop :=
  (∀ bytes : List Byte,
    (ChainAcc.cleared.feedAll bytes).close.toNat % 65535 = wordSum bytes % 65535
      ∧ ((ChainAcc.cleared.feedAll bytes).close = 0 ↔ ∀ b ∈ bytes, b = 0))
  ∧ ∀ (x : ChainAcc) (first second : List Byte), (x.feedAll first).feedAll second = x.feedAll (first ++ second)

/-! ### The line in reception -/

/-- Start bits and idle gaps move the line as R4 and R5 give, and an attempt that waits begins when the line becomes IDLE
(R30), with the nine bit times of H0 before it (log entry 7); the stuck flag is cleared at the twelfth recessive bit time, in SLEEP
and SAFE as well (R21). -/
def Obligations.LinePhasesFollowStartBitsAndGaps : Prop :=
  (∀ s : State, s.mc.mode = .listen ∨ s.mc.mode = .active → s.line.state = .idle ∨ s.line.state = .busy .gap →
    exec .startBitBegins s = .next
      { s with
        line :=
          { s.line with
            state := .busy .frame, idleCount := 0, frameRecord := [], dominantBits := 1, runTimer := 0, ownRun := false } })
  ∧ (∀ s : State, s.mc.mode = .listen ∨ s.mc.mode = .active → s.line.state = .busy .gap →
      (∀ a, s.arb.latch = some a → a.phase ≠ .waiting) →
      exec .idleGapComplete s = .next
        { s with
          line :=
            { s.line with
              state := .idle, idleCount := 12, runTimer := 0, dominantBits := 0, ownRun := false, stuck := false } })
  ∧ (∀ (s : State) (a : Attempt), s.mc.mode = .listen ∨ s.mc.mode = .active → s.line.state = .busy .gap →
      s.arb.latch = some a → a.phase = .waiting →
      exec .idleGapComplete s = .next
        { s with
          arb :=
            { s.arb with latch := some { a with phase := if a.form = .pulse then .pulse else .arbitration } }
          line :=
            { s.line with
              state := .busy .frame, idleCount := 0, frameRecord := [], runTimer := 0, dominantBits := 1
              ownRun := decide (a.form = .pulse), stuck := false }
          clock := { s.clock with h0Left := if a.form = .pulse then 0 else 9 } })
  ∧ (∀ s : State, s.mc.mode = .listen ∨ s.mc.mode = .active → s.line.state = .busy .resync →
      exec .resyncEnd s = .next
        { s with
          line :=
            { s.line with
              state := .busy .gap, idleCount := 0, runTimer := 0, dominantBits := 0, ownRun := false, stuck := false } })
  ∧ ∀ s : State, s.mc.mode = .sleep ∨ s.mc.mode = .safe →
      ∀ i ∈ [Instr.idleGapComplete, .resyncEnd],
        exec i s = .next
          { s with
            line :=
              { s.line with idleCount := 12, runTimer := 0, dominantBits := 0, ownRun := false, stuck := false } }

/-- Bad frames (R8, R11, R20): a format error and a missing start bit put the line into RESYNC and report one receive error; a
dominant stop bit holds the error, which is counted when its run ends before 0.5 ms. The idle count and the dominant bit count
reach back from the bit at fault into the last byte read (R4, R2); at the end of a held run the idle count holds the least value
that the event shows (the model's choice, log entry 3). -/
def Obligations.BadFramesEnterResync : Prop :=
  (∀ (s : State) (h0 h1 h2 h3 : Byte), s.mc.mode = .listen ∨ s.mc.mode = .active → s.line.state = .busy .frame →
    (∀ a, s.arb.latch = some a → a.phase = .waiting) → headerGood h0 h1 h2 h3 = false →
    exec (.formatError h0 h1 h2 h3) s = .next (State.reportRise { s with line := s.line.upset (idleAfter h3) 0 } 1))
  ∧ (∀ s : State, s.mc.mode = .listen ∨ s.mc.mode = .active → s.line.state = .busy .frame →
      (∀ a, s.arb.latch = some a → a.phase = .waiting) →
      (∀ b : Byte, exec (.framingError (.dominantStop b)) s = .next
          { s with
            line :=
              { s.line.upset 0 (1 + ((byteLevels b).dropLast.reverse.takeWhile (· == .dominant)).length) with
                heldError := true } })
      ∧ ∀ b : Byte, exec (.framingError (.missingStart b)) s = .next
          (State.reportRise { s with line := s.line.upset (idleAfter b + 1) 0 } 1))
  ∧ ∀ s : State, s.mc.mode = .listen ∨ s.mc.mode = .active → s.line.heldError = true →
      exec .heldErrorCounted s = .next
        (State.reportRise
          { s with
            line :=
              { s.line with idleCount := 1, runTimer := 0, dominantBits := 0, ownRun := false, heldError := false } }
          1)

/-- The line error count (R150, R152): a report in LISTEN or ACTIVE raises it, held at 255, with WARN where it crosses 96; at
128 the restart count rises and the station enters RESTART, or SAFE at the restart limit; a good report lowers it, not below
0; in the other modes reports are discarded. -/
def Obligations.LineErrorCountRisesFallsAndEscalates : Prop :=
  (∀ (s : State) (n : Nat), s.mc.mode = .listen ∨ s.mc.mode = .active →
    let e := min 255 (s.mc.lineErrors + n)
    let warned := s.notice.station.warn || (decide (s.mc.lineErrors < 96) && decide (96 ≤ e))
    let u : State :=
      { s with
        mc := { s.mc with lineErrors := e }
        notice := { s.notice with station := { s.notice.station with warn := warned } } }
    (e < 128 → s.reportRise n = u)
    ∧ (128 ≤ e → s.mc.restarts + 1 < s.station.restartLimit.toNat →
        Restarted { u with mc := { u.mc with restarts := s.mc.restarts + 1 } } (s.reportRise n) .errors)
    ∧ (128 ≤ e → s.station.restartLimit.toNat ≤ s.mc.restarts + 1 →
        SafeEntered { u with mc := { u.mc with restarts := 0 } } (s.reportRise n) .restartLimit))
  ∧ (∀ s : State, s.mc.mode = .listen ∨ s.mc.mode = .active →
      s.reportGood = { s with mc := { s.mc with lineErrors := s.mc.lineErrors - 1 } })
  ∧ ∀ (s : State) (n : Nat), s.mc.mode ≠ .listen → s.mc.mode ≠ .active → s.reportRise n = s ∧ s.reportGood = s

/-- WARN (R151): a report sets it exactly when it raises the count from below 96 to 96 or above, so each upward crossing does;
a fall touches no flag; it stays set until the host clears it, and clearing it leaves the count. -/
def Obligations.WarnSetAtEachUpwardCrossing : Prop :=
  (∀ (s : State) (n : Nat), s.mc.mode = .listen ∨ s.mc.mode = .active →
    ((s.reportRise n).notice.station.warn = true ↔
      s.notice.station.warn = true ∨ (s.mc.lineErrors < 96 ∧ 96 ≤ min 255 (s.mc.lineErrors + n))))
  ∧ (∀ s : State, s.reportGood.notice = s.notice)
  ∧ (∀ (i : Instr) (s t : State), exec i s = .next t → s.notice.station.warn = true → i ≠ .reset → i ≠ .softReset →
      (∀ m : Byte, m.getLsbD 3 = true → i ≠ .clearNoticeFlags .station m ∧ i ≠ .registerWrite 0x030 m) →
      t.notice.station.warn = true)
  ∧ ∀ (s : State) (m : Byte), s.hostOpen = true →
      ∃ t, exec (.clearNoticeFlags .station m) s = .next t
        ∧ (m.getLsbD 3 = true → t.notice.station.warn = false) ∧ t.mc.lineErrors = s.mc.lineErrors

/-- A frame that fails its CRC is dropped with one receive error and RESYNC; the clash watch is armed in ACTIVE for a DATA or
OPEN frame addressed to this station (R12, R19). A response byte under an armed watch takes the station to SAFE, and the watch
runs out with nothing done (R19, R155); that the idle count is 1 at that byte, the least that its stop bit shows, is the model's
choice (log entry 3). A valid frame with the own source is a clash and reaches nobody (R14); that its good reception is counted
before the entry to SAFE, so that SAFE keeps the count lowered by one, is the model's reading (log entry 25). -/
def Obligations.ClashesAreWatchedForAndEndInSafe : Prop :=
  (∀ (s : State) (f : Frame) (bytes : List Byte), s.mc.mode = .listen ∨ s.mc.mode = .active →
    s.line.state = .busy .frame → (∀ a, s.arb.latch = some a → a.phase = .waiting) →
    Frame.ofBytes bytes = some f → crcPasses bytes = false →
    exec (.frameEnd bytes) s = .next
      (State.reportRise
        { s with
          line :=
            { s.line.upset (idleAfterBytes bytes) 0 with
              clashWatch :=
                s.line.clashWatch
                  || decide (s.mc.mode = .active ∧ (f.kind = .data ∨ f.kind = .openF) ∧ f.dest = s.station.ownAddress) } }
        1))
  ∧ (∀ s : State, s.mc.mode = .listen ∨ s.mc.mode = .active → s.line.clashWatch = true →
      ∃ t, exec .clashResponseSeen s = .next t ∧ SafeEntered s t .clash
        ∧ t.line = { LineRecord.reset with idleCount := 1, stuck := s.line.stuck })
  ∧ (∀ s : State, exec .clashWatchDisarmed s = .next { s with line := { s.line with clashWatch := false } })
  ∧ ∀ (s : State) (f : Frame), f.admitted → s.mc.mode = .listen ∨ s.mc.mode = .active → s.line.state = .busy .frame →
      (∀ a, s.arb.latch = some a → a.phase = .waiting) → f.source = s.station.ownAddress →
      ∃ t, exec (.frameEnd f.bytes) s = .next t
        ∧ SafeEntered { s with mc := { s.mc with lineErrors := s.mc.lineErrors - 1 } } t .clash
        ∧ t.line = { LineRecord.reset with
            idleCount := idleAfterBytes f.bytes, runTimer := s.line.runTimer, ownRun := s.line.ownRun
            stuck := s.line.stuck }

/-- A valid frame of another station that no channel takes (R12, R15, R131, R132): one good reception, the line in WINDOW or
GAP, the clash watch armed in LISTEN for a DATA or OPEN frame addressed to this station, the source PRESENT with age 0 and its
mark clear, a BEACON's three values stored, its changed mark set on a change of state or mark; other entries, contexts, slots,
Buffer RAM, configuration, channel notices, latch, pointers and host port stay as they are. -/
def Obligations.ValidFrameMakesItsSourcePresent : Prop :=
  ∀ (s : State) (f : Frame) (a : Station), s.Hears f → f.source.toNat = a.val → (s.entry a).state ≠ .self →
    f.kind ≠ .sleep → (f.kind = .publish → s.mc.mode = .active → ∀ c, s.matches f c = false) →
    (f.kind = .data ∨ f.kind = .openF → s.mc.mode = .active → f.dest ≠ s.station.ownAddress) →
    ∃ t, exec (.frameEnd f.bytes) s = .next t
      ∧ t.line =
          { s.line.after f (if f.dest = s.station.ownAddress then .destination else .observer) with
            clashWatch :=
              s.line.clashWatch
                || decide (s.mc.mode = .listen ∧ (f.kind = .data ∨ f.kind = .openF) ∧ f.dest = s.station.ownAddress) }
      ∧ t.mc = { s.mc with lineErrors := s.mc.lineErrors - 1 }
      ∧ (f.kind ≠ .beacon → t.entry a = { s.entry a with state := .present, age := 0, wakeTried := false })
      ∧ (∀ b0 b1 b2, f.kind = .beacon → f.payload = [b0, b1, b2] →
          t.entry a =
            { state := .present, age := 0, wakeTried := false
              interval := if b0 = 0 then none else some b0
              restarts := if b1.toNat ≤ 14 then some b1.toNat else none
              follows := if b2 = 1 then some true else if b2 = 0 then some false else none })
      ∧ (∀ b, b ≠ a → t.entry b = s.entry b)
      ∧ (∀ b, t.notice.marks.get b = true ↔
          s.notice.marks.get b = true ∨ (b = a ∧ ((s.entry a).state ≠ .present ∨ (s.entry a).wakeTried = true)))
      ∧ t.contexts = s.contexts ∧ t.slots = s.slots ∧ t.ram = s.ram ∧ t.station = s.station ∧ t.configs = s.configs
      ∧ t.notice.channels = s.notice.channels ∧ t.beaconTimer = s.beaconTimer ∧ t.arb.latch = s.arb.latch
      ∧ t.arb.pointers = s.arb.pointers ∧ t.port = s.port ∧ t.pending = s.pending

/-- A SLEEP frame heard (R133, R172): the announcer is ASLEEP, and so is every PRESENT peer that follows sleep; in ACTIVE a
station that follows, with no busy channel, falls asleep with cause FOLLOW; any other stays in its mode. That the good reception
is counted before the station follows, so that SLEEP keeps the line error count lowered by one, is the model's reading (log entry
25). -/
def Obligations.AnnounceHeardIsFollowedUnlessBusy : Prop :=
  ∀ (s : State) (f : Frame) (a : Station), s.Hears f → f.source.toNat = a.val → (s.entry a).state ≠ .self → f.kind = .sleep →
    let busy :=
      ∃ c,
        ((s.cfg c).kind = .send ∨ (s.cfg c).kind = .publish)
            ∧ ((s.ctx c).state = .opening ∨ (s.ctx c).state = .running ∨ (s.ctx c).state = .holding)
          ∨ (s.cfg c).kind = .send ∧ (s.ctx c).state = .drained ∧ 0 < (s.ctx c).stream
    ∃ t, exec (.frameEnd f.bytes) s = .next t
      ∧ t.entry a = { s.entry a with state := .asleep, age := 0, wakeTried := false }
      ∧ (∀ b, b ≠ a →
          t.entry b =
            if (s.entry b).state = .present ∧ (s.entry b).follows = some true then { s.entry b with state := .asleep }
            else s.entry b)
      ∧ (s.mc.mode = .active ∧ s.station.followSleep = true ∧ ¬ busy →
          t.mc =
              { s.mc with
                mode := .sleep, entryCause := .follow, lineErrors := s.mc.lineErrors - 1, pendingSleep := .none }
            ∧ t.arb.latch = none ∧ t.beaconTimer = none ∧ t.arb.beaconOffer = false ∧ t.arb.announceOffer = false
            ∧ t.wake.on = true ∧ t.notice.station.mode = true ∧ t.line.state = .busy .resync)
      ∧ (¬ (s.mc.mode = .active ∧ s.station.followSleep = true ∧ ¬ busy) →
          t.mc = { s.mc with lineErrors := s.mc.lineErrors - 1 } ∧ t.contexts = s.contexts
            ∧ t.line = s.line.after f .observer ∧ t.arb.latch = s.arb.latch ∧ t.beaconTimer = s.beaconTimer)
      ∧ t.slots = s.slots ∧ t.ram = s.ram ∧ t.station = s.station ∧ t.configs = s.configs ∧ t.port = s.port
      ∧ t.pending = s.pending

/-- A PUBLISH frame at the SUBSCRIBE channel that matches it, in RUNNING (R126 to R128, R69): a space search passes the slots that are
too short, written back UNFIT; the frame is stored at the start of the slot it finds, which is written back END; it is dropped,
counted and noticed when it is too long or the search ends with no space; at a slot past the end of Buffer RAM that slot is written
back BAD_RANGE, and the channel halts too. In any other state the channel ignores it. -/
def Obligations.PublicationStoredOrDropped : Prop :=
  ∀ (s : State) (f : Frame) (c : ChanId), s.Hears f → s.mc.mode = .active → f.kind = .publish →
    (s.cfg c).kind = .subscribe → (s.cfg c).peerStation = f.source → (s.cfg c).peerChannel.toNat = f.channel.val →
    (∀ d, d ≠ c → s.matches f d = false) →
    ∃ t, exec (.frameEnd f.bytes) s = .next t
      ∧ t.line = s.line.after f .observer ∧ t.mc = { s.mc with lineErrors := s.mc.lineErrors - 1 }
      ∧ t.station = s.station ∧ t.configs = s.configs ∧ t.port = s.port ∧ t.pending = s.pending
      ∧ (∀ d, d ≠ c → t.ctx d = s.ctx d ∧ t.notice.channels.get d = s.notice.channels.get d)
      ∧ ((s.ctx c).state ≠ .running →
          t.ctx c = s.ctx c ∧ t.slots = s.slots ∧ t.ram = s.ram ∧ t.notice.channels = s.notice.channels)
      ∧ ((s.ctx c).state = .running → (s.cfg c).maxPayload < f.payload.length →
          t.ctx c = { s.ctx c with drops := min 255 ((s.ctx c).drops + 1) } ∧ t.slots = s.slots ∧ t.ram = s.ram
            ∧ t.notice.channels.get c = { s.notice.channels.get c with drop := true })
      ∧ ((s.ctx c).state = .running → f.payload.length ≤ (s.cfg c).maxPayload → ∀ n, n ≤ 64 →
          n ≤ (s.cfg c).ringLength.toNat → s.SearchPasses c n →
          let x := s.ctx c
          let i := (s.cfg c).after x.walker n
          let d := s.slot i
          (n = (s.cfg c).ringLength.toNat ∨ (x.current.map fun k => k.slot) = some i ∨ (n < 64 ∧ d.valid = false) →
            t.ctx c = { x with walker := i, drops := min 255 (x.drops + 1) } ∧ t.slots = s.unfitSlots c n ∧ t.ram = s.ram
              ∧ t.notice.channels.get c = { s.unfitFlags c n with drop := true })
          ∧ (n < 64 → n < (s.cfg c).ringLength.toNat → (x.current.map fun k => k.slot) ≠ some i → d.valid = true →
              (4096 < d.offset.toNat + d.length.toNat →
                t.ctx c =
                    { x with
                      walker := (s.cfg c).after x.walker (n + 1), state := .halted, haltCause := .descError
                      backoff := none, pacing := none, haltReq := false, drops := min 255 (x.drops + 1) }
                  ∧ t.slots =
                      (s.unfitSlots c n).set i
                        { d with valid := false, endMark := false, status := 6, count := 0, msgNo := x.msgNo }
                  ∧ t.ram = s.ram
                  ∧ t.notice.channels.get c =
                      { s.unfitFlags c n with
                        done := (s.unfitFlags c n).done || d.notify, halted := true, drop := true })
              ∧ (d.offset.toNat + d.length.toNat ≤ 4096 → (s.cfg c).maxPayload ≤ d.length.toNat →
                  t.ctx c = { x with walker := (s.cfg c).after x.walker (n + 1), msgNo := x.msgNo + 1 }
                    ∧ t.slots =
                        (s.unfitSlots c n).set i
                          { d with
                            valid := false, endMark := true, status := 2, count := BitVec.ofNat 12 f.payload.length
                            msgNo := x.msgNo }
                    ∧ t.ram = Memory.writeBytes s.ram d.offset f.payload
                    ∧ t.notice.channels.get c =
                        { s.unfitFlags c n with done := (s.unfitFlags c n).done || d.notify })))

/-! ### TAKE channels -/

/-- The response decision (R98 to R107): the checks in their order, the answer each gives, and the work done at the decision. A
frame that needs a fresh descriptor makes a space search (R69): the slots it passes are written back UNFIT, with DONE for their
notify marks, whatever its end; it ends with no space at an invalid slot, at the current descriptor's slot and after a round of the
ring, with an error at a slot that runs past the end of Buffer RAM, and else with the slot it finds. -/
def Obligations.ResponseDecidedByTheFirstCheckThatApplies : Prop :=
  ∀ (s : State) (f : Frame), s.Hears f → s.mc.mode = .active → f.kind = .data ∨ f.kind = .openF →
    f.dest = s.station.ownAddress →
    let c := f.channel
    let g := s.cfg c
    let x := s.ctx c
    ∃ t a, exec (.frameEnd f.bytes) s = .next t ∧ Answered s t f a
      ∧ (a ≠ .ack → (t.ctx c).acceptance = x.acceptance)
      ∧ (g.kind ≠ .take ∨ g.peerStation ≠ f.source → a = .halt ∧ t.ctx c = x ∧ t.slots = s.slots)
      ∧ (g.kind = .take → g.peerStation = f.source →
          (g.maxPayload < f.payload.length → a = .halt ∧ t.ctx c = x ∧ t.slots = s.slots)
          ∧ (f.payload.length ≤ g.maxPayload →
              (x.state = .stopped → a = .nak ∧ t.ctx c = x ∧ t.slots = s.slots)
              ∧ (x.state = .halted → a = .halt ∧ t.ctx c = x ∧ t.slots = s.slots)
              ∧ (x.state = .running ∨ x.state = .holding → f.kind = .openF →
                  a = .ack ∧ t.ctx c = { x with acceptance := some { form := .openF, withdrawn := false } }
                    ∧ t.slots = s.slots)
              ∧ (x.state = .holding → f.kind = .data → a = .nak ∧ t.ctx c = x ∧ t.slots = s.slots)
              ∧ (x.state = .running → f.kind = .data →
                  (f.toggle ≠ x.toggle →
                    a = .ack ∧ t.ctx c = { x with acceptance := some { form := .duplicate, withdrawn := false } }
                      ∧ t.slots = s.slots)
                  ∧ (f.toggle = x.toggle → f.position = .middle ∨ f.position = .last →
                      (x.openMsg = false → a = .reopen ∧ t.ctx c = x ∧ t.slots = s.slots)
                      ∧ ∀ k, x.openMsg = true → x.current = some k →
                          x.bytesUsed + f.payload.length ≤ k.length.toNat →
                          a = .ack ∧ t.slots = s.slots
                            ∧ t.ctx c =
                                { x with
                                  acceptance :=
                                    some
                                      { form :=
                                          .store
                                            { target := .current, closes := .nothing, position := f.position
                                              payload := f.payload, sum := f.chain }
                                        withdrawn := false } })
                  ∧ ∀ closes n, f.toggle = x.toggle → n ≤ 64 → n ≤ g.ringLength.toNat → s.SearchPasses c n →
                      ((f.position = .first ∨ f.position = .only) ∧ closes = (if x.openMsg then .cut else .nothing)
                        ∨ (f.position = .middle ∨ f.position = .last) ∧ closes = .done ∧ x.openMsg = true
                            ∧ ∃ k, x.current = some k ∧ k.length.toNat < x.bytesUsed + f.payload.length) →
                      let i := g.after x.walker n
                      let d := s.slot i
                      (n = g.ringLength.toNat ∨ (x.current.map fun k => k.slot) = some i ∨ (n < 64 ∧ d.valid = false) →
                        a = .nak ∧ t.ctx c = { x with walker := i, drainNoted := true } ∧ t.slots = s.unfitSlots c n
                          ∧ t.notice.channels.get c =
                              { s.unfitFlags c n with drained := (s.unfitFlags c n).drained || !x.drainNoted })
                      ∧ (n < 64 → n < g.ringLength.toNat → (x.current.map fun k => k.slot) ≠ some i → d.valid = true →
                          (4096 < d.offset.toNat + d.length.toNat →
                            a = .halt
                              ∧ t.ctx c =
                                  { x with
                                    walker := g.after x.walker (n + 1), state := .halted, haltCause := .descError
                                    backoff := none, pacing := none, haltReq := false }
                              ∧ t.slots =
                                  (s.unfitSlots c n).set i
                                    { d with
                                      valid := false, endMark := false, status := 6, count := 0, msgNo := x.msgNo }
                              ∧ t.notice.channels.get c =
                                  { s.unfitFlags c n with
                                    done := (s.unfitFlags c n).done || d.notify, halted := true })
                          ∧ (d.offset.toNat + d.length.toNat ≤ 4096 → g.maxPayload ≤ d.length.toNat →
                              a = .ack ∧ t.slots = s.unfitSlots c n ∧ t.notice.channels.get c = s.unfitFlags c n
                                ∧ t.ctx c =
                                    { x with
                                      walker := i
                                      acceptance :=
                                        some
                                          { form :=
                                              .store
                                                { target :=
                                                    .found
                                                      { slot := i, endMark := d.endMark, notify := d.notify
                                                        hold := d.hold, offset := d.offset, length := d.length }
                                                  closes := closes, position := f.position, payload := f.payload
                                                  sum := f.chain }
                                            withdrawn := false } })))))

/-- The own response byte sent whole (R108 to R113): the window closes with it, and an ACK commits its record; where a bit out
of place has broken the window, the line stays in RESYNC, and the idle count follows the byte (R4, R17). A frame stored in the
current descriptor goes after its bytes; one stored in a found slot goes to its start, the current descriptor being closed DONE,
or cut, first where the record says so; the last frame of a message completes it; an OPEN cuts an open message and sets the
toggle to 0; a duplicate is counted; a withdrawn record moves the toggle and count alone. A NAK, HALT or REOPEN has no commit. A
byte that reads back wrong commits the same at that bit and reports an own transmit error, +8 (R17); that the commit comes
before the report and the window stays open for the line's own events is the model's reading (log entry 16), and the idle count
of 0 there is its choice (log entry 3). -/
def Obligations.ResponseByteEndCommitsTheRecord : Prop :=
  (∀ (s : State) (r : Response), s.line.response = some r →
    ∃ t, exec .responseByteEnd s = .next t
      ∧ exec .responseBitError s = .next
          (State.reportRise { t with line := { s.line with response := none, idleCount := 0 } } 8)
      ∧ (s.line.state = .busy .resync →
          t.line =
            { s.line with
              idleCount := idleAfter r.answer.byte, runTimer := 0, dominantBits := 0, ownRun := false, response := none }))
  ∧ ∀ (s : State) (r : Response), s.line.response = some r → s.line.state = .busy .window →
    (∀ w, s.line.window = some w → w.part = .destination) → s.line.window ≠ none →
    let c := r.channel
    let x := s.ctx c
    let y : Context := { x with acceptance := none }
    let held (d : SlotCopy) := (s.slot d.slot).notify && (s.slot d.slot).hold && decide (x.state = .running)
    ∃ t, exec .responseByteEnd s = .next t ∧ CommitFrame s t c
      ∧ t.line =
          { s.line with
            state := .busy .gap, idleCount := idleAfter r.answer.byte, window := none, dominantBits := 0, response := none }
      ∧ (r.answer ≠ .ack ∨ x.acceptance = none →
          t.ctx c = x ∧ t.slots = s.slots ∧ t.ram = s.ram ∧ t.notice = s.notice)
      ∧ ∀ a, r.answer = .ack → x.acceptance = some a →
          (a.withdrawn = true →
            t.slots = s.slots ∧ t.ram = s.ram ∧ t.notice = s.notice
              ∧ t.ctx c =
                  match a.form with
                  | .store _ => { y with toggle := !x.toggle }
                  | .openF => { y with toggle := false }
                  | .duplicate => { y with duplicates := min 255 (x.duplicates + 1) })
          ∧ (a.withdrawn = false → a.form = .duplicate →
              t.ctx c = { y with duplicates := min 255 (x.duplicates + 1) } ∧ t.slots = s.slots ∧ t.ram = s.ram
                ∧ t.notice = s.notice)
          ∧ (a.withdrawn = false → a.form = .openF → x.current = none →
              t.ctx c = { y with toggle := false, drainNoted := false } ∧ t.slots = s.slots ∧ t.ram = s.ram
                ∧ t.notice = s.notice)
          ∧ (∀ d, a.withdrawn = false → a.form = .openF → x.current = some d →
              t.ctx c =
                  { y with
                    toggle := false, drainNoted := false, msgNo := x.msgNo + 1, current := none, openMsg := false
                    openBytes := 0, bytesUsed := 0, acc := { sum := 0, pending := none }
                    state := if held d then .holding else x.state }
                ∧ t.slots =
                    s.slots.set d.slot
                      { s.slot d.slot with
                        valid := false, endMark := true, status := 3, count := BitVec.ofNat 12 x.bytesUsed
                        msgNo := x.msgNo }
                ∧ t.ram = s.ram
                ∧ t.notice.channels.get c =
                    { s.notice.channels.get c with
                      done := (s.notice.channels.get c).done || (s.slot d.slot).notify })
          ∧ (∀ w d, a.withdrawn = false → a.form = .store w → w.target = .current → w.closes = .nothing →
              x.current = some d → w.position = .middle →
              t.ctx c =
                  { y with
                    bytesUsed := x.bytesUsed + w.payload.length, openMsg := true
                    openBytes := x.openBytes + w.payload.length, toggle := !x.toggle, acc := x.acc.feedAll w.payload
                    drainNoted := false }
                ∧ t.ram = Memory.writeBytes s.ram (d.offset + BitVec.ofNat 12 x.bytesUsed) w.payload
                ∧ t.slots = s.slots ∧ t.notice = s.notice)
          ∧ (∀ w d, a.withdrawn = false → a.form = .store w → w.target = .current → w.closes = .nothing →
              x.current = some d → w.position = .last →
              t.ctx c =
                  { y with
                    bytesUsed := 0, openMsg := false, openBytes := 0, toggle := !x.toggle
                    acc := { sum := 0, pending := none }, drainNoted := false, current := none, msgNo := x.msgNo + 1
                    state := if held d then .holding else x.state }
                ∧ t.ram = Memory.writeBytes s.ram (d.offset + BitVec.ofNat 12 x.bytesUsed) w.payload
                ∧ t.slots =
                    s.slots.set d.slot
                      { s.slot d.slot with
                        valid := false, endMark := true
                        status := if w.sum = some (x.acc.feedAll w.payload).close then 2 else 4
                        count := BitVec.ofNat 12 (x.bytesUsed + w.payload.length), msgNo := x.msgNo }
                ∧ t.notice.channels.get c =
                    { s.notice.channels.get c with
                      done := (s.notice.channels.get c).done || (s.slot d.slot).notify })
          ∧ (∀ w d, a.withdrawn = false → a.form = .store w → w.target = .found d → w.closes = .nothing →
              w.position = .first →
              t.ctx c =
                  { y with
                    walker := (s.cfg c).next x.walker, current := some d, bytesUsed := w.payload.length, openMsg := true
                    openBytes := w.payload.length, toggle := !x.toggle, acc := ChainAcc.cleared.feedAll w.payload
                    drainNoted := false }
                ∧ t.ram = Memory.writeBytes s.ram d.offset w.payload ∧ t.slots = s.slots ∧ t.notice = s.notice)
          ∧ (∀ w d, a.withdrawn = false → a.form = .store w → w.target = .found d → w.closes = .nothing →
              w.position = .only →
              t.ctx c =
                  { y with
                    walker := (s.cfg c).next x.walker, current := none, bytesUsed := 0, openMsg := false, openBytes := 0
                    toggle := !x.toggle, acc := { sum := 0, pending := none }, drainNoted := false, msgNo := x.msgNo + 1
                    state := if held d then .holding else x.state }
                ∧ t.ram = Memory.writeBytes s.ram d.offset w.payload
                ∧ t.slots =
                    s.slots.set d.slot
                      { s.slot d.slot with
                        valid := false, endMark := true
                        status := if w.sum = some (ChainAcc.cleared.feedAll w.payload).close then 2 else 4
                        count := BitVec.ofNat 12 w.payload.length, msgNo := x.msgNo }
                ∧ t.notice.channels.get c =
                    { s.notice.channels.get c with
                      done := (s.notice.channels.get c).done || (s.slot d.slot).notify })
          ∧ (∀ w k d, a.withdrawn = false → a.form = .store w → w.target = .found d → w.closes = .cut →
              x.current = some k → w.position = .first →
              t.ctx c =
                  { y with
                    walker := (s.cfg c).next x.walker, current := some d, bytesUsed := w.payload.length, openMsg := true
                    openBytes := w.payload.length, toggle := !x.toggle, acc := ChainAcc.cleared.feedAll w.payload
                    drainNoted := false, msgNo := x.msgNo + 1, state := if held k then .holding else x.state }
                ∧ t.ram = Memory.writeBytes s.ram d.offset w.payload
                ∧ t.slots =
                    s.slots.set k.slot
                      { s.slot k.slot with
                        valid := false, endMark := true, status := 3, count := BitVec.ofNat 12 x.bytesUsed
                        msgNo := x.msgNo }
                ∧ t.notice.channels.get c =
                    { s.notice.channels.get c with
                      done := (s.notice.channels.get c).done || (s.slot k.slot).notify })
          ∧ (∀ w k d, a.withdrawn = false → a.form = .store w → w.target = .found d → w.closes = .cut →
              x.current = some k → w.position = .only →
              t.ctx c =
                  { y with
                    walker := (s.cfg c).next x.walker, current := none, bytesUsed := 0, openMsg := false, openBytes := 0
                    toggle := !x.toggle, acc := { sum := 0, pending := none }, drainNoted := false, msgNo := x.msgNo + 2
                    state := if held k || held d then .holding else x.state }
                ∧ t.ram = Memory.writeBytes s.ram d.offset w.payload
                ∧ t.slots =
                    (s.slots.set k.slot
                        { s.slot k.slot with
                          valid := false, endMark := true, status := 3, count := BitVec.ofNat 12 x.bytesUsed
                          msgNo := x.msgNo }).set d.slot
                      { s.slot d.slot with
                        valid := false, endMark := true
                        status := if w.sum = some (ChainAcc.cleared.feedAll w.payload).close then 2 else 4
                        count := BitVec.ofNat 12 w.payload.length, msgNo := x.msgNo + 1 }
                ∧ t.notice.channels.get c =
                    { s.notice.channels.get c with
                      done := (s.notice.channels.get c).done || (s.slot k.slot).notify || (s.slot d.slot).notify })
          ∧ (∀ w k d, a.withdrawn = false → a.form = .store w → w.target = .found d → w.closes = .done →
              x.current = some k → w.position = .last →
              t.ctx c =
                  { y with
                    walker := (s.cfg c).next x.walker, current := none, bytesUsed := 0, openMsg := false, openBytes := 0
                    toggle := !x.toggle, acc := { sum := 0, pending := none }, drainNoted := false, msgNo := x.msgNo + 1
                    state := if held k || held d then .holding else x.state }
                ∧ t.ram = Memory.writeBytes s.ram d.offset w.payload
                ∧ t.slots =
                    (s.slots.set k.slot
                        { s.slot k.slot with
                          valid := false, endMark := false, status := 1, count := BitVec.ofNat 12 x.bytesUsed
                          msgNo := x.msgNo }).set d.slot
                      { s.slot d.slot with
                        valid := false, endMark := true
                        status := if w.sum = some (x.acc.feedAll w.payload).close then 2 else 4
                        count := BitVec.ofNat 12 w.payload.length, msgNo := x.msgNo }
                ∧ t.notice.channels.get c =
                    { s.notice.channels.get c with
                      done := (s.notice.channels.get c).done || (s.slot k.slot).notify || (s.slot d.slot).notify })
          ∧ ∀ w k d, a.withdrawn = false → a.form = .store w → w.target = .found d → w.closes = .done →
              x.current = some k → w.position = .middle →
              t.ctx c =
                  { y with
                    walker := (s.cfg c).next x.walker, current := some d, bytesUsed := w.payload.length, openMsg := true
                    openBytes := x.openBytes + w.payload.length, toggle := !x.toggle
                    acc := x.acc.feedAll w.payload, drainNoted := false
                    state := if held k then .holding else x.state }
                ∧ t.ram = Memory.writeBytes s.ram d.offset w.payload
                ∧ t.slots =
                    s.slots.set k.slot
                      { s.slot k.slot with
                        valid := false, endMark := false, status := 1, count := BitVec.ofNat 12 x.bytesUsed
                        msgNo := x.msgNo }
                ∧ t.notice.channels.get c =
                    { s.notice.channels.get c with
                      done := (s.notice.channels.get c).done || (s.slot k.slot).notify }

/-! ### Answers to own frames -/

/-- NAK, HALT, REOPEN and silence at a SEND channel (R85 to R88, R18, R36): what each does to the counts, the backoff and the
state, with the offer that follows; an answer is a good transmission and starts the beacon timer again. The window closes to GAP
(R16); that the line stays there on silence, with the idle count at 12, is the model's choice (log entry 36). -/
def Obligations.SendChannelActsOnItsAnswer : Prop :=
  ∀ (s : State) (c : ChanId) (img : Frame), s.Awaits c img →
    let x := s.ctx c
    let g := s.station
    (∀ a : Answer, a ≠ .ack →
      ∃ t, exec (.windowClose (some a.byte)) s = .next t ∧ AttemptFrame s t c
        ∧ t.line =
            { s.line with state := .busy .gap, idleCount := idleAfter a.byte, window := none, dominantBits := 0 }
        ∧ t.mc.lineErrors = s.mc.lineErrors - 1 ∧ t.beaconTimer = startTimer (10 * g.beaconInterval.toNat)
        ∧ t.slots = s.slots ∧ t.arb.offers.get c = t.mayOffer c
        ∧ (∀ n : Station, (s.cfg c).peerStation.toNat = n.val → (s.entry n).state ≠ .self →
            (a = .reopen → img.kind = .openF → x.retry < g.retryLimit.toNat) →
            t.entry n = { s.entry n with state := .present, age := 0, wakeTried := false })
        ∧ (a = .nak → g.nakPatience = 0 →
            t.ctx c = { x with nak := min 255 (x.nak + 1), backoff := startTimer g.nakBackoff.toNat })
        ∧ (a = .nak → x.nak + 1 < g.nakPatience.toNat →
            t.ctx c = { x with nak := x.nak + 1, backoff := startTimer g.nakBackoff.toNat })
        ∧ (a = .nak → g.nakPatience ≠ 0 → g.nakPatience.toNat ≤ x.nak + 1 →
            t.ctx c = { x with state := .halted, haltCause := .peerBusy, backoff := none, pacing := none }
              ∧ (t.notice.channels.get c).halted = true)
        ∧ (a = .halt →
            t.ctx c = { x with state := .halted, haltCause := .peerHalt, backoff := none, pacing := none }
              ∧ (t.notice.channels.get c).halted = true)
        ∧ (a = .reopen → img.kind = .data →
            t.ctx c =
              { x with stream := 0, acc := { sum := 0, pending := none }, retry := 0, nak := 0, state := .opening })
        ∧ (a = .reopen → img.kind = .openF → x.retry < g.retryLimit.toNat →
            t.ctx c = { x with retry := x.retry + 1, backoff := startTimer g.silenceBackoff.toNat }))
    ∧ (x.retry < g.retryLimit.toNat →
        ∃ t, exec (.windowClose none) s = .next t ∧ AttemptFrame s t c
          ∧ t.line = { s.line with state := .busy .gap, idleCount := 12, window := none, dominantBits := 0 }
          ∧ t.ctx c = { x with retry := x.retry + 1, backoff := startTimer g.silenceBackoff.toNat }
          ∧ t.mc = s.mc ∧ t.beaconTimer = s.beaconTimer ∧ t.presence = s.presence ∧ t.slots = s.slots
          ∧ t.notice = s.notice)

/-- Exhaustion (R91, R137): silence at the retry limit sets the retry count to 0, starts no backoff, and sets the peer's entry
ABSENT: with the mark set from WAKING, with the mark clear from PRESENT and ASLEEP, both with age 0; from ABSENT nothing of the
entry changes. The channel then asks for a wake pulse where the entry's mark is clear. -/
def Obligations.ExhaustionMakesThePeerAbsent : Prop :=
  ∀ (s : State) (c : ChanId) (img : Frame) (n : Station), s.Awaits c img → (s.ctx c).retry = s.station.retryLimit.toNat →
    (s.cfg c).peerStation.toNat = n.val → (s.entry n).state ≠ .self →
    ∃ t, exec (.windowClose none) s = .next t ∧ AttemptFrame s t c
      ∧ t.ctx c = { s.ctx c with retry := 0 }
      ∧ ((s.entry n).state = .present ∨ (s.entry n).state = .asleep →
          t.entry n = { s.entry n with state := .absent, age := 0, wakeTried := false })
      ∧ ((s.entry n).state = .waking →
          t.entry n = { s.entry n with state := .absent, age := 0, wakeTried := true })
      ∧ ((s.entry n).state = .absent → t.entry n = s.entry n)
      ∧ (∀ m, m ≠ n → t.entry m = s.entry m)
      ∧ ((s.ctx c).state = .opening ∨ (s.ctx c).state = .running → (s.ctx c).backoff = none → (s.ctx c).pacing = none →
          (t.entry n).wakeTried = false → t.arb.wakeRequest = true)
      ∧ t.arb.offers.get c = false ∧ t.slots = s.slots ∧ t.mc = s.mc ∧ t.beaconTimer = s.beaconTimer

/-- An ACK at a SEND channel (R82 to R84, R67): the OPEN's sets the toggle to 0 and runs; that of a frame that is not the last
flips the toggle and moves the stream on over the acknowledged image, with pacing; that of the last writes the slots of the
message back DONE, into HOLDING where one of them asks for it. Each other ACK is followed by the fetch, with each of its ends over
any number of slots (R62 to R65). -/
def Obligations.AckMovesTheMessageOn : Prop :=
  ∀ (s : State) (c : ChanId) (img : Frame), s.Awaits c img →
    let x := s.ctx c
    let pace := startTimer (s.cfg c).pacing.toNat
    ∃ t, exec (.windowClose (some 0xC3)) s = .next t ∧ AttemptFrame s t c
      ∧ t.mc.lineErrors = s.mc.lineErrors - 1 ∧ t.beaconTimer = startTimer (10 * s.station.beaconInterval.toNat)
      ∧ t.arb.offers.get c = t.mayOffer c
      ∧ (img.kind = .openF → FetchGives s t c { x with toggle := false, retry := 0, nak := 0, state := .running })
      ∧ (img.kind = .data → img.position = .first ∨ img.position = .middle →
          FetchGives s t c
            { x with
              toggle := !x.toggle, retry := 0, nak := 0, acc := x.acc.feedAll img.payload
              stream := x.stream + img.payload.length, pacing := pace })
      ∧ (img.kind = .data → img.position = .last ∨ img.position = .only → x.state = .running →
          (x.fetched.map fun k => k.slot).Nodup →
          let y :=
            { x with
              toggle := !x.toggle, retry := 0, nak := 0, stream := 0, acc := { sum := 0, pending := none }
              pacing := pace, msgNo := x.msgNo + 1, fetched := [], msgStart := x.walker }
          ∃ u, MessageDone s u c
            ∧ ((x.fetched.any fun k => (s.slot k.slot).notify && (s.slot k.slot).hold) = true →
                t.ctx c = { y with state := .holding } ∧ t.slots = u.slots
                  ∧ t.notice.channels.get c = u.notice.channels.get c)
            ∧ ((x.fetched.any fun k => (s.slot k.slot).notify && (s.slot k.slot).hold) = false → FetchGives u t c y))

/-- Windows read by others and windows cut short (R16, R18): an observer or destination follows the close to GAP and a dominant
bit out of place to RESYNC with no report; a damaged byte at the sender is NONE with one receive error, and a dominant bit out
of place there is NONE with the error held. A damaged byte with a good stop bit leaves the line in GAP (log entry 15). Its error
has been reported when its NONE is reached (R33), so at a line error count of 127 the report takes the station off the line, and
that ends the attempt. The idle count of 12 on silence, in GAP, is the model's choice (log entry 36), and the other counters are the
least the event shows (log entry 3). -/
def Obligations.WindowsCloseForObserversAndDamagedAnswers : Prop :=
  (∀ (s : State) (read : Option Byte), s.mc.mode = .listen ∨ s.mc.mode = .active → s.line.state = .busy .window →
    s.line.window ≠ none → (∀ a, s.arb.latch = some a → a.phase ≠ .answer) →
    exec (.windowClose read) s = .next
        { s with
          line :=
            { s.line with
              state := .busy .gap, window := none, dominantBits := 0
              idleCount := match read with | some b => idleAfter b | none => 12 } }
      ∧ exec .windowOutOfPlace s = .next { s with line := s.line.upset 0 1 })
  ∧ ∀ (s : State) (c : ChanId) (img : Frame), s.Awaits c img → (s.ctx c).retry < s.station.retryLimit.toNat →
      (∀ b : Byte, b ≠ 0xC3 → b ≠ 0x99 → b ≠ 0xA5 → b ≠ 0x96 →
        ∃ t, exec (.windowClose none) s = .next t
          ∧ (t.mc.lineErrors < 127 →
              ∃ u, exec (.windowClose (some b)) s = .next u
                ∧ u.mc = { t.mc with lineErrors := t.mc.lineErrors + 1 } ∧ u.contexts = t.contexts ∧ u.arb = t.arb
                ∧ u.line = { t.line with idleCount := idleAfter b } ∧ u.presence = t.presence)
          ∧ (127 ≤ s.mc.lineErrors →
              exec (.windowClose (some b)) s = .next
                (State.reportRise
                  { s with
                    line :=
                      { s.line with state := .busy .gap, idleCount := idleAfter b, window := none, dominantBits := 0 } }
                  1)))
      ∧ ∃ t, exec .windowOutOfPlace s = .next t ∧ AttemptFrame s t c ∧ t.mc = s.mc
          ∧ t.line = { s.line.upset 0 1 with heldError := true }
          ∧ t.ctx c =
              { s.ctx c with
                retry := (s.ctx c).retry + 1, backoff := startTimer s.station.silenceBackoff.toNat }

/-! ### Dominant runs -/

/-- Dominant runs (R20, R21, R156, R173, R159, R160): at 0.5 ms the line is in RESYNC with its records discarded and a held
error dropped; the release of another station's run makes the sleeping entries WAKING and starts the settle timer, in LISTEN,
ACTIVE and SLEEP, and is a wake event after that in SLEEP and SAFE with line wake enabled; at 10 ms the line is stuck, and the
station enters SAFE from LISTEN and ACTIVE. That WAKE_PULSE_HEARD makes the effects of 0.5 ms itself, from any phase, is the model's
choice (log entry 31). -/
def Obligations.DominantRunsWakeAndStick : Prop :=
  (∀ s : State, s.mc.mode = .listen ∨ s.mc.mode = .active →
    (∀ a, s.arb.latch = some a → a.phase = .waiting ∨ a.phase = .pulse) →
    exec .dominantRunHalfMs s = .next
      { s with line := { s.line.upset 0 16 with clashWatch := false, heldError := false, runTimer := 8 } })
  ∧ (∀ s : State, s.mc.mode = .sleep ∨ s.mc.mode = .safe →
      exec .dominantRunHalfMs s = .next { s with line := { s.line with idleCount := 0, runTimer := 8 } }
      ∧ exec .lineStuck s = .next { s with line := { s.line with idleCount := 0, runTimer := 160, stuck := true } })
  ∧ (∀ s : State, s.mc.mode = .listen ∨ s.mc.mode = .active →
      ∃ t, exec .lineStuck s = .next t ∧ SafeEntered s t .stuck ∧ t.line.stuck = true ∧ t.line.runTimer = 160)
  ∧ (∀ s : State, s.mc.mode = .listen ∨ s.mc.mode = .active → s.line.ownRun = false →
      (∀ a, s.arb.latch = some a → a.phase = .waiting ∨ a.phase = .pulse) → s.wake.on = false →
      ∃ t, exec .wakePulseHeard s = .next t
        ∧ t.line =
            { s.line.upset 1 0 with clashWatch := false, heldError := false, runTimer := 0, ownRun := false }
        ∧ (∀ a, (s.entry a).state = .asleep ∨ ((s.entry a).state = .absent ∧ (s.entry a).wakeTried = false) →
            t.entry a = { s.entry a with state := .waking, age := 0 })
        ∧ (∀ a, (s.entry a).state ≠ .asleep → ¬ ((s.entry a).state = .absent ∧ (s.entry a).wakeTried = false) →
            t.entry a = s.entry a)
        ∧ t.presence.settle = startTimer (10 * s.station.wakeSettle.toNat)
        ∧ t.mc = s.mc ∧ t.contexts = s.contexts ∧ t.slots = s.slots ∧ t.ram = s.ram ∧ t.arb.latch = s.arb.latch)
  ∧ (∀ s : State, s.mc.mode = .sleep ∨ s.mc.mode = .safe → s.line.ownRun = false → s.wake.on = true →
      (s.station.lineWake = true → s.faultCleared = true →
        ∃ t, exec .wakePulseHeard s = .next t
          ∧ Restarted (if s.mc.mode = .sleep then s.presencePulse else s) t
              (if s.mc.mode = .safe then .safeWake else .wake))
      ∧ (s.station.lineWake = true → s.faultCleared = false →
          ∃ t, exec .wakePulseHeard s = .next t ∧ t.contexts = s.contexts
            ∧ t.mc =
                if s.mc.mode = .safe then
                  { s.mc with mode := .sleep, entryCause := .safeFault, safeTimer := none, pendingSleep := .none }
                else s.mc)
      ∧ (s.station.lineWake = false →
          ∃ t, exec .wakePulseHeard s = .next t ∧ t.mc = s.mc ∧ t.contexts = s.contexts
            ∧ (s.mc.mode = .safe → t.presence = s.presence)))
  ∧ ∀ s : State, s.mc.mode = .sleep ∨ s.mc.mode = .safe → s.line.ownRun = true →
      exec .wakePulseHeard s = .next
        { s with line := { s.line with idleCount := 1, runTimer := 0, dominantBits := 0, ownRun := false } }

/-! ### The station's own attempts -/

/-- The choice rule at a pick (R27): the announce before everything, then the wake request, then the lowest class on offer, in
class 1 the beacon before any channel, and among channels round robin; the image carries the class as its priority. With
nothing on offer no pick is made. -/
def Obligations.PickFollowsTheChoiceRule : Prop :=
  ∀ (s : State) (atOnce : Bool), s.mc.mode = .active → s.line.state = .idle → s.arb.latch = none →
    s.mc.pendingSleep ≠ .quiet →
    let cls (c : ChanId) : Nat := (s.cfg c).prio.toNat
    (s.arb.announceOffer = true →
      ∃ t f p, exec (.pick atOnce) s = .next t
        ∧ t.arb.latch = some { owner := .announcer, form := .frame f, phase := p } ∧ f.kind = .sleep ∧ f.prio = 1
        ∧ t.arb.offers = s.arb.offers ∧ t.arb.beaconOffer = s.arb.beaconOffer ∧ t.arb.announceOffer = false
        ∧ t.arb.wakeRequest = s.arb.wakeRequest)
    ∧ (s.arb.announceOffer = false → s.arb.wakeRequest = true →
        ∃ t p, exec (.pick atOnce) s = .next t
          ∧ t.arb.latch = some { owner := .wakeRequest, form := .pulse, phase := p }
          ∧ t.arb.offers = s.arb.offers ∧ t.arb.beaconOffer = s.arb.beaconOffer ∧ t.arb.wakeRequest = true)
    ∧ (s.arb.announceOffer = false → s.arb.wakeRequest = false →
        (s.arb.beaconOffer = true → (∀ c, s.arb.offers.get c = true → 1 ≤ cls c) →
          ∃ t f p, exec (.pick atOnce) s = .next t
            ∧ t.arb.latch = some { owner := .beacon, form := .frame f, phase := p } ∧ f.kind = .beacon ∧ f.prio = 1
            ∧ t.arb.beaconOffer = false ∧ t.arb.offers = s.arb.offers)
        ∧ (∀ c, s.arb.offers.get c = true → (∀ d, s.arb.offers.get d = true → cls c ≤ cls d) →
            (1 ≤ cls c → s.arb.beaconOffer = false) →
            (∀ d, s.arb.offers.get d = true → cls d = cls c →
              (c - (s.arb.pointers.get (s.cfg c).prio.toFin + 1)).val
                ≤ (d - (s.arb.pointers.get (s.cfg c).prio.toFin + 1)).val) →
            ∃ t f p, exec (.pick atOnce) s = .next t
              ∧ t.arb.latch = some { owner := .channel c, form := .frame f, phase := p } ∧ f.prio = (s.cfg c).prio
              ∧ t.arb.offers = s.arb.offers.set c false ∧ t.arb.beaconOffer = s.arb.beaconOffer)
        ∧ (s.arb.beaconOffer = false → (∀ c, s.arb.offers.get c = false) → exec (.pick atOnce) s = .next s))

/-- Round robin (R28): a channel picked in a class is the first one on offer after the pointer of the class, which moves to it;
no other pointer moves, a pick of anything else moves none, and no other command but the two resets, which set them all to 15,
moves one. -/
def Obligations.PointersMoveWithPickedChannelsOnly : Prop :=
  (∀ (s t : State) (atOnce : Bool) (c : ChanId) (a : Attempt), s.arb.latch = none → exec (.pick atOnce) s = .next t →
    t.arb.latch = some a → a.owner = .channel c →
    s.arb.offers.get c = true
      ∧ (∀ d, s.arb.offers.get d = true → (s.cfg d).prio = (s.cfg c).prio →
          (c - (s.arb.pointers.get (s.cfg c).prio.toFin + 1)).val
            ≤ (d - (s.arb.pointers.get (s.cfg c).prio.toFin + 1)).val)
      ∧ t.arb.pointers = s.arb.pointers.set (s.cfg c).prio.toFin c)
  ∧ (∀ (s t : State) (atOnce : Bool), exec (.pick atOnce) s = .next t →
      (∀ a c, t.arb.latch = some a → a.owner = .channel c → s.arb.latch = some a) → t.arb.pointers = s.arb.pointers)
  ∧ (∀ (i : Instr) (s t : State), exec i s = .next t → (∀ b, i ≠ .pick b) → i ≠ .reset → i ≠ .softReset →
      t.arb.pointers = s.arb.pointers)
  ∧ ∀ (s t : State), exec .reset s = .next t ∨ (s.hostOpen = true ∧ exec .softReset s = .next t) → ∀ k, t.arb.pointers.get k = 15

/-- The image a pick latches (R29, R75 to R77, R119, R143, R169), read from the state of that moment: the OPEN and DATA frames of
a SEND channel, with payload, position and chain sum; the frame of a PUBLISH channel; the beacon. A pick in a line that has
just become IDLE begins at once, in ARBITRATION; another waits (R30; the operand is the model's, log entry 9). The image, and a
response byte, stand on the line as R2 gives: each byte a dominant start bit, its bits most significant first, a zero dominant and
a one recessive, and a recessive stop bit. -/
def Obligations.PickBuildsTheImageOfThatMoment : Prop :=
  let onLine (bytes : List Byte) : List Level :=
    bytes.flatMap fun b =>
      Level.dominant
        :: ([7, 6, 5, 4, 3, 2, 1, 0].map fun k => if b.getLsbD k then Level.recessive else Level.dominant)
        ++ [Level.recessive]
  (∀ (s : State) (r : Response), s.mc.mode = .active → s.arb.latch = none → s.line.response = some r →
    s.sentLevels = onLine [r.answer.byte])
  ∧ ∀ (s t : State) (atOnce : Bool) (a : Attempt) (f : Frame), s.arb.latch = none → exec (.pick atOnce) s = .next t →
    t.arb.latch = some a → a.form = .frame f →
    f.source = s.station.ownAddress
    ∧ a.phase = (if atOnce then .arbitration else .waiting)
    ∧ (atOnce = true →
        t.line =
          { s.line with
            state := .busy .frame, idleCount := 0, frameRecord := [], dominantBits := 1, ownRun := false }
          ∧ t.clock = { s.clock with h0Left := 9 } ∧ t.sentLevels = onLine f.bytes)
    ∧ (atOnce = false → t.line = s.line)
    ∧ (a.owner = .beacon →
        f =
          { prio := 1, source := s.station.ownAddress, toggle := false, kind := .beacon, channel := 0, dest := 31
            position := .only, chain := none
            payload :=
              [s.station.beaconInterval, BitVec.ofNat 8 s.mc.restarts, if s.station.followSleep then 1 else 0] })
    ∧ (a.owner = .announcer →
        f =
          { prio := 1, source := s.station.ownAddress, toggle := false, kind := .sleep, channel := 0, dest := 31
            position := .only, payload := [], chain := none })
    ∧ ∀ c, a.owner = .channel c →
        let g := s.cfg c
        let x := s.ctx c
        let bytes := x.fetched.flatMap fun d => Memory.readBytes s.ram d.offset d.length.toNat
        let rest := listBytes x.fetched - x.stream
        let last := holdsEnd x.fetched && decide (rest ≤ g.maxPayload)
        (g.kind = .publish →
          f =
            { prio := g.prio, source := s.station.ownAddress, toggle := false, kind := .publish, channel := c, dest := 31
              position := .only, payload := bytes, chain := none })
        ∧ (g.kind = .send → x.state = .opening →
            f =
              { prio := g.prio, source := s.station.ownAddress, toggle := false, kind := .openF
                channel := g.peerChannel.toFin, dest := g.peerStation, position := .only, payload := [], chain := none })
        ∧ (g.kind = .send → x.state ≠ .opening →
            f.kind = .data ∧ f.toggle = x.toggle ∧ f.channel = g.peerChannel.toFin ∧ f.dest = g.peerStation
            ∧ f.payload = (bytes.drop x.stream).take (if last then rest else g.maxPayload)
            ∧ f.position =
                (if x.stream = 0 then (if last then .only else .first) else (if last then .last else .middle))
            ∧ f.chain = if last then some (x.acc.feedAll f.payload).close else none)

/-- Attempts that end without an answer (R31, R32, R89, R122, R142): LOST in arbitration and WAKE_COLLISION change no count and
look at the offer again; a dominant bit read recessive ends in BIT_ERROR with +8 reported, and a retry counted at a SEND channel
below its limit; a recessive bit read dominant passes to CHECKING, where the end of the run is a BIT_ERROR, here of a PUBLISH
channel. A beacon that is LOST is offered again. That these events are taken in ARBITRATION too, where they show that H0 is over,
is the model's choice (log entry 7), as are the three forms of BIT_ERROR (log entry 8) and the least counts of the line (log
entry 3). -/
def Obligations.FailedAttemptsAreOfferedAgain : Prop :=
  (∀ (s : State) (c : ChanId) (img : Frame) (p : AttemptPhase), s.mc.mode = .active → s.mc.pendingSleep ≠ .quiet →
    s.arb.latch = some { owner := .channel c, form := .frame img, phase := p } → (s.ctx c).haltReq = false →
    let free : State := { s with arb := { s.arb with latch := none } }
    (p = .arbitration → exec .arbitrationLost s = .next (free.look c))
    ∧ (p = .arbitration ∨ p = .sending ∨ p = .checking →
        exec .wakeCollision s = .next (({ free with line := s.line.upset 0 16 } : State).look c))
    ∧ (p = .arbitration ∨ p = .sending →
        exec (.bitError .recessiveReadDominant) s = .next
          { s with
            arb := { s.arb with latch := some { owner := .channel c, form := .frame img, phase := .checking } }
            line := s.line.upset 0 1 })
    ∧ (p = .arbitration ∨ p = .sending → (s.cfg c).kind = .send → (s.ctx c).retry < s.station.retryLimit.toNat →
        exec (.bitError .dominantReadRecessive) s = .next
          (State.reportRise
            (State.look
              { free with
                line := s.line.upset 1 0
                contexts :=
                  s.contexts.set c
                    { s.ctx c with
                      retry := (s.ctx c).retry + 1, backoff := startTimer s.station.silenceBackoff.toNat } }
              c)
            8))
    ∧ (p = .arbitration ∨ p = .sending → (s.cfg c).kind = .publish →
        exec (.bitError .dominantReadRecessive) s = .next
          (State.reportRise (State.look { free with line := s.line.upset 1 0 } c) 8))
    ∧ (p = .checking → (s.cfg c).kind = .publish →
        exec (.bitError .runEnded) s = .next
          (State.reportRise
            (State.look
              { free with
                line := { s.line with idleCount := 1, runTimer := 0, dominantBits := 0, ownRun := false } }
              c)
            8)))
  ∧ ∀ (s : State) (f : Frame), s.mc.mode = .active → s.mc.pendingSleep ≠ .quiet →
      s.arb.latch = some { owner := .beacon, form := .frame f, phase := .arbitration } →
      exec .arbitrationLost s = .next { s with arb := { s.arb with latch := none, beaconOffer := true } }

/-- The own frame read back to its end (R33, R142, R121, R169): a DATA or OPEN frame opens the window as sender and waits for
its answer; a beacon is SENT; a publication is SENT, which starts the pacing timer and writes the slots of its message back
DONE, into HOLDING where one of them asks for it, else with a fetch (R67, R62 to R65); the announce is SENT, which takes the
station to SLEEP. The own pulse released is SENT: the wake request is cleared and the sleeping entries become WAKING (R34, R25,
R135). That the frame's end is taken in ARBITRATION too is the model's choice (log entry 7), and so is the operand of
PULSE_SENT, which keeps the own-run mark while another station holds the line (log entry 10). -/
def Obligations.OwnTransmissionsEndSent : Prop :=
  (∀ (s : State) (o : Owner) (f : Frame) (p : AttemptPhase), s.mc.mode = .active → s.mc.pendingSleep ≠ .quiet →
    s.arb.latch = some { owner := o, form := .frame f, phase := p } → p = .arbitration ∨ p = .sending →
    (f.kind = .data ∨ f.kind = .openF →
      exec .ownFrameEnd s = .next
        { s with
          arb := { s.arb with latch := some { owner := o, form := .frame f, phase := .answer } }
          line := s.line.after f .sender })
    ∧ (f.kind = .beacon → o = .beacon →
        exec .ownFrameEnd s = .next
          { s with
            arb := { s.arb with latch := none }
            line := s.line.after f .sender
            beaconTimer := startTimer (10 * s.station.beaconInterval.toNat)
            mc := { s.mc with lineErrors := s.mc.lineErrors - 1 } })
    ∧ (f.kind = .sleep → o = .announcer →
        ∃ t, exec .ownFrameEnd s = .next t
          ∧ FallenAsleep { s with mc := { s.mc with lineErrors := s.mc.lineErrors - 1 } } t .command)
    ∧ (∀ c, f.kind = .publish → o = .channel c → (s.cfg c).kind = .publish → (s.ctx c).state = .running →
        (s.ctx c).haltReq = false → ((s.ctx c).fetched.map fun k => k.slot).Nodup →
        let y :=
          { s.ctx c with
            pacing := startTimer (s.cfg c).pacing.toNat, msgNo := (s.ctx c).msgNo + 1, fetched := []
            msgStart := (s.ctx c).walker, stream := 0, acc := { sum := 0, pending := none } }
        ∃ t u, exec .ownFrameEnd s = .next t ∧ MessageDone s u c
          ∧ (((s.ctx c).fetched.any fun k => (s.slot k.slot).notify && (s.slot k.slot).hold) = true →
              t.ctx c = { y with state := .holding } ∧ t.slots = u.slots
                ∧ t.notice.channels.get c = u.notice.channels.get c)
          ∧ (((s.ctx c).fetched.any fun k => (s.slot k.slot).notify && (s.slot k.slot).hold) = false → FetchGives u t c y)
          ∧ (∀ e, e ≠ c → t.ctx e = s.ctx e ∧ t.notice.channels.get e = s.notice.channels.get e)
          ∧ t.mc = { s.mc with lineErrors := s.mc.lineErrors - 1 } ∧ t.arb.latch = none ∧ t.ram = s.ram
          ∧ t.line = s.line.after f .sender))
  ∧ ∀ (s : State) (held : Bool), s.mc.mode = .active → s.mc.pendingSleep ≠ .quiet →
      s.arb.latch = some { owner := .wakeRequest, form := .pulse, phase := .pulse } →
      ∃ t, exec (.pulseSent held) s = .next t
        ∧ t.arb.latch = none ∧ t.arb.wakeRequest = false ∧ t.arb.pointers = s.arb.pointers
        ∧ (∀ a, (s.entry a).state = .asleep ∨ ((s.entry a).state = .absent ∧ (s.entry a).wakeTried = false) →
            t.entry a = { s.entry a with state := .waking, age := 0 })
        ∧ (∀ a, (s.entry a).state ≠ .asleep → ¬ ((s.entry a).state = .absent ∧ (s.entry a).wakeTried = false) →
            t.entry a = s.entry a)
        ∧ t.presence.settle = startTimer (10 * s.station.wakeSettle.toNat)
        ∧ t.beaconTimer = startTimer (10 * s.station.beaconInterval.toNat)
        ∧ t.mc = { s.mc with lineErrors := s.mc.lineErrors - 1 }
        ∧ t.line.state = .busy .resync ∧ t.line.ownRun = (held && s.line.ownRun) ∧ t.contexts = s.contexts
        ∧ t.slots = s.slots ∧ t.ram = s.ram ∧ t.notice.channels = s.notice.channels

/-! ### Timers and the WAKE pin -/

/-- Expiries of the channel timers, the beacon timer and the settle timer, and a presence timeout (R90, R92, R123, R141, R136,
R134): the timer stops or starts again, the offer conditions are looked at, a beacon is due, an entry becomes ABSENT when its age
has reached its timeout, and nothing changes below that age. That a timer's expiry acts on any running timer, whatever it has to
go, is the model's choice (log entry 24). -/
def Obligations.TimersExpire : Prop :=
  (∀ (s : State) (c : ChanId), (s.ctx c).backoff ≠ none →
    exec (.backoffExpiry c) s = .next ((s.modCtx c fun x => { x with backoff := none }).look c))
  ∧ (∀ (s : State) (c : ChanId), (s.ctx c).pacing ≠ none →
      exec (.pacingExpiry c) s = .next ((s.modCtx c fun x => { x with pacing := none }).look c))
  ∧ (∀ (s : State) (c : ChanId),
      s.look c =
        { s with
          arb :=
            { s.arb with
              offers := s.arb.offers.set c (s.mayOffer c), wakeRequest := s.arb.wakeRequest || s.wantsWake c } })
  ∧ (∀ s : State, s.mc.mode = .active → s.beaconTimer ≠ none →
      exec .beaconTimerExpiry s = .next
        { s with
          beaconTimer := startTimer (10 * s.station.beaconInterval.toNat)
          arb :=
            { s.arb with
              beaconOffer :=
                s.arb.beaconOffer
                  || (match s.arb.latch with
                      | some a => decide (a.owner ≠ .beacon)
                      | none => true) } })
  ∧ (∀ s : State, s.presence.settle ≠ none →
      ∃ t, exec .wakeSettleExpiry s = .next t ∧ t.presence = { s.presence with settle := none }
        ∧ (∀ c (a : Station), (s.cfg c).kind = .send → (s.cfg c).peerStation.toNat = a.val → (s.entry a).state = .waking →
            t.arb.offers.get c = t.mayOffer c)
        ∧ t = { s with presence := t.presence, arb := { s.arb with offers := t.arb.offers, wakeRequest := t.arb.wakeRequest } })
  ∧ ∀ (s : State) (a : Station), s.mc.mode = .listen ∨ s.mc.mode = .active →
      let timeout := 30 * ((s.entry a).interval.getD s.station.beaconInterval).toNat
      ((s.entry a).age < timeout → exec (.presenceTimeout a) s = .next s)
      ∧ (timeout ≤ (s.entry a).age →
          ∃ t, exec (.presenceTimeout a) s = .next t
            ∧ t.entry a =
                (if (s.entry a).state = .present then { s.entry a with state := .absent, wakeTried := false }
                 else if (s.entry a).state = .waking then { s.entry a with state := .absent, wakeTried := true }
                 else s.entry a)
            ∧ (∀ b, b ≠ a → t.entry b = s.entry b)
            ∧ (t.notice.marks.get a = true ↔
                s.notice.marks.get a = true ∨ (s.entry a).state = .present ∨ (s.entry a).state = .waking)
            ∧ t.contexts = s.contexts ∧ t.slots = s.slots ∧ t.ram = s.ram ∧ t.mc = s.mc ∧ t.line = s.line
            ∧ t.arb.latch = s.arb.latch)

/-- Expiries of the mode timers and the WAKE pin (R148, R149, R153, R159, R174): LISTEN to ACTIVE with a beacon due, RESTART to
LISTEN, SAFE to SLEEP with the fault kept; a move of the pin is what the filter reads next, a level held for 1 ms is accepted while
the detector is on, and a change to the active level of an enabled pin is a wake event. That an expiry acts on any running timer,
whatever it has to go, is the model's choice (log entry 24), and so is the operand of the pin's row (log entry 11). -/
def Obligations.ModeTimersAndPinMoveTheMode : Prop :=
  (∀ s : State, s.mc.mode = .listen → s.mc.listenTimer ≠ none →
    exec .listenTimerExpiry s = .next
      { s with
        mc := { s.mc with mode := .active, listenTimer := none }
        arb := { s.arb with beaconOffer := true }
        beaconTimer := startTimer (10 * s.station.beaconInterval.toNat)
        notice := s.notice.modeSet })
  ∧ (∀ s : State, s.mc.mode = .restart → s.mc.restartTimer ≠ none →
      exec .restartTimerExpiry s = .next
        { s with
          mc :=
            { s.mc with
              mode := .listen, lineErrors := 0, restartTimer := none
              listenTimer := startTimer (20 * s.station.beaconInterval.toNat) }
          line := .reset
          notice := s.notice.modeSet })
  ∧ (∀ s : State, s.mc.mode = .safe → s.mc.safeTimer ≠ none →
      exec .safeTimerExpiry s = .next
        { s with
          mc := { s.mc with mode := .sleep, entryCause := .safeTimer, safeTimer := none, pendingSleep := .none }
          notice := s.notice.modeSet })
  ∧ ∀ (s : State) (level : Bool),
      exec (.wakePinAccepted (.moves level)) s = .next { s with wake := { s.wake with pin := level } }
      ∧ (s.wake.on = false ∨ level = s.wake.accepted →
        exec (.wakePinAccepted (.held level)) s = .next { s with wake := { s.wake with pin := level } })
      ∧ (s.wake.on = true → level ≠ s.wake.accepted →
          let u : State := { s with wake := { s.wake with pin := level, accepted := level, difference := 0 } }
          (s.station.wakePinEnabled = false ∨ level ≠ s.station.wakePinHigh → exec (.wakePinAccepted (.held level)) s = .next u)
          ∧ (s.station.wakePinEnabled = true → level = s.station.wakePinHigh →
              (s.mc.mode = .sleep → s.faultCleared = true →
                ∃ t, exec (.wakePinAccepted (.held level)) s = .next t ∧ Restarted u t .wake)
              ∧ (s.mc.mode = .sleep → s.faultCleared = false → exec (.wakePinAccepted (.held level)) s = .next u)
              ∧ (s.mc.mode = .safe → s.faultCleared = true →
                  ∃ t, exec (.wakePinAccepted (.held level)) s = .next t ∧ Restarted u t .safeWake)
              ∧ (s.mc.mode = .safe → s.faultCleared = false →
                  exec (.wakePinAccepted (.held level)) s = .next
                    { u with
                      mc :=
                        { s.mc with
                          mode := .sleep, entryCause := .safeFault, safeTimer := none, pendingSleep := .none }
                      notice := s.notice.modeSet })))

/-! ### Invariants -/

/-- Every invariant below holds after reset. -/
def Obligations.ResetSatisfiesTheInvariants : Prop :=
  Memory.wf State.reset.ram ∧ State.reset.SelfExact ∧ State.reset.RestartsBounded ∧ State.reset.ErrorsBounded
    ∧ State.reset.ModeConsistent ∧ State.reset.LatchFormed ∧ State.reset.OpenExact ∧ State.reset.TakingExact
    ∧ State.reset.OffersExact
    ∧ State.reset.IndexesInRing ∧ State.reset.CountsBounded

/-- Every step keeps Buffer RAM in its canonical form: offsets rising and below 4096, no byte listed that is 0. -/
def Obligations.StepKeepsBufferRamCanonical : Prop :=
  ∀ s t : State, Memory.wf s.ram → step s = .next t → Memory.wf t.ram

/-- Every step keeps SELF on the entry of the own address and on no other (R130). -/
def Obligations.StepKeepsSelfOnTheOwnAddress : Prop :=
  ∀ s t : State, s.SelfExact → step s = .next t → t.SelfExact

/-- Every step keeps the restart count below the restart limit (R144, R145), the line error count below 128 in LISTEN and ACTIVE
(R152), and the mode consistent: no attempt outside ACTIVE, LIMP in SAFE, the Wake Detector on in SLEEP and SAFE alone. -/
def Obligations.StepKeepsCountsAndModeInBounds : Prop :=
  ∀ s t : State, step s = .next t →
    (s.RestartsBounded → t.RestartsBounded) ∧ (s.ErrorsBounded → t.ErrorsBounded) ∧ (s.ModeConsistent → t.ModeConsistent)

/-- Every step keeps a TAKE channel's current descriptor present exactly while its message is open (R97), and the fields of the
records: both indexes in the channel's ring (R58), the retry count within its limit and the NAK count below its patience (R85,
R87). -/
def Obligations.StepKeepsOpenMessagesAndIndexesExact : Prop :=
  ∀ s t : State, step s = .next t →
    (s.OpenExact → t.OpenExact) ∧ (s.IndexesInRing → t.IndexesInRing) ∧ (s.CountsBounded → t.CountsBounded)

/-- Every step keeps a SEND or PUBLISH channel's offer in the set exactly while its conditions hold (R79, R120), the form of the
latched attempt that of its owner (R29), and acceptance records and current descriptors to TAKE channels, none being left in
SETUP (R97, R45). -/
def Obligations.StepKeepsOffersExact : Prop :=
  ∀ s t : State, step s = .next t →
    (s.LatchFormed → t.LatchFormed) ∧ (s.TakingExact → t.TakingExact)
      ∧ (s.LatchFormed → s.TakingExact → s.OffersExact → t.OffersExact)
end

