-- ==== Sys2Proof/Laws/State.lean ====
section
/-! SUPPORT. One lemma per field per plain update of the state, each true by rfl, so that no proof unfolds a record update;
and the rows of the tables after an update. -/

namespace Sys2Proof.Machine.State

@[simp] theorem store_station (s : State) (a : Offset) (bytes : List Byte) : (s.store a bytes).station = s.station := rfl
@[simp] theorem store_configs (s : State) (a : Offset) (bytes : List Byte) : (s.store a bytes).configs = s.configs := rfl
@[simp] theorem store_contexts (s : State) (a : Offset) (bytes : List Byte) : (s.store a bytes).contexts = s.contexts := rfl
@[simp] theorem store_slots (s : State) (a : Offset) (bytes : List Byte) : (s.store a bytes).slots = s.slots := rfl
@[simp] theorem store_ram (s : State) (a : Offset) (bytes : List Byte) : (s.store a bytes).ram = Memory.writeBytes s.ram a bytes := rfl
@[simp] theorem store_line (s : State) (a : Offset) (bytes : List Byte) : (s.store a bytes).line = s.line := rfl
@[simp] theorem store_arb (s : State) (a : Offset) (bytes : List Byte) : (s.store a bytes).arb = s.arb := rfl
@[simp] theorem store_presence (s : State) (a : Offset) (bytes : List Byte) : (s.store a bytes).presence = s.presence := rfl
@[simp] theorem store_beaconTimer (s : State) (a : Offset) (bytes : List Byte) : (s.store a bytes).beaconTimer = s.beaconTimer := rfl
@[simp] theorem store_mc (s : State) (a : Offset) (bytes : List Byte) : (s.store a bytes).mc = s.mc := rfl
@[simp] theorem store_wake (s : State) (a : Offset) (bytes : List Byte) : (s.store a bytes).wake = s.wake := rfl
@[simp] theorem store_notice (s : State) (a : Offset) (bytes : List Byte) : (s.store a bytes).notice = s.notice := rfl
@[simp] theorem store_port (s : State) (a : Offset) (bytes : List Byte) : (s.store a bytes).port = s.port := rfl
@[simp] theorem store_resetLow (s : State) (a : Offset) (bytes : List Byte) : (s.store a bytes).resetLow = s.resetLow := rfl
@[simp] theorem store_clock (s : State) (a : Offset) (bytes : List Byte) : (s.store a bytes).clock = s.clock := rfl
@[simp] theorem store_pending (s : State) (a : Offset) (bytes : List Byte) : (s.store a bytes).pending = s.pending := rfl

@[simp] theorem store_cfg (s : State) (a : Offset) (bytes : List Byte) (d : ChanId) : (s.store a bytes).cfg d = s.cfg d := rfl
@[simp] theorem store_ctx (s : State) (a : Offset) (bytes : List Byte) (d : ChanId) : (s.store a bytes).ctx d = s.ctx d := rfl
@[simp] theorem store_slot (s : State) (a : Offset) (bytes : List Byte) (i' : SlotId) : (s.store a bytes).slot i' = s.slot i' := rfl
@[simp] theorem store_entry (s : State) (a : Offset) (bytes : List Byte) (a' : Station) : (s.store a bytes).entry a' = s.entry a' := rfl

@[simp] theorem modCtx_station (s : State) (c : ChanId) (f : Context → Context) : (s.modCtx c f).station = s.station := rfl
@[simp] theorem modCtx_configs (s : State) (c : ChanId) (f : Context → Context) : (s.modCtx c f).configs = s.configs := rfl
@[simp] theorem modCtx_contexts (s : State) (c : ChanId) (f : Context → Context) : (s.modCtx c f).contexts = s.contexts.set c (f (s.ctx c)) := rfl
@[simp] theorem modCtx_slots (s : State) (c : ChanId) (f : Context → Context) : (s.modCtx c f).slots = s.slots := rfl
@[simp] theorem modCtx_ram (s : State) (c : ChanId) (f : Context → Context) : (s.modCtx c f).ram = s.ram := rfl
@[simp] theorem modCtx_line (s : State) (c : ChanId) (f : Context → Context) : (s.modCtx c f).line = s.line := rfl
@[simp] theorem modCtx_arb (s : State) (c : ChanId) (f : Context → Context) : (s.modCtx c f).arb = s.arb := rfl
@[simp] theorem modCtx_presence (s : State) (c : ChanId) (f : Context → Context) : (s.modCtx c f).presence = s.presence := rfl
@[simp] theorem modCtx_beaconTimer (s : State) (c : ChanId) (f : Context → Context) : (s.modCtx c f).beaconTimer = s.beaconTimer := rfl
@[simp] theorem modCtx_mc (s : State) (c : ChanId) (f : Context → Context) : (s.modCtx c f).mc = s.mc := rfl
@[simp] theorem modCtx_wake (s : State) (c : ChanId) (f : Context → Context) : (s.modCtx c f).wake = s.wake := rfl
@[simp] theorem modCtx_notice (s : State) (c : ChanId) (f : Context → Context) : (s.modCtx c f).notice = s.notice := rfl
@[simp] theorem modCtx_port (s : State) (c : ChanId) (f : Context → Context) : (s.modCtx c f).port = s.port := rfl
@[simp] theorem modCtx_resetLow (s : State) (c : ChanId) (f : Context → Context) : (s.modCtx c f).resetLow = s.resetLow := rfl
@[simp] theorem modCtx_clock (s : State) (c : ChanId) (f : Context → Context) : (s.modCtx c f).clock = s.clock := rfl
@[simp] theorem modCtx_pending (s : State) (c : ChanId) (f : Context → Context) : (s.modCtx c f).pending = s.pending := rfl

@[simp] theorem modCtx_cfg (s : State) (c : ChanId) (f : Context → Context) (d : ChanId) : (s.modCtx c f).cfg d = s.cfg d := rfl
@[simp] theorem modCtx_slot (s : State) (c : ChanId) (f : Context → Context) (i' : SlotId) : (s.modCtx c f).slot i' = s.slot i' := rfl
@[simp] theorem modCtx_entry (s : State) (c : ChanId) (f : Context → Context) (a' : Station) : (s.modCtx c f).entry a' = s.entry a' := rfl

@[simp] theorem modSlot_station (s : State) (i : SlotId) (f : Slot → Slot) : (s.modSlot i f).station = s.station := rfl
@[simp] theorem modSlot_configs (s : State) (i : SlotId) (f : Slot → Slot) : (s.modSlot i f).configs = s.configs := rfl
@[simp] theorem modSlot_contexts (s : State) (i : SlotId) (f : Slot → Slot) : (s.modSlot i f).contexts = s.contexts := rfl
@[simp] theorem modSlot_slots (s : State) (i : SlotId) (f : Slot → Slot) : (s.modSlot i f).slots = s.slots.set i (f (s.slot i)) := rfl
@[simp] theorem modSlot_ram (s : State) (i : SlotId) (f : Slot → Slot) : (s.modSlot i f).ram = s.ram := rfl
@[simp] theorem modSlot_line (s : State) (i : SlotId) (f : Slot → Slot) : (s.modSlot i f).line = s.line := rfl
@[simp] theorem modSlot_arb (s : State) (i : SlotId) (f : Slot → Slot) : (s.modSlot i f).arb = s.arb := rfl
@[simp] theorem modSlot_presence (s : State) (i : SlotId) (f : Slot → Slot) : (s.modSlot i f).presence = s.presence := rfl
@[simp] theorem modSlot_beaconTimer (s : State) (i : SlotId) (f : Slot → Slot) : (s.modSlot i f).beaconTimer = s.beaconTimer := rfl
@[simp] theorem modSlot_mc (s : State) (i : SlotId) (f : Slot → Slot) : (s.modSlot i f).mc = s.mc := rfl
@[simp] theorem modSlot_wake (s : State) (i : SlotId) (f : Slot → Slot) : (s.modSlot i f).wake = s.wake := rfl
@[simp] theorem modSlot_notice (s : State) (i : SlotId) (f : Slot → Slot) : (s.modSlot i f).notice = s.notice := rfl
@[simp] theorem modSlot_port (s : State) (i : SlotId) (f : Slot → Slot) : (s.modSlot i f).port = s.port := rfl
@[simp] theorem modSlot_resetLow (s : State) (i : SlotId) (f : Slot → Slot) : (s.modSlot i f).resetLow = s.resetLow := rfl
@[simp] theorem modSlot_clock (s : State) (i : SlotId) (f : Slot → Slot) : (s.modSlot i f).clock = s.clock := rfl
@[simp] theorem modSlot_pending (s : State) (i : SlotId) (f : Slot → Slot) : (s.modSlot i f).pending = s.pending := rfl

@[simp] theorem modSlot_cfg (s : State) (i : SlotId) (f : Slot → Slot) (d : ChanId) : (s.modSlot i f).cfg d = s.cfg d := rfl
@[simp] theorem modSlot_ctx (s : State) (i : SlotId) (f : Slot → Slot) (d : ChanId) : (s.modSlot i f).ctx d = s.ctx d := rfl
@[simp] theorem modSlot_entry (s : State) (i : SlotId) (f : Slot → Slot) (a' : Station) : (s.modSlot i f).entry a' = s.entry a' := rfl

@[simp] theorem modArb_station (s : State) (f : Arbiter → Arbiter) : (s.modArb f).station = s.station := rfl
@[simp] theorem modArb_configs (s : State) (f : Arbiter → Arbiter) : (s.modArb f).configs = s.configs := rfl
@[simp] theorem modArb_contexts (s : State) (f : Arbiter → Arbiter) : (s.modArb f).contexts = s.contexts := rfl
@[simp] theorem modArb_slots (s : State) (f : Arbiter → Arbiter) : (s.modArb f).slots = s.slots := rfl
@[simp] theorem modArb_ram (s : State) (f : Arbiter → Arbiter) : (s.modArb f).ram = s.ram := rfl
@[simp] theorem modArb_line (s : State) (f : Arbiter → Arbiter) : (s.modArb f).line = s.line := rfl
@[simp] theorem modArb_arb (s : State) (f : Arbiter → Arbiter) : (s.modArb f).arb = f s.arb := rfl
@[simp] theorem modArb_presence (s : State) (f : Arbiter → Arbiter) : (s.modArb f).presence = s.presence := rfl
@[simp] theorem modArb_beaconTimer (s : State) (f : Arbiter → Arbiter) : (s.modArb f).beaconTimer = s.beaconTimer := rfl
@[simp] theorem modArb_mc (s : State) (f : Arbiter → Arbiter) : (s.modArb f).mc = s.mc := rfl
@[simp] theorem modArb_wake (s : State) (f : Arbiter → Arbiter) : (s.modArb f).wake = s.wake := rfl
@[simp] theorem modArb_notice (s : State) (f : Arbiter → Arbiter) : (s.modArb f).notice = s.notice := rfl
@[simp] theorem modArb_port (s : State) (f : Arbiter → Arbiter) : (s.modArb f).port = s.port := rfl
@[simp] theorem modArb_resetLow (s : State) (f : Arbiter → Arbiter) : (s.modArb f).resetLow = s.resetLow := rfl
@[simp] theorem modArb_clock (s : State) (f : Arbiter → Arbiter) : (s.modArb f).clock = s.clock := rfl
@[simp] theorem modArb_pending (s : State) (f : Arbiter → Arbiter) : (s.modArb f).pending = s.pending := rfl

@[simp] theorem modArb_cfg (s : State) (f : Arbiter → Arbiter) (d : ChanId) : (s.modArb f).cfg d = s.cfg d := rfl
@[simp] theorem modArb_ctx (s : State) (f : Arbiter → Arbiter) (d : ChanId) : (s.modArb f).ctx d = s.ctx d := rfl
@[simp] theorem modArb_slot (s : State) (f : Arbiter → Arbiter) (i' : SlotId) : (s.modArb f).slot i' = s.slot i' := rfl
@[simp] theorem modArb_entry (s : State) (f : Arbiter → Arbiter) (a' : Station) : (s.modArb f).entry a' = s.entry a' := rfl

@[simp] theorem modLine_station (s : State) (f : LineRecord → LineRecord) : (s.modLine f).station = s.station := rfl
@[simp] theorem modLine_configs (s : State) (f : LineRecord → LineRecord) : (s.modLine f).configs = s.configs := rfl
@[simp] theorem modLine_contexts (s : State) (f : LineRecord → LineRecord) : (s.modLine f).contexts = s.contexts := rfl
@[simp] theorem modLine_slots (s : State) (f : LineRecord → LineRecord) : (s.modLine f).slots = s.slots := rfl
@[simp] theorem modLine_ram (s : State) (f : LineRecord → LineRecord) : (s.modLine f).ram = s.ram := rfl
@[simp] theorem modLine_line (s : State) (f : LineRecord → LineRecord) : (s.modLine f).line = f s.line := rfl
@[simp] theorem modLine_arb (s : State) (f : LineRecord → LineRecord) : (s.modLine f).arb = s.arb := rfl
@[simp] theorem modLine_presence (s : State) (f : LineRecord → LineRecord) : (s.modLine f).presence = s.presence := rfl
@[simp] theorem modLine_beaconTimer (s : State) (f : LineRecord → LineRecord) : (s.modLine f).beaconTimer = s.beaconTimer := rfl
@[simp] theorem modLine_mc (s : State) (f : LineRecord → LineRecord) : (s.modLine f).mc = s.mc := rfl
@[simp] theorem modLine_wake (s : State) (f : LineRecord → LineRecord) : (s.modLine f).wake = s.wake := rfl
@[simp] theorem modLine_notice (s : State) (f : LineRecord → LineRecord) : (s.modLine f).notice = s.notice := rfl
@[simp] theorem modLine_port (s : State) (f : LineRecord → LineRecord) : (s.modLine f).port = s.port := rfl
@[simp] theorem modLine_resetLow (s : State) (f : LineRecord → LineRecord) : (s.modLine f).resetLow = s.resetLow := rfl
@[simp] theorem modLine_clock (s : State) (f : LineRecord → LineRecord) : (s.modLine f).clock = s.clock := rfl
@[simp] theorem modLine_pending (s : State) (f : LineRecord → LineRecord) : (s.modLine f).pending = s.pending := rfl

@[simp] theorem modLine_cfg (s : State) (f : LineRecord → LineRecord) (d : ChanId) : (s.modLine f).cfg d = s.cfg d := rfl
@[simp] theorem modLine_ctx (s : State) (f : LineRecord → LineRecord) (d : ChanId) : (s.modLine f).ctx d = s.ctx d := rfl
@[simp] theorem modLine_slot (s : State) (f : LineRecord → LineRecord) (i' : SlotId) : (s.modLine f).slot i' = s.slot i' := rfl
@[simp] theorem modLine_entry (s : State) (f : LineRecord → LineRecord) (a' : Station) : (s.modLine f).entry a' = s.entry a' := rfl

@[simp] theorem modMc_station (s : State) (f : ModeController → ModeController) : (s.modMc f).station = s.station := rfl
@[simp] theorem modMc_configs (s : State) (f : ModeController → ModeController) : (s.modMc f).configs = s.configs := rfl
@[simp] theorem modMc_contexts (s : State) (f : ModeController → ModeController) : (s.modMc f).contexts = s.contexts := rfl
@[simp] theorem modMc_slots (s : State) (f : ModeController → ModeController) : (s.modMc f).slots = s.slots := rfl
@[simp] theorem modMc_ram (s : State) (f : ModeController → ModeController) : (s.modMc f).ram = s.ram := rfl
@[simp] theorem modMc_line (s : State) (f : ModeController → ModeController) : (s.modMc f).line = s.line := rfl
@[simp] theorem modMc_arb (s : State) (f : ModeController → ModeController) : (s.modMc f).arb = s.arb := rfl
@[simp] theorem modMc_presence (s : State) (f : ModeController → ModeController) : (s.modMc f).presence = s.presence := rfl
@[simp] theorem modMc_beaconTimer (s : State) (f : ModeController → ModeController) : (s.modMc f).beaconTimer = s.beaconTimer := rfl
@[simp] theorem modMc_mc (s : State) (f : ModeController → ModeController) : (s.modMc f).mc = f s.mc := rfl
@[simp] theorem modMc_wake (s : State) (f : ModeController → ModeController) : (s.modMc f).wake = s.wake := rfl
@[simp] theorem modMc_notice (s : State) (f : ModeController → ModeController) : (s.modMc f).notice = s.notice := rfl
@[simp] theorem modMc_port (s : State) (f : ModeController → ModeController) : (s.modMc f).port = s.port := rfl
@[simp] theorem modMc_resetLow (s : State) (f : ModeController → ModeController) : (s.modMc f).resetLow = s.resetLow := rfl
@[simp] theorem modMc_clock (s : State) (f : ModeController → ModeController) : (s.modMc f).clock = s.clock := rfl
@[simp] theorem modMc_pending (s : State) (f : ModeController → ModeController) : (s.modMc f).pending = s.pending := rfl

@[simp] theorem modMc_cfg (s : State) (f : ModeController → ModeController) (d : ChanId) : (s.modMc f).cfg d = s.cfg d := rfl
@[simp] theorem modMc_ctx (s : State) (f : ModeController → ModeController) (d : ChanId) : (s.modMc f).ctx d = s.ctx d := rfl
@[simp] theorem modMc_slot (s : State) (f : ModeController → ModeController) (i' : SlotId) : (s.modMc f).slot i' = s.slot i' := rfl
@[simp] theorem modMc_entry (s : State) (f : ModeController → ModeController) (a' : Station) : (s.modMc f).entry a' = s.entry a' := rfl

@[simp] theorem modNotice_station (s : State) (f : NoticeUnit → NoticeUnit) : (s.modNotice f).station = s.station := rfl
@[simp] theorem modNotice_configs (s : State) (f : NoticeUnit → NoticeUnit) : (s.modNotice f).configs = s.configs := rfl
@[simp] theorem modNotice_contexts (s : State) (f : NoticeUnit → NoticeUnit) : (s.modNotice f).contexts = s.contexts := rfl
@[simp] theorem modNotice_slots (s : State) (f : NoticeUnit → NoticeUnit) : (s.modNotice f).slots = s.slots := rfl
@[simp] theorem modNotice_ram (s : State) (f : NoticeUnit → NoticeUnit) : (s.modNotice f).ram = s.ram := rfl
@[simp] theorem modNotice_line (s : State) (f : NoticeUnit → NoticeUnit) : (s.modNotice f).line = s.line := rfl
@[simp] theorem modNotice_arb (s : State) (f : NoticeUnit → NoticeUnit) : (s.modNotice f).arb = s.arb := rfl
@[simp] theorem modNotice_presence (s : State) (f : NoticeUnit → NoticeUnit) : (s.modNotice f).presence = s.presence := rfl
@[simp] theorem modNotice_beaconTimer (s : State) (f : NoticeUnit → NoticeUnit) : (s.modNotice f).beaconTimer = s.beaconTimer := rfl
@[simp] theorem modNotice_mc (s : State) (f : NoticeUnit → NoticeUnit) : (s.modNotice f).mc = s.mc := rfl
@[simp] theorem modNotice_wake (s : State) (f : NoticeUnit → NoticeUnit) : (s.modNotice f).wake = s.wake := rfl
@[simp] theorem modNotice_notice (s : State) (f : NoticeUnit → NoticeUnit) : (s.modNotice f).notice = f s.notice := rfl
@[simp] theorem modNotice_port (s : State) (f : NoticeUnit → NoticeUnit) : (s.modNotice f).port = s.port := rfl
@[simp] theorem modNotice_resetLow (s : State) (f : NoticeUnit → NoticeUnit) : (s.modNotice f).resetLow = s.resetLow := rfl
@[simp] theorem modNotice_clock (s : State) (f : NoticeUnit → NoticeUnit) : (s.modNotice f).clock = s.clock := rfl
@[simp] theorem modNotice_pending (s : State) (f : NoticeUnit → NoticeUnit) : (s.modNotice f).pending = s.pending := rfl

@[simp] theorem modNotice_cfg (s : State) (f : NoticeUnit → NoticeUnit) (d : ChanId) : (s.modNotice f).cfg d = s.cfg d := rfl
@[simp] theorem modNotice_ctx (s : State) (f : NoticeUnit → NoticeUnit) (d : ChanId) : (s.modNotice f).ctx d = s.ctx d := rfl
@[simp] theorem modNotice_slot (s : State) (f : NoticeUnit → NoticeUnit) (i' : SlotId) : (s.modNotice f).slot i' = s.slot i' := rfl
@[simp] theorem modNotice_entry (s : State) (f : NoticeUnit → NoticeUnit) (a' : Station) : (s.modNotice f).entry a' = s.entry a' := rfl

@[simp] theorem modPort_station (s : State) (f : HostPort → HostPort) : (s.modPort f).station = s.station := rfl
@[simp] theorem modPort_configs (s : State) (f : HostPort → HostPort) : (s.modPort f).configs = s.configs := rfl
@[simp] theorem modPort_contexts (s : State) (f : HostPort → HostPort) : (s.modPort f).contexts = s.contexts := rfl
@[simp] theorem modPort_slots (s : State) (f : HostPort → HostPort) : (s.modPort f).slots = s.slots := rfl
@[simp] theorem modPort_ram (s : State) (f : HostPort → HostPort) : (s.modPort f).ram = s.ram := rfl
@[simp] theorem modPort_line (s : State) (f : HostPort → HostPort) : (s.modPort f).line = s.line := rfl
@[simp] theorem modPort_arb (s : State) (f : HostPort → HostPort) : (s.modPort f).arb = s.arb := rfl
@[simp] theorem modPort_presence (s : State) (f : HostPort → HostPort) : (s.modPort f).presence = s.presence := rfl
@[simp] theorem modPort_beaconTimer (s : State) (f : HostPort → HostPort) : (s.modPort f).beaconTimer = s.beaconTimer := rfl
@[simp] theorem modPort_mc (s : State) (f : HostPort → HostPort) : (s.modPort f).mc = s.mc := rfl
@[simp] theorem modPort_wake (s : State) (f : HostPort → HostPort) : (s.modPort f).wake = s.wake := rfl
@[simp] theorem modPort_notice (s : State) (f : HostPort → HostPort) : (s.modPort f).notice = s.notice := rfl
@[simp] theorem modPort_port (s : State) (f : HostPort → HostPort) : (s.modPort f).port = f s.port := rfl
@[simp] theorem modPort_resetLow (s : State) (f : HostPort → HostPort) : (s.modPort f).resetLow = s.resetLow := rfl
@[simp] theorem modPort_clock (s : State) (f : HostPort → HostPort) : (s.modPort f).clock = s.clock := rfl
@[simp] theorem modPort_pending (s : State) (f : HostPort → HostPort) : (s.modPort f).pending = s.pending := rfl

@[simp] theorem modPort_cfg (s : State) (f : HostPort → HostPort) (d : ChanId) : (s.modPort f).cfg d = s.cfg d := rfl
@[simp] theorem modPort_ctx (s : State) (f : HostPort → HostPort) (d : ChanId) : (s.modPort f).ctx d = s.ctx d := rfl
@[simp] theorem modPort_slot (s : State) (f : HostPort → HostPort) (i' : SlotId) : (s.modPort f).slot i' = s.slot i' := rfl
@[simp] theorem modPort_entry (s : State) (f : HostPort → HostPort) (a' : Station) : (s.modPort f).entry a' = s.entry a' := rfl

@[simp] theorem setTransfer_station (s : State) (x : Transfer) : (s.setTransfer x).station = s.station := rfl
@[simp] theorem setTransfer_configs (s : State) (x : Transfer) : (s.setTransfer x).configs = s.configs := rfl
@[simp] theorem setTransfer_contexts (s : State) (x : Transfer) : (s.setTransfer x).contexts = s.contexts := rfl
@[simp] theorem setTransfer_slots (s : State) (x : Transfer) : (s.setTransfer x).slots = s.slots := rfl
@[simp] theorem setTransfer_ram (s : State) (x : Transfer) : (s.setTransfer x).ram = s.ram := rfl
@[simp] theorem setTransfer_line (s : State) (x : Transfer) : (s.setTransfer x).line = s.line := rfl
@[simp] theorem setTransfer_arb (s : State) (x : Transfer) : (s.setTransfer x).arb = s.arb := rfl
@[simp] theorem setTransfer_presence (s : State) (x : Transfer) : (s.setTransfer x).presence = s.presence := rfl
@[simp] theorem setTransfer_beaconTimer (s : State) (x : Transfer) : (s.setTransfer x).beaconTimer = s.beaconTimer := rfl
@[simp] theorem setTransfer_mc (s : State) (x : Transfer) : (s.setTransfer x).mc = s.mc := rfl
@[simp] theorem setTransfer_wake (s : State) (x : Transfer) : (s.setTransfer x).wake = s.wake := rfl
@[simp] theorem setTransfer_notice (s : State) (x : Transfer) : (s.setTransfer x).notice = s.notice := rfl
@[simp] theorem setTransfer_port (s : State) (x : Transfer) : (s.setTransfer x).port = { s.port with transfer := x } := rfl
@[simp] theorem setTransfer_resetLow (s : State) (x : Transfer) : (s.setTransfer x).resetLow = s.resetLow := rfl
@[simp] theorem setTransfer_clock (s : State) (x : Transfer) : (s.setTransfer x).clock = s.clock := rfl
@[simp] theorem setTransfer_pending (s : State) (x : Transfer) : (s.setTransfer x).pending = s.pending := rfl

@[simp] theorem setTransfer_cfg (s : State) (x : Transfer) (d : ChanId) : (s.setTransfer x).cfg d = s.cfg d := rfl
@[simp] theorem setTransfer_ctx (s : State) (x : Transfer) (d : ChanId) : (s.setTransfer x).ctx d = s.ctx d := rfl
@[simp] theorem setTransfer_slot (s : State) (x : Transfer) (i' : SlotId) : (s.setTransfer x).slot i' = s.slot i' := rfl
@[simp] theorem setTransfer_entry (s : State) (x : Transfer) (a' : Station) : (s.setTransfer x).entry a' = s.entry a' := rfl

@[simp] theorem portAccess_station (s : State) : (s.portAccess).station = s.station := rfl
@[simp] theorem portAccess_configs (s : State) : (s.portAccess).configs = s.configs := rfl
@[simp] theorem portAccess_contexts (s : State) : (s.portAccess).contexts = s.contexts := rfl
@[simp] theorem portAccess_slots (s : State) : (s.portAccess).slots = s.slots := rfl
@[simp] theorem portAccess_ram (s : State) : (s.portAccess).ram = s.ram := rfl
@[simp] theorem portAccess_line (s : State) : (s.portAccess).line = s.line := rfl
@[simp] theorem portAccess_arb (s : State) : (s.portAccess).arb = s.arb := rfl
@[simp] theorem portAccess_presence (s : State) : (s.portAccess).presence = s.presence := rfl
@[simp] theorem portAccess_beaconTimer (s : State) : (s.portAccess).beaconTimer = s.beaconTimer := rfl
@[simp] theorem portAccess_mc (s : State) : (s.portAccess).mc = s.mc := rfl
@[simp] theorem portAccess_wake (s : State) : (s.portAccess).wake = s.wake := rfl
@[simp] theorem portAccess_notice (s : State) : (s.portAccess).notice = s.notice := rfl
@[simp] theorem portAccess_port (s : State) : (s.portAccess).port = { s.port with controlTaken := false, nowRefused := s.port.nowRefused && !s.port.controlTaken, transfer := .running } := rfl
@[simp] theorem portAccess_resetLow (s : State) : (s.portAccess).resetLow = s.resetLow := rfl
@[simp] theorem portAccess_clock (s : State) : (s.portAccess).clock = s.clock := rfl
@[simp] theorem portAccess_pending (s : State) : (s.portAccess).pending = s.pending := rfl

@[simp] theorem portAccess_cfg (s : State) (d : ChanId) : (s.portAccess).cfg d = s.cfg d := rfl
@[simp] theorem portAccess_ctx (s : State) (d : ChanId) : (s.portAccess).ctx d = s.ctx d := rfl
@[simp] theorem portAccess_slot (s : State) (i' : SlotId) : (s.portAccess).slot i' = s.slot i' := rfl
@[simp] theorem portAccess_entry (s : State) (a' : Station) : (s.portAccess).entry a' = s.entry a' := rfl

@[simp] theorem modClock_station (s : State) (f : BitClock → BitClock) : (s.modClock f).station = s.station := rfl
@[simp] theorem modClock_configs (s : State) (f : BitClock → BitClock) : (s.modClock f).configs = s.configs := rfl
@[simp] theorem modClock_contexts (s : State) (f : BitClock → BitClock) : (s.modClock f).contexts = s.contexts := rfl
@[simp] theorem modClock_slots (s : State) (f : BitClock → BitClock) : (s.modClock f).slots = s.slots := rfl
@[simp] theorem modClock_ram (s : State) (f : BitClock → BitClock) : (s.modClock f).ram = s.ram := rfl
@[simp] theorem modClock_line (s : State) (f : BitClock → BitClock) : (s.modClock f).line = s.line := rfl
@[simp] theorem modClock_arb (s : State) (f : BitClock → BitClock) : (s.modClock f).arb = s.arb := rfl
@[simp] theorem modClock_presence (s : State) (f : BitClock → BitClock) : (s.modClock f).presence = s.presence := rfl
@[simp] theorem modClock_beaconTimer (s : State) (f : BitClock → BitClock) : (s.modClock f).beaconTimer = s.beaconTimer := rfl
@[simp] theorem modClock_mc (s : State) (f : BitClock → BitClock) : (s.modClock f).mc = s.mc := rfl
@[simp] theorem modClock_wake (s : State) (f : BitClock → BitClock) : (s.modClock f).wake = s.wake := rfl
@[simp] theorem modClock_notice (s : State) (f : BitClock → BitClock) : (s.modClock f).notice = s.notice := rfl
@[simp] theorem modClock_port (s : State) (f : BitClock → BitClock) : (s.modClock f).port = s.port := rfl
@[simp] theorem modClock_resetLow (s : State) (f : BitClock → BitClock) : (s.modClock f).resetLow = s.resetLow := rfl
@[simp] theorem modClock_clock (s : State) (f : BitClock → BitClock) : (s.modClock f).clock = f s.clock := rfl
@[simp] theorem modClock_pending (s : State) (f : BitClock → BitClock) : (s.modClock f).pending = s.pending := rfl

@[simp] theorem modClock_cfg (s : State) (f : BitClock → BitClock) (d : ChanId) : (s.modClock f).cfg d = s.cfg d := rfl
@[simp] theorem modClock_ctx (s : State) (f : BitClock → BitClock) (d : ChanId) : (s.modClock f).ctx d = s.ctx d := rfl
@[simp] theorem modClock_slot (s : State) (f : BitClock → BitClock) (i' : SlotId) : (s.modClock f).slot i' = s.slot i' := rfl
@[simp] theorem modClock_entry (s : State) (f : BitClock → BitClock) (a' : Station) : (s.modClock f).entry a' = s.entry a' := rfl

@[simp] theorem refuse_station (s : State) (code : RefusalCode) (k : Option ChanId) : (s.refuse code k).station = s.station := rfl
@[simp] theorem refuse_configs (s : State) (code : RefusalCode) (k : Option ChanId) : (s.refuse code k).configs = s.configs := rfl
@[simp] theorem refuse_contexts (s : State) (code : RefusalCode) (k : Option ChanId) : (s.refuse code k).contexts = s.contexts := rfl
@[simp] theorem refuse_slots (s : State) (code : RefusalCode) (k : Option ChanId) : (s.refuse code k).slots = s.slots := rfl
@[simp] theorem refuse_ram (s : State) (code : RefusalCode) (k : Option ChanId) : (s.refuse code k).ram = s.ram := rfl
@[simp] theorem refuse_line (s : State) (code : RefusalCode) (k : Option ChanId) : (s.refuse code k).line = s.line := rfl
@[simp] theorem refuse_arb (s : State) (code : RefusalCode) (k : Option ChanId) : (s.refuse code k).arb = s.arb := rfl
@[simp] theorem refuse_presence (s : State) (code : RefusalCode) (k : Option ChanId) : (s.refuse code k).presence = s.presence := rfl
@[simp] theorem refuse_beaconTimer (s : State) (code : RefusalCode) (k : Option ChanId) : (s.refuse code k).beaconTimer = s.beaconTimer := rfl
@[simp] theorem refuse_mc (s : State) (code : RefusalCode) (k : Option ChanId) : (s.refuse code k).mc = s.mc := rfl
@[simp] theorem refuse_wake (s : State) (code : RefusalCode) (k : Option ChanId) : (s.refuse code k).wake = s.wake := rfl
@[simp] theorem refuse_notice (s : State) (code : RefusalCode) (k : Option ChanId) : (s.refuse code k).notice = { s.notice with station := { s.notice.station with refused := true } } := rfl
@[simp] theorem refuse_port (s : State) (code : RefusalCode) (k : Option ChanId) : (s.refuse code k).port = { s.port with code := code, channel := k, nowRefused := true } := rfl
@[simp] theorem refuse_resetLow (s : State) (code : RefusalCode) (k : Option ChanId) : (s.refuse code k).resetLow = s.resetLow := rfl
@[simp] theorem refuse_clock (s : State) (code : RefusalCode) (k : Option ChanId) : (s.refuse code k).clock = s.clock := rfl
@[simp] theorem refuse_pending (s : State) (code : RefusalCode) (k : Option ChanId) : (s.refuse code k).pending = s.pending := rfl

@[simp] theorem refuse_cfg (s : State) (code : RefusalCode) (k : Option ChanId) (d : ChanId) : (s.refuse code k).cfg d = s.cfg d := rfl
@[simp] theorem refuse_ctx (s : State) (code : RefusalCode) (k : Option ChanId) (d : ChanId) : (s.refuse code k).ctx d = s.ctx d := rfl
@[simp] theorem refuse_slot (s : State) (code : RefusalCode) (k : Option ChanId) (i' : SlotId) : (s.refuse code k).slot i' = s.slot i' := rfl
@[simp] theorem refuse_entry (s : State) (code : RefusalCode) (k : Option ChanId) (a' : Station) : (s.refuse code k).entry a' = s.entry a' := rfl

@[simp] theorem withEntries_station (s : State) (new : Table 31 Entry) : (s.withEntries new).station = s.station := rfl
@[simp] theorem withEntries_configs (s : State) (new : Table 31 Entry) : (s.withEntries new).configs = s.configs := rfl
@[simp] theorem withEntries_contexts (s : State) (new : Table 31 Entry) : (s.withEntries new).contexts = s.contexts := rfl
@[simp] theorem withEntries_slots (s : State) (new : Table 31 Entry) : (s.withEntries new).slots = s.slots := rfl
@[simp] theorem withEntries_ram (s : State) (new : Table 31 Entry) : (s.withEntries new).ram = s.ram := rfl
@[simp] theorem withEntries_line (s : State) (new : Table 31 Entry) : (s.withEntries new).line = s.line := rfl
@[simp] theorem withEntries_arb (s : State) (new : Table 31 Entry) : (s.withEntries new).arb = s.arb := rfl
@[simp] theorem withEntries_presence (s : State) (new : Table 31 Entry) : (s.withEntries new).presence = { s.presence with entries := new } := rfl
@[simp] theorem withEntries_beaconTimer (s : State) (new : Table 31 Entry) : (s.withEntries new).beaconTimer = s.beaconTimer := rfl
@[simp] theorem withEntries_mc (s : State) (new : Table 31 Entry) : (s.withEntries new).mc = s.mc := rfl
@[simp] theorem withEntries_wake (s : State) (new : Table 31 Entry) : (s.withEntries new).wake = s.wake := rfl
@[simp] theorem withEntries_notice (s : State) (new : Table 31 Entry) : (s.withEntries new).notice = s.notice.mark s.presence.entries new := rfl
@[simp] theorem withEntries_port (s : State) (new : Table 31 Entry) : (s.withEntries new).port = s.port := rfl
@[simp] theorem withEntries_resetLow (s : State) (new : Table 31 Entry) : (s.withEntries new).resetLow = s.resetLow := rfl
@[simp] theorem withEntries_clock (s : State) (new : Table 31 Entry) : (s.withEntries new).clock = s.clock := rfl
@[simp] theorem withEntries_pending (s : State) (new : Table 31 Entry) : (s.withEntries new).pending = s.pending := rfl

@[simp] theorem withEntries_cfg (s : State) (new : Table 31 Entry) (d : ChanId) : (s.withEntries new).cfg d = s.cfg d := rfl
@[simp] theorem withEntries_ctx (s : State) (new : Table 31 Entry) (d : ChanId) : (s.withEntries new).ctx d = s.ctx d := rfl
@[simp] theorem withEntries_slot (s : State) (new : Table 31 Entry) (i' : SlotId) : (s.withEntries new).slot i' = s.slot i' := rfl

@[simp] theorem look_station (s : State) (c : ChanId) : (s.look c).station = s.station := rfl
@[simp] theorem look_configs (s : State) (c : ChanId) : (s.look c).configs = s.configs := rfl
@[simp] theorem look_contexts (s : State) (c : ChanId) : (s.look c).contexts = s.contexts := rfl
@[simp] theorem look_slots (s : State) (c : ChanId) : (s.look c).slots = s.slots := rfl
@[simp] theorem look_ram (s : State) (c : ChanId) : (s.look c).ram = s.ram := rfl
@[simp] theorem look_line (s : State) (c : ChanId) : (s.look c).line = s.line := rfl
@[simp] theorem look_arb (s : State) (c : ChanId) : (s.look c).arb = { s.arb with offers := s.arb.offers.set c (s.mayOffer c), wakeRequest := s.arb.wakeRequest || s.wantsWake c } := rfl
@[simp] theorem look_presence (s : State) (c : ChanId) : (s.look c).presence = s.presence := rfl
@[simp] theorem look_beaconTimer (s : State) (c : ChanId) : (s.look c).beaconTimer = s.beaconTimer := rfl
@[simp] theorem look_mc (s : State) (c : ChanId) : (s.look c).mc = s.mc := rfl
@[simp] theorem look_wake (s : State) (c : ChanId) : (s.look c).wake = s.wake := rfl
@[simp] theorem look_notice (s : State) (c : ChanId) : (s.look c).notice = s.notice := rfl
@[simp] theorem look_port (s : State) (c : ChanId) : (s.look c).port = s.port := rfl
@[simp] theorem look_resetLow (s : State) (c : ChanId) : (s.look c).resetLow = s.resetLow := rfl
@[simp] theorem look_clock (s : State) (c : ChanId) : (s.look c).clock = s.clock := rfl
@[simp] theorem look_pending (s : State) (c : ChanId) : (s.look c).pending = s.pending := rfl

@[simp] theorem look_cfg (s : State) (c : ChanId) (d : ChanId) : (s.look c).cfg d = s.cfg d := rfl
@[simp] theorem look_ctx (s : State) (c : ChanId) (d : ChanId) : (s.look c).ctx d = s.ctx d := rfl
@[simp] theorem look_slot (s : State) (c : ChanId) (i' : SlotId) : (s.look c).slot i' = s.slot i' := rfl
@[simp] theorem look_entry (s : State) (c : ChanId) (a' : Station) : (s.look c).entry a' = s.entry a' := rfl

@[simp] theorem raiseMode_station (s : State) : (s.raiseMode).station = s.station := rfl
@[simp] theorem raiseMode_configs (s : State) : (s.raiseMode).configs = s.configs := rfl
@[simp] theorem raiseMode_contexts (s : State) : (s.raiseMode).contexts = s.contexts := rfl
@[simp] theorem raiseMode_slots (s : State) : (s.raiseMode).slots = s.slots := rfl
@[simp] theorem raiseMode_ram (s : State) : (s.raiseMode).ram = s.ram := rfl
@[simp] theorem raiseMode_line (s : State) : (s.raiseMode).line = s.line := rfl
@[simp] theorem raiseMode_arb (s : State) : (s.raiseMode).arb = s.arb := rfl
@[simp] theorem raiseMode_presence (s : State) : (s.raiseMode).presence = s.presence := rfl
@[simp] theorem raiseMode_beaconTimer (s : State) : (s.raiseMode).beaconTimer = s.beaconTimer := rfl
@[simp] theorem raiseMode_mc (s : State) : (s.raiseMode).mc = s.mc := rfl
@[simp] theorem raiseMode_wake (s : State) : (s.raiseMode).wake = s.wake := rfl
@[simp] theorem raiseMode_notice (s : State) : (s.raiseMode).notice = { s.notice with station := { s.notice.station with mode := true } } := rfl
@[simp] theorem raiseMode_port (s : State) : (s.raiseMode).port = s.port := rfl
@[simp] theorem raiseMode_resetLow (s : State) : (s.raiseMode).resetLow = s.resetLow := rfl
@[simp] theorem raiseMode_clock (s : State) : (s.raiseMode).clock = s.clock := rfl
@[simp] theorem raiseMode_pending (s : State) : (s.raiseMode).pending = s.pending := rfl

@[simp] theorem raiseMode_cfg (s : State) (d : ChanId) : (s.raiseMode).cfg d = s.cfg d := rfl
@[simp] theorem raiseMode_ctx (s : State) (d : ChanId) : (s.raiseMode).ctx d = s.ctx d := rfl
@[simp] theorem raiseMode_slot (s : State) (i' : SlotId) : (s.raiseMode).slot i' = s.slot i' := rfl
@[simp] theorem raiseMode_entry (s : State) (a' : Station) : (s.raiseMode).entry a' = s.entry a' := rfl

@[simp] theorem raiseWarn_station (s : State) : (s.raiseWarn).station = s.station := rfl
@[simp] theorem raiseWarn_configs (s : State) : (s.raiseWarn).configs = s.configs := rfl
@[simp] theorem raiseWarn_contexts (s : State) : (s.raiseWarn).contexts = s.contexts := rfl
@[simp] theorem raiseWarn_slots (s : State) : (s.raiseWarn).slots = s.slots := rfl
@[simp] theorem raiseWarn_ram (s : State) : (s.raiseWarn).ram = s.ram := rfl
@[simp] theorem raiseWarn_line (s : State) : (s.raiseWarn).line = s.line := rfl
@[simp] theorem raiseWarn_arb (s : State) : (s.raiseWarn).arb = s.arb := rfl
@[simp] theorem raiseWarn_presence (s : State) : (s.raiseWarn).presence = s.presence := rfl
@[simp] theorem raiseWarn_beaconTimer (s : State) : (s.raiseWarn).beaconTimer = s.beaconTimer := rfl
@[simp] theorem raiseWarn_mc (s : State) : (s.raiseWarn).mc = s.mc := rfl
@[simp] theorem raiseWarn_wake (s : State) : (s.raiseWarn).wake = s.wake := rfl
@[simp] theorem raiseWarn_notice (s : State) : (s.raiseWarn).notice = { s.notice with station := { s.notice.station with warn := true } } := rfl
@[simp] theorem raiseWarn_port (s : State) : (s.raiseWarn).port = s.port := rfl
@[simp] theorem raiseWarn_resetLow (s : State) : (s.raiseWarn).resetLow = s.resetLow := rfl
@[simp] theorem raiseWarn_clock (s : State) : (s.raiseWarn).clock = s.clock := rfl
@[simp] theorem raiseWarn_pending (s : State) : (s.raiseWarn).pending = s.pending := rfl

@[simp] theorem raiseWarn_cfg (s : State) (d : ChanId) : (s.raiseWarn).cfg d = s.cfg d := rfl
@[simp] theorem raiseWarn_ctx (s : State) (d : ChanId) : (s.raiseWarn).ctx d = s.ctx d := rfl
@[simp] theorem raiseWarn_slot (s : State) (i' : SlotId) : (s.raiseWarn).slot i' = s.slot i' := rfl
@[simp] theorem raiseWarn_entry (s : State) (a' : Station) : (s.raiseWarn).entry a' = s.entry a' := rfl

@[simp] theorem modChanFlags_station (s : State) (c : ChanId) (f : ChanFlags → ChanFlags) : (s.modChanFlags c f).station = s.station := rfl
@[simp] theorem modChanFlags_configs (s : State) (c : ChanId) (f : ChanFlags → ChanFlags) : (s.modChanFlags c f).configs = s.configs := rfl
@[simp] theorem modChanFlags_contexts (s : State) (c : ChanId) (f : ChanFlags → ChanFlags) : (s.modChanFlags c f).contexts = s.contexts := rfl
@[simp] theorem modChanFlags_slots (s : State) (c : ChanId) (f : ChanFlags → ChanFlags) : (s.modChanFlags c f).slots = s.slots := rfl
@[simp] theorem modChanFlags_ram (s : State) (c : ChanId) (f : ChanFlags → ChanFlags) : (s.modChanFlags c f).ram = s.ram := rfl
@[simp] theorem modChanFlags_line (s : State) (c : ChanId) (f : ChanFlags → ChanFlags) : (s.modChanFlags c f).line = s.line := rfl
@[simp] theorem modChanFlags_arb (s : State) (c : ChanId) (f : ChanFlags → ChanFlags) : (s.modChanFlags c f).arb = s.arb := rfl
@[simp] theorem modChanFlags_presence (s : State) (c : ChanId) (f : ChanFlags → ChanFlags) : (s.modChanFlags c f).presence = s.presence := rfl
@[simp] theorem modChanFlags_beaconTimer (s : State) (c : ChanId) (f : ChanFlags → ChanFlags) : (s.modChanFlags c f).beaconTimer = s.beaconTimer := rfl
@[simp] theorem modChanFlags_mc (s : State) (c : ChanId) (f : ChanFlags → ChanFlags) : (s.modChanFlags c f).mc = s.mc := rfl
@[simp] theorem modChanFlags_wake (s : State) (c : ChanId) (f : ChanFlags → ChanFlags) : (s.modChanFlags c f).wake = s.wake := rfl
@[simp] theorem modChanFlags_notice (s : State) (c : ChanId) (f : ChanFlags → ChanFlags) : (s.modChanFlags c f).notice = { s.notice with channels := s.notice.channels.set c (f (s.notice.channels.get c)) } := rfl
@[simp] theorem modChanFlags_port (s : State) (c : ChanId) (f : ChanFlags → ChanFlags) : (s.modChanFlags c f).port = s.port := rfl
@[simp] theorem modChanFlags_resetLow (s : State) (c : ChanId) (f : ChanFlags → ChanFlags) : (s.modChanFlags c f).resetLow = s.resetLow := rfl
@[simp] theorem modChanFlags_clock (s : State) (c : ChanId) (f : ChanFlags → ChanFlags) : (s.modChanFlags c f).clock = s.clock := rfl
@[simp] theorem modChanFlags_pending (s : State) (c : ChanId) (f : ChanFlags → ChanFlags) : (s.modChanFlags c f).pending = s.pending := rfl

@[simp] theorem modChanFlags_cfg (s : State) (c : ChanId) (f : ChanFlags → ChanFlags) (d : ChanId) : (s.modChanFlags c f).cfg d = s.cfg d := rfl
@[simp] theorem modChanFlags_ctx (s : State) (c : ChanId) (f : ChanFlags → ChanFlags) (d : ChanId) : (s.modChanFlags c f).ctx d = s.ctx d := rfl
@[simp] theorem modChanFlags_slot (s : State) (c : ChanId) (f : ChanFlags → ChanFlags) (i' : SlotId) : (s.modChanFlags c f).slot i' = s.slot i' := rfl
@[simp] theorem modChanFlags_entry (s : State) (c : ChanId) (f : ChanFlags → ChanFlags) (a' : Station) : (s.modChanFlags c f).entry a' = s.entry a' := rfl

@[simp] theorem enterHalted_station (s : State) (c : ChanId) (cause : HaltCause) : (s.enterHalted c cause).station = s.station := rfl
@[simp] theorem enterHalted_configs (s : State) (c : ChanId) (cause : HaltCause) : (s.enterHalted c cause).configs = s.configs := rfl
@[simp] theorem enterHalted_contexts (s : State) (c : ChanId) (cause : HaltCause) : (s.enterHalted c cause).contexts = s.contexts.set c { s.ctx c with state := .halted, haltCause := cause, backoff := none, pacing := none, haltReq := false } := rfl
@[simp] theorem enterHalted_slots (s : State) (c : ChanId) (cause : HaltCause) : (s.enterHalted c cause).slots = s.slots := rfl
@[simp] theorem enterHalted_ram (s : State) (c : ChanId) (cause : HaltCause) : (s.enterHalted c cause).ram = s.ram := rfl
@[simp] theorem enterHalted_line (s : State) (c : ChanId) (cause : HaltCause) : (s.enterHalted c cause).line = s.line := rfl
@[simp] theorem enterHalted_arb (s : State) (c : ChanId) (cause : HaltCause) : (s.enterHalted c cause).arb = { s.arb with offers := s.arb.offers.set c false } := rfl
@[simp] theorem enterHalted_presence (s : State) (c : ChanId) (cause : HaltCause) : (s.enterHalted c cause).presence = s.presence := rfl
@[simp] theorem enterHalted_beaconTimer (s : State) (c : ChanId) (cause : HaltCause) : (s.enterHalted c cause).beaconTimer = s.beaconTimer := rfl
@[simp] theorem enterHalted_mc (s : State) (c : ChanId) (cause : HaltCause) : (s.enterHalted c cause).mc = s.mc := rfl
@[simp] theorem enterHalted_wake (s : State) (c : ChanId) (cause : HaltCause) : (s.enterHalted c cause).wake = s.wake := rfl
@[simp] theorem enterHalted_notice (s : State) (c : ChanId) (cause : HaltCause) : (s.enterHalted c cause).notice = { s.notice with channels := s.notice.channels.set c { s.notice.channels.get c with halted := true } } := rfl
@[simp] theorem enterHalted_port (s : State) (c : ChanId) (cause : HaltCause) : (s.enterHalted c cause).port = s.port := rfl
@[simp] theorem enterHalted_resetLow (s : State) (c : ChanId) (cause : HaltCause) : (s.enterHalted c cause).resetLow = s.resetLow := rfl
@[simp] theorem enterHalted_clock (s : State) (c : ChanId) (cause : HaltCause) : (s.enterHalted c cause).clock = s.clock := rfl
@[simp] theorem enterHalted_pending (s : State) (c : ChanId) (cause : HaltCause) : (s.enterHalted c cause).pending = s.pending := rfl

@[simp] theorem enterHalted_cfg (s : State) (c : ChanId) (cause : HaltCause) (d : ChanId) : (s.enterHalted c cause).cfg d = s.cfg d := rfl
@[simp] theorem enterHalted_slot (s : State) (c : ChanId) (cause : HaltCause) (i' : SlotId) : (s.enterHalted c cause).slot i' = s.slot i' := rfl
@[simp] theorem enterHalted_entry (s : State) (c : ChanId) (cause : HaltCause) (a' : Station) : (s.enterHalted c cause).entry a' = s.entry a' := rfl

@[simp] theorem discardAcceptances_station (s : State) : (s.discardAcceptances).station = s.station := rfl
@[simp] theorem discardAcceptances_configs (s : State) : (s.discardAcceptances).configs = s.configs := rfl
@[simp] theorem discardAcceptances_contexts (s : State) : (s.discardAcceptances).contexts = s.contexts.mapIdx fun _ x => { x with acceptance := none } := rfl
@[simp] theorem discardAcceptances_slots (s : State) : (s.discardAcceptances).slots = s.slots := rfl
@[simp] theorem discardAcceptances_ram (s : State) : (s.discardAcceptances).ram = s.ram := rfl
@[simp] theorem discardAcceptances_line (s : State) : (s.discardAcceptances).line = { s.line with response := none } := rfl
@[simp] theorem discardAcceptances_arb (s : State) : (s.discardAcceptances).arb = s.arb := rfl
@[simp] theorem discardAcceptances_presence (s : State) : (s.discardAcceptances).presence = s.presence := rfl
@[simp] theorem discardAcceptances_beaconTimer (s : State) : (s.discardAcceptances).beaconTimer = s.beaconTimer := rfl
@[simp] theorem discardAcceptances_mc (s : State) : (s.discardAcceptances).mc = s.mc := rfl
@[simp] theorem discardAcceptances_wake (s : State) : (s.discardAcceptances).wake = s.wake := rfl
@[simp] theorem discardAcceptances_notice (s : State) : (s.discardAcceptances).notice = s.notice := rfl
@[simp] theorem discardAcceptances_port (s : State) : (s.discardAcceptances).port = s.port := rfl
@[simp] theorem discardAcceptances_resetLow (s : State) : (s.discardAcceptances).resetLow = s.resetLow := rfl
@[simp] theorem discardAcceptances_clock (s : State) : (s.discardAcceptances).clock = s.clock := rfl
@[simp] theorem discardAcceptances_pending (s : State) : (s.discardAcceptances).pending = s.pending := rfl

@[simp] theorem discardAcceptances_cfg (s : State) (d : ChanId) : (s.discardAcceptances).cfg d = s.cfg d := rfl
@[simp] theorem discardAcceptances_slot (s : State) (i' : SlotId) : (s.discardAcceptances).slot i' = s.slot i' := rfl
@[simp] theorem discardAcceptances_entry (s : State) (a' : Station) : (s.discardAcceptances).entry a' = s.entry a' := rfl

@[simp] theorem stopBeacon_station (s : State) : (s.stopBeacon).station = s.station := rfl
@[simp] theorem stopBeacon_configs (s : State) : (s.stopBeacon).configs = s.configs := rfl
@[simp] theorem stopBeacon_contexts (s : State) : (s.stopBeacon).contexts = s.contexts := rfl
@[simp] theorem stopBeacon_slots (s : State) : (s.stopBeacon).slots = s.slots := rfl
@[simp] theorem stopBeacon_ram (s : State) : (s.stopBeacon).ram = s.ram := rfl
@[simp] theorem stopBeacon_line (s : State) : (s.stopBeacon).line = s.line := rfl
@[simp] theorem stopBeacon_arb (s : State) : (s.stopBeacon).arb = { s.arb with beaconOffer := false } := rfl
@[simp] theorem stopBeacon_presence (s : State) : (s.stopBeacon).presence = s.presence := rfl
@[simp] theorem stopBeacon_beaconTimer (s : State) : (s.stopBeacon).beaconTimer = none := rfl
@[simp] theorem stopBeacon_mc (s : State) : (s.stopBeacon).mc = s.mc := rfl
@[simp] theorem stopBeacon_wake (s : State) : (s.stopBeacon).wake = s.wake := rfl
@[simp] theorem stopBeacon_notice (s : State) : (s.stopBeacon).notice = s.notice := rfl
@[simp] theorem stopBeacon_port (s : State) : (s.stopBeacon).port = s.port := rfl
@[simp] theorem stopBeacon_resetLow (s : State) : (s.stopBeacon).resetLow = s.resetLow := rfl
@[simp] theorem stopBeacon_clock (s : State) : (s.stopBeacon).clock = s.clock := rfl
@[simp] theorem stopBeacon_pending (s : State) : (s.stopBeacon).pending = s.pending := rfl

@[simp] theorem stopBeacon_cfg (s : State) (d : ChanId) : (s.stopBeacon).cfg d = s.cfg d := rfl
@[simp] theorem stopBeacon_ctx (s : State) (d : ChanId) : (s.stopBeacon).ctx d = s.ctx d := rfl
@[simp] theorem stopBeacon_slot (s : State) (i' : SlotId) : (s.stopBeacon).slot i' = s.slot i' := rfl
@[simp] theorem stopBeacon_entry (s : State) (a' : Station) : (s.stopBeacon).entry a' = s.entry a' := rfl

@[simp] theorem dropPendingSleep_station (s : State) : (s.dropPendingSleep).station = s.station := rfl
@[simp] theorem dropPendingSleep_configs (s : State) : (s.dropPendingSleep).configs = s.configs := rfl
@[simp] theorem dropPendingSleep_contexts (s : State) : (s.dropPendingSleep).contexts = s.contexts := rfl
@[simp] theorem dropPendingSleep_slots (s : State) : (s.dropPendingSleep).slots = s.slots := rfl
@[simp] theorem dropPendingSleep_ram (s : State) : (s.dropPendingSleep).ram = s.ram := rfl
@[simp] theorem dropPendingSleep_line (s : State) : (s.dropPendingSleep).line = s.line := rfl
@[simp] theorem dropPendingSleep_arb (s : State) : (s.dropPendingSleep).arb = { s.arb with announceOffer := false } := rfl
@[simp] theorem dropPendingSleep_presence (s : State) : (s.dropPendingSleep).presence = s.presence := rfl
@[simp] theorem dropPendingSleep_beaconTimer (s : State) : (s.dropPendingSleep).beaconTimer = s.beaconTimer := rfl
@[simp] theorem dropPendingSleep_mc (s : State) : (s.dropPendingSleep).mc = { s.mc with pendingSleep := .none } := rfl
@[simp] theorem dropPendingSleep_wake (s : State) : (s.dropPendingSleep).wake = s.wake := rfl
@[simp] theorem dropPendingSleep_notice (s : State) : (s.dropPendingSleep).notice = s.notice := rfl
@[simp] theorem dropPendingSleep_port (s : State) : (s.dropPendingSleep).port = s.port := rfl
@[simp] theorem dropPendingSleep_resetLow (s : State) : (s.dropPendingSleep).resetLow = s.resetLow := rfl
@[simp] theorem dropPendingSleep_clock (s : State) : (s.dropPendingSleep).clock = s.clock := rfl
@[simp] theorem dropPendingSleep_pending (s : State) : (s.dropPendingSleep).pending = s.pending := rfl

@[simp] theorem dropPendingSleep_cfg (s : State) (d : ChanId) : (s.dropPendingSleep).cfg d = s.cfg d := rfl
@[simp] theorem dropPendingSleep_ctx (s : State) (d : ChanId) : (s.dropPendingSleep).ctx d = s.ctx d := rfl
@[simp] theorem dropPendingSleep_slot (s : State) (i' : SlotId) : (s.dropPendingSleep).slot i' = s.slot i' := rfl
@[simp] theorem dropPendingSleep_entry (s : State) (a' : Station) : (s.dropPendingSleep).entry a' = s.entry a' := rfl

@[simp] theorem setPhase_station (s : State) (p : AttemptPhase) : (s.setPhase p).station = s.station := rfl
@[simp] theorem setPhase_configs (s : State) (p : AttemptPhase) : (s.setPhase p).configs = s.configs := rfl
@[simp] theorem setPhase_contexts (s : State) (p : AttemptPhase) : (s.setPhase p).contexts = s.contexts := rfl
@[simp] theorem setPhase_slots (s : State) (p : AttemptPhase) : (s.setPhase p).slots = s.slots := rfl
@[simp] theorem setPhase_ram (s : State) (p : AttemptPhase) : (s.setPhase p).ram = s.ram := rfl
@[simp] theorem setPhase_line (s : State) (p : AttemptPhase) : (s.setPhase p).line = s.line := rfl
@[simp] theorem setPhase_arb (s : State) (p : AttemptPhase) : (s.setPhase p).arb = { s.arb with latch := s.arb.latch.map fun a => { a with phase := p } } := rfl
@[simp] theorem setPhase_presence (s : State) (p : AttemptPhase) : (s.setPhase p).presence = s.presence := rfl
@[simp] theorem setPhase_beaconTimer (s : State) (p : AttemptPhase) : (s.setPhase p).beaconTimer = s.beaconTimer := rfl
@[simp] theorem setPhase_mc (s : State) (p : AttemptPhase) : (s.setPhase p).mc = s.mc := rfl
@[simp] theorem setPhase_wake (s : State) (p : AttemptPhase) : (s.setPhase p).wake = s.wake := rfl
@[simp] theorem setPhase_notice (s : State) (p : AttemptPhase) : (s.setPhase p).notice = s.notice := rfl
@[simp] theorem setPhase_port (s : State) (p : AttemptPhase) : (s.setPhase p).port = s.port := rfl
@[simp] theorem setPhase_resetLow (s : State) (p : AttemptPhase) : (s.setPhase p).resetLow = s.resetLow := rfl
@[simp] theorem setPhase_clock (s : State) (p : AttemptPhase) : (s.setPhase p).clock = s.clock := rfl
@[simp] theorem setPhase_pending (s : State) (p : AttemptPhase) : (s.setPhase p).pending = s.pending := rfl

@[simp] theorem setPhase_cfg (s : State) (p : AttemptPhase) (d : ChanId) : (s.setPhase p).cfg d = s.cfg d := rfl
@[simp] theorem setPhase_ctx (s : State) (p : AttemptPhase) (d : ChanId) : (s.setPhase p).ctx d = s.ctx d := rfl
@[simp] theorem setPhase_slot (s : State) (p : AttemptPhase) (i' : SlotId) : (s.setPhase p).slot i' = s.slot i' := rfl
@[simp] theorem setPhase_entry (s : State) (p : AttemptPhase) (a' : Station) : (s.setPhase p).entry a' = s.entry a' := rfl

/-- The context of the channel that is changed. -/
@[simp] theorem modCtx_ctx_same (s : State) (c : ChanId) (f : Context → Context) : (s.modCtx c f).ctx c = f (s.ctx c) :=
  Table.get_set_same _ _ _

/-- The context of another channel. -/
theorem modCtx_ctx_ne (s : State) {c d : ChanId} (f : Context → Context) (h : d ≠ c) :
    (s.modCtx c f).ctx d = s.ctx d :=
  Table.get_set_ne _ _ h

/-- The context of any channel after one is changed. -/
theorem modCtx_ctx (s : State) (c d : ChanId) (f : Context → Context) :
    (s.modCtx c f).ctx d = if d = c then f (s.ctx c) else s.ctx d :=
  Table.get_set _ _ _ _

/-- The slot that is changed. -/
@[simp] theorem modSlot_slot_same (s : State) (i : SlotId) (f : Slot → Slot) : (s.modSlot i f).slot i = f (s.slot i) :=
  Table.get_set_same _ _ _

/-- Another slot. -/
theorem modSlot_slot_ne (s : State) {i j : SlotId} (f : Slot → Slot) (h : j ≠ i) : (s.modSlot i f).slot j = s.slot j :=
  Table.get_set_ne _ _ h

/-- The context of a channel that has entered HALTED (R47). -/
@[simp] theorem enterHalted_ctx_same (s : State) (c : ChanId) (cause : HaltCause) :
    (s.enterHalted c cause).ctx c =
      { s.ctx c with state := .halted, haltCause := cause, backoff := none, pacing := none, haltReq := false } :=
  Table.get_set_same _ _ _

/-- The context of another channel. -/
theorem enterHalted_ctx_ne (s : State) {c d : ChanId} (cause : HaltCause) (h : d ≠ c) :
    (s.enterHalted c cause).ctx d = s.ctx d :=
  Table.get_set_ne _ _ h

/-- Every context with its acceptance record discarded. -/
@[simp] theorem discardAcceptances_ctx (s : State) (c : ChanId) :
    s.discardAcceptances.ctx c = { s.ctx c with acceptance := none } :=
  Table.get_mapIdx _ _ _

/-- An entry after the table has been replaced. -/
@[simp] theorem withEntries_entry (s : State) (new : Table 31 Entry) (a : Station) :
    (s.withEntries new).entry a = new.get a := rfl

/-- A byte access that is taken (R177; log entry 5). -/
theorem access_open {s : State} (h : s.hostOpen = true) (f : State → State) : s.access f = f s.portAccess := if_pos h

/-- A byte access that is not taken (R165). -/
theorem access_shut {s : State} (h : s.hostOpen = false) (f : State → State) : s.access f = s.setTransfer .dropped :=
  if_neg (by simp [h])

/-- What a rise of nCS brings, taken (R177). -/
theorem atRise_open {s : State} (h : s.hostOpen = true) (f : State → State) : s.atRise f = f (s.setTransfer .none) := if_pos h

/-- A rise of nCS whose transaction is not taken (R165). -/
theorem atRise_shut {s : State} (h : s.hostOpen = false) (f : State → State) : s.atRise f = s.setTransfer .none :=
  if_neg (by simp [h])

/-- A control transaction that is taken (R177, R180). -/
theorem control_open {s : State} (h : s.hostOpen = true) (f : State → State) :
    s.control f = (s.setTransfer .none).commanded f := atRise_open h _

/-- A control transaction that is not (R165). -/
theorem control_shut {s : State} (h : s.hostOpen = false) (f : State → State) : s.control f = s.setTransfer .none :=
  atRise_shut h _

/-- A reset leaves the host port shut exactly where a transaction was in progress, or nRESET is low after it (R165). -/
theorem hardReset_hostOpen (s : State) : s.hardReset.hostOpen = (s.port.transfer == .none) := by
  simp only [hostOpen, hardReset, HostPort.cut]
  cases s.port.transfer <;> rfl

end Sys2Proof.Machine.State
end

