-- ==== Sys2Proof/Laws/Channels.lean ====
section
/-! SUPPORT. The frame of every operation of the channels, the rings and the Presence Table: the parts of the state it leaves. Every lemma is one field, for simp. -/

namespace Sys2Proof.Machine.State

/-- A fold that keeps a part of the state at each round keeps it. -/
theorem foldl_keep {α β : Type} {π : State → β} {f : State → α → State} (h : ∀ t a, π (f t a) = π t) (s : State)
    (l : List α) : π (l.foldl f s) = π s := by
  induction l generalizing s with
  | nil => rfl
  | cons a l ih => exact (ih (f s a)).trans (h s a)

@[simp] theorem raiseDone_station (s : State) (c : ChanId) : (s.raiseDone c).station = s.station := by rfl
@[simp] theorem raiseDone_configs (s : State) (c : ChanId) : (s.raiseDone c).configs = s.configs := by rfl
@[simp] theorem raiseDone_contexts (s : State) (c : ChanId) : (s.raiseDone c).contexts = s.contexts := by rfl
@[simp] theorem raiseDone_slots (s : State) (c : ChanId) : (s.raiseDone c).slots = s.slots := by rfl
@[simp] theorem raiseDone_ram (s : State) (c : ChanId) : (s.raiseDone c).ram = s.ram := by rfl
@[simp] theorem raiseDone_line (s : State) (c : ChanId) : (s.raiseDone c).line = s.line := by rfl
@[simp] theorem raiseDone_arb (s : State) (c : ChanId) : (s.raiseDone c).arb = s.arb := by rfl
@[simp] theorem raiseDone_presence (s : State) (c : ChanId) : (s.raiseDone c).presence = s.presence := by rfl
@[simp] theorem raiseDone_beaconTimer (s : State) (c : ChanId) : (s.raiseDone c).beaconTimer = s.beaconTimer := by rfl
@[simp] theorem raiseDone_mc (s : State) (c : ChanId) : (s.raiseDone c).mc = s.mc := by rfl
@[simp] theorem raiseDone_wake (s : State) (c : ChanId) : (s.raiseDone c).wake = s.wake := by rfl
@[simp] theorem raiseDone_port (s : State) (c : ChanId) : (s.raiseDone c).port = s.port := by rfl
@[simp] theorem raiseDone_resetLow (s : State) (c : ChanId) : (s.raiseDone c).resetLow = s.resetLow := by rfl
@[simp] theorem raiseDone_clock (s : State) (c : ChanId) : (s.raiseDone c).clock = s.clock := by rfl
@[simp] theorem raiseDone_pending (s : State) (c : ChanId) : (s.raiseDone c).pending = s.pending := by rfl
@[simp] theorem raiseDone_cfg (s : State) (c : ChanId) (d : ChanId) : (s.raiseDone c).cfg d = s.cfg d := by simp [State.cfg]
@[simp] theorem raiseDone_ctx (s : State) (c : ChanId) (d : ChanId) : (s.raiseDone c).ctx d = s.ctx d := by simp [State.ctx]
@[simp] theorem raiseDone_slot (s : State) (c : ChanId) (i' : SlotId) : (s.raiseDone c).slot i' = s.slot i' := by simp [State.slot]
@[simp] theorem raiseDone_entry (s : State) (c : ChanId) (a' : Station) : (s.raiseDone c).entry a' = s.entry a' := by simp [State.entry]

@[simp] theorem raiseHalted_station (s : State) (c : ChanId) : (s.raiseHalted c).station = s.station := by rfl
@[simp] theorem raiseHalted_configs (s : State) (c : ChanId) : (s.raiseHalted c).configs = s.configs := by rfl
@[simp] theorem raiseHalted_contexts (s : State) (c : ChanId) : (s.raiseHalted c).contexts = s.contexts := by rfl
@[simp] theorem raiseHalted_slots (s : State) (c : ChanId) : (s.raiseHalted c).slots = s.slots := by rfl
@[simp] theorem raiseHalted_ram (s : State) (c : ChanId) : (s.raiseHalted c).ram = s.ram := by rfl
@[simp] theorem raiseHalted_line (s : State) (c : ChanId) : (s.raiseHalted c).line = s.line := by rfl
@[simp] theorem raiseHalted_arb (s : State) (c : ChanId) : (s.raiseHalted c).arb = s.arb := by rfl
@[simp] theorem raiseHalted_presence (s : State) (c : ChanId) : (s.raiseHalted c).presence = s.presence := by rfl
@[simp] theorem raiseHalted_beaconTimer (s : State) (c : ChanId) : (s.raiseHalted c).beaconTimer = s.beaconTimer := by rfl
@[simp] theorem raiseHalted_mc (s : State) (c : ChanId) : (s.raiseHalted c).mc = s.mc := by rfl
@[simp] theorem raiseHalted_wake (s : State) (c : ChanId) : (s.raiseHalted c).wake = s.wake := by rfl
@[simp] theorem raiseHalted_port (s : State) (c : ChanId) : (s.raiseHalted c).port = s.port := by rfl
@[simp] theorem raiseHalted_resetLow (s : State) (c : ChanId) : (s.raiseHalted c).resetLow = s.resetLow := by rfl
@[simp] theorem raiseHalted_clock (s : State) (c : ChanId) : (s.raiseHalted c).clock = s.clock := by rfl
@[simp] theorem raiseHalted_pending (s : State) (c : ChanId) : (s.raiseHalted c).pending = s.pending := by rfl
@[simp] theorem raiseHalted_cfg (s : State) (c : ChanId) (d : ChanId) : (s.raiseHalted c).cfg d = s.cfg d := by simp [State.cfg]
@[simp] theorem raiseHalted_ctx (s : State) (c : ChanId) (d : ChanId) : (s.raiseHalted c).ctx d = s.ctx d := by simp [State.ctx]
@[simp] theorem raiseHalted_slot (s : State) (c : ChanId) (i' : SlotId) : (s.raiseHalted c).slot i' = s.slot i' := by simp [State.slot]
@[simp] theorem raiseHalted_entry (s : State) (c : ChanId) (a' : Station) : (s.raiseHalted c).entry a' = s.entry a' := by simp [State.entry]

@[simp] theorem raiseDrained_station (s : State) (c : ChanId) : (s.raiseDrained c).station = s.station := by rfl
@[simp] theorem raiseDrained_configs (s : State) (c : ChanId) : (s.raiseDrained c).configs = s.configs := by rfl
@[simp] theorem raiseDrained_contexts (s : State) (c : ChanId) : (s.raiseDrained c).contexts = s.contexts := by rfl
@[simp] theorem raiseDrained_slots (s : State) (c : ChanId) : (s.raiseDrained c).slots = s.slots := by rfl
@[simp] theorem raiseDrained_ram (s : State) (c : ChanId) : (s.raiseDrained c).ram = s.ram := by rfl
@[simp] theorem raiseDrained_line (s : State) (c : ChanId) : (s.raiseDrained c).line = s.line := by rfl
@[simp] theorem raiseDrained_arb (s : State) (c : ChanId) : (s.raiseDrained c).arb = s.arb := by rfl
@[simp] theorem raiseDrained_presence (s : State) (c : ChanId) : (s.raiseDrained c).presence = s.presence := by rfl
@[simp] theorem raiseDrained_beaconTimer (s : State) (c : ChanId) : (s.raiseDrained c).beaconTimer = s.beaconTimer := by rfl
@[simp] theorem raiseDrained_mc (s : State) (c : ChanId) : (s.raiseDrained c).mc = s.mc := by rfl
@[simp] theorem raiseDrained_wake (s : State) (c : ChanId) : (s.raiseDrained c).wake = s.wake := by rfl
@[simp] theorem raiseDrained_port (s : State) (c : ChanId) : (s.raiseDrained c).port = s.port := by rfl
@[simp] theorem raiseDrained_resetLow (s : State) (c : ChanId) : (s.raiseDrained c).resetLow = s.resetLow := by rfl
@[simp] theorem raiseDrained_clock (s : State) (c : ChanId) : (s.raiseDrained c).clock = s.clock := by rfl
@[simp] theorem raiseDrained_pending (s : State) (c : ChanId) : (s.raiseDrained c).pending = s.pending := by rfl
@[simp] theorem raiseDrained_cfg (s : State) (c : ChanId) (d : ChanId) : (s.raiseDrained c).cfg d = s.cfg d := by simp [State.cfg]
@[simp] theorem raiseDrained_ctx (s : State) (c : ChanId) (d : ChanId) : (s.raiseDrained c).ctx d = s.ctx d := by simp [State.ctx]
@[simp] theorem raiseDrained_slot (s : State) (c : ChanId) (i' : SlotId) : (s.raiseDrained c).slot i' = s.slot i' := by simp [State.slot]
@[simp] theorem raiseDrained_entry (s : State) (c : ChanId) (a' : Station) : (s.raiseDrained c).entry a' = s.entry a' := by simp [State.entry]

@[simp] theorem raiseDrop_station (s : State) (c : ChanId) : (s.raiseDrop c).station = s.station := by rfl
@[simp] theorem raiseDrop_configs (s : State) (c : ChanId) : (s.raiseDrop c).configs = s.configs := by rfl
@[simp] theorem raiseDrop_contexts (s : State) (c : ChanId) : (s.raiseDrop c).contexts = s.contexts := by rfl
@[simp] theorem raiseDrop_slots (s : State) (c : ChanId) : (s.raiseDrop c).slots = s.slots := by rfl
@[simp] theorem raiseDrop_ram (s : State) (c : ChanId) : (s.raiseDrop c).ram = s.ram := by rfl
@[simp] theorem raiseDrop_line (s : State) (c : ChanId) : (s.raiseDrop c).line = s.line := by rfl
@[simp] theorem raiseDrop_arb (s : State) (c : ChanId) : (s.raiseDrop c).arb = s.arb := by rfl
@[simp] theorem raiseDrop_presence (s : State) (c : ChanId) : (s.raiseDrop c).presence = s.presence := by rfl
@[simp] theorem raiseDrop_beaconTimer (s : State) (c : ChanId) : (s.raiseDrop c).beaconTimer = s.beaconTimer := by rfl
@[simp] theorem raiseDrop_mc (s : State) (c : ChanId) : (s.raiseDrop c).mc = s.mc := by rfl
@[simp] theorem raiseDrop_wake (s : State) (c : ChanId) : (s.raiseDrop c).wake = s.wake := by rfl
@[simp] theorem raiseDrop_port (s : State) (c : ChanId) : (s.raiseDrop c).port = s.port := by rfl
@[simp] theorem raiseDrop_resetLow (s : State) (c : ChanId) : (s.raiseDrop c).resetLow = s.resetLow := by rfl
@[simp] theorem raiseDrop_clock (s : State) (c : ChanId) : (s.raiseDrop c).clock = s.clock := by rfl
@[simp] theorem raiseDrop_pending (s : State) (c : ChanId) : (s.raiseDrop c).pending = s.pending := by rfl
@[simp] theorem raiseDrop_cfg (s : State) (c : ChanId) (d : ChanId) : (s.raiseDrop c).cfg d = s.cfg d := by simp [State.cfg]
@[simp] theorem raiseDrop_ctx (s : State) (c : ChanId) (d : ChanId) : (s.raiseDrop c).ctx d = s.ctx d := by simp [State.ctx]
@[simp] theorem raiseDrop_slot (s : State) (c : ChanId) (i' : SlotId) : (s.raiseDrop c).slot i' = s.slot i' := by simp [State.slot]
@[simp] theorem raiseDrop_entry (s : State) (c : ChanId) (a' : Station) : (s.raiseDrop c).entry a' = s.entry a' := by simp [State.entry]

theorem lookWhere_frame (s : State) (p : ChanId → Bool) :
    (s.lookWhere p).station = s.station ∧ (s.lookWhere p).configs = s.configs ∧ (s.lookWhere p).contexts = s.contexts
      ∧ (s.lookWhere p).slots = s.slots ∧ (s.lookWhere p).ram = s.ram ∧ (s.lookWhere p).line = s.line
      ∧ (s.lookWhere p).presence = s.presence ∧ (s.lookWhere p).beaconTimer = s.beaconTimer ∧ (s.lookWhere p).mc = s.mc
      ∧ (s.lookWhere p).wake = s.wake ∧ (s.lookWhere p).notice = s.notice ∧ (s.lookWhere p).port = s.port
      ∧ (s.lookWhere p).resetLow = s.resetLow ∧ (s.lookWhere p).clock = s.clock ∧ (s.lookWhere p).pending = s.pending := by
  refine ⟨?_, ?_, ?_, ?_, ?_, ?_, ?_, ?_, ?_, ?_, ?_, ?_, ?_, ?_, ?_⟩ <;> exact foldl_keep (fun t c => by split <;> simp) _ _
@[simp] theorem lookWhere_station (s : State) (p : ChanId → Bool) : (s.lookWhere p).station = s.station := (lookWhere_frame s p).1
@[simp] theorem lookWhere_configs (s : State) (p : ChanId → Bool) : (s.lookWhere p).configs = s.configs := (lookWhere_frame s p).2.1
@[simp] theorem lookWhere_contexts (s : State) (p : ChanId → Bool) : (s.lookWhere p).contexts = s.contexts := (lookWhere_frame s p).2.2.1
@[simp] theorem lookWhere_slots (s : State) (p : ChanId → Bool) : (s.lookWhere p).slots = s.slots := (lookWhere_frame s p).2.2.2.1
@[simp] theorem lookWhere_ram (s : State) (p : ChanId → Bool) : (s.lookWhere p).ram = s.ram := (lookWhere_frame s p).2.2.2.2.1
@[simp] theorem lookWhere_line (s : State) (p : ChanId → Bool) : (s.lookWhere p).line = s.line := (lookWhere_frame s p).2.2.2.2.2.1
@[simp] theorem lookWhere_presence (s : State) (p : ChanId → Bool) : (s.lookWhere p).presence = s.presence := (lookWhere_frame s p).2.2.2.2.2.2.1
@[simp] theorem lookWhere_beaconTimer (s : State) (p : ChanId → Bool) : (s.lookWhere p).beaconTimer = s.beaconTimer := (lookWhere_frame s p).2.2.2.2.2.2.2.1
@[simp] theorem lookWhere_mc (s : State) (p : ChanId → Bool) : (s.lookWhere p).mc = s.mc := (lookWhere_frame s p).2.2.2.2.2.2.2.2.1
@[simp] theorem lookWhere_wake (s : State) (p : ChanId → Bool) : (s.lookWhere p).wake = s.wake := (lookWhere_frame s p).2.2.2.2.2.2.2.2.2.1
@[simp] theorem lookWhere_notice (s : State) (p : ChanId → Bool) : (s.lookWhere p).notice = s.notice := (lookWhere_frame s p).2.2.2.2.2.2.2.2.2.2.1
@[simp] theorem lookWhere_port (s : State) (p : ChanId → Bool) : (s.lookWhere p).port = s.port := (lookWhere_frame s p).2.2.2.2.2.2.2.2.2.2.2.1
@[simp] theorem lookWhere_resetLow (s : State) (p : ChanId → Bool) : (s.lookWhere p).resetLow = s.resetLow := (lookWhere_frame s p).2.2.2.2.2.2.2.2.2.2.2.2.1
@[simp] theorem lookWhere_clock (s : State) (p : ChanId → Bool) : (s.lookWhere p).clock = s.clock := (lookWhere_frame s p).2.2.2.2.2.2.2.2.2.2.2.2.2.1
@[simp] theorem lookWhere_pending (s : State) (p : ChanId → Bool) : (s.lookWhere p).pending = s.pending := (lookWhere_frame s p).2.2.2.2.2.2.2.2.2.2.2.2.2.2
@[simp] theorem lookWhere_cfg (s : State) (p : ChanId → Bool) (d : ChanId) : (s.lookWhere p).cfg d = s.cfg d := by simp [State.cfg]
@[simp] theorem lookWhere_ctx (s : State) (p : ChanId → Bool) (d : ChanId) : (s.lookWhere p).ctx d = s.ctx d := by simp [State.ctx]
@[simp] theorem lookWhere_slot (s : State) (p : ChanId → Bool) (i' : SlotId) : (s.lookWhere p).slot i' = s.slot i' := by simp [State.slot]
@[simp] theorem lookWhere_entry (s : State) (p : ChanId → Bool) (a' : Station) : (s.lookWhere p).entry a' = s.entry a' := by simp [State.entry]

@[simp] theorem replaceEntries_station (s : State) (new : Table 31 Entry) : (s.replaceEntries new).station = s.station := by simp [State.replaceEntries]
@[simp] theorem replaceEntries_configs (s : State) (new : Table 31 Entry) : (s.replaceEntries new).configs = s.configs := by simp [State.replaceEntries]
@[simp] theorem replaceEntries_contexts (s : State) (new : Table 31 Entry) : (s.replaceEntries new).contexts = s.contexts := by simp [State.replaceEntries]
@[simp] theorem replaceEntries_slots (s : State) (new : Table 31 Entry) : (s.replaceEntries new).slots = s.slots := by simp [State.replaceEntries]
@[simp] theorem replaceEntries_ram (s : State) (new : Table 31 Entry) : (s.replaceEntries new).ram = s.ram := by simp [State.replaceEntries]
@[simp] theorem replaceEntries_line (s : State) (new : Table 31 Entry) : (s.replaceEntries new).line = s.line := by simp [State.replaceEntries]
@[simp] theorem replaceEntries_beaconTimer (s : State) (new : Table 31 Entry) : (s.replaceEntries new).beaconTimer = s.beaconTimer := by simp [State.replaceEntries]
@[simp] theorem replaceEntries_mc (s : State) (new : Table 31 Entry) : (s.replaceEntries new).mc = s.mc := by simp [State.replaceEntries]
@[simp] theorem replaceEntries_wake (s : State) (new : Table 31 Entry) : (s.replaceEntries new).wake = s.wake := by simp [State.replaceEntries]
@[simp] theorem replaceEntries_port (s : State) (new : Table 31 Entry) : (s.replaceEntries new).port = s.port := by simp [State.replaceEntries]
@[simp] theorem replaceEntries_resetLow (s : State) (new : Table 31 Entry) : (s.replaceEntries new).resetLow = s.resetLow := by simp [State.replaceEntries]
@[simp] theorem replaceEntries_clock (s : State) (new : Table 31 Entry) : (s.replaceEntries new).clock = s.clock := by simp [State.replaceEntries]
@[simp] theorem replaceEntries_pending (s : State) (new : Table 31 Entry) : (s.replaceEntries new).pending = s.pending := by simp [State.replaceEntries]
@[simp] theorem replaceEntries_cfg (s : State) (new : Table 31 Entry) (d : ChanId) : (s.replaceEntries new).cfg d = s.cfg d := by simp [State.cfg]
@[simp] theorem replaceEntries_ctx (s : State) (new : Table 31 Entry) (d : ChanId) : (s.replaceEntries new).ctx d = s.ctx d := by simp [State.ctx]
@[simp] theorem replaceEntries_slot (s : State) (new : Table 31 Entry) (i' : SlotId) : (s.replaceEntries new).slot i' = s.slot i' := by simp [State.slot]

@[simp] theorem updateEntries_station (s : State) (f : Station → Entry → Entry) : (s.updateEntries f).station = s.station := by simp [State.updateEntries]
@[simp] theorem updateEntries_configs (s : State) (f : Station → Entry → Entry) : (s.updateEntries f).configs = s.configs := by simp [State.updateEntries]
@[simp] theorem updateEntries_contexts (s : State) (f : Station → Entry → Entry) : (s.updateEntries f).contexts = s.contexts := by simp [State.updateEntries]
@[simp] theorem updateEntries_slots (s : State) (f : Station → Entry → Entry) : (s.updateEntries f).slots = s.slots := by simp [State.updateEntries]
@[simp] theorem updateEntries_ram (s : State) (f : Station → Entry → Entry) : (s.updateEntries f).ram = s.ram := by simp [State.updateEntries]
@[simp] theorem updateEntries_line (s : State) (f : Station → Entry → Entry) : (s.updateEntries f).line = s.line := by simp [State.updateEntries]
@[simp] theorem updateEntries_beaconTimer (s : State) (f : Station → Entry → Entry) : (s.updateEntries f).beaconTimer = s.beaconTimer := by simp [State.updateEntries]
@[simp] theorem updateEntries_mc (s : State) (f : Station → Entry → Entry) : (s.updateEntries f).mc = s.mc := by simp [State.updateEntries]
@[simp] theorem updateEntries_wake (s : State) (f : Station → Entry → Entry) : (s.updateEntries f).wake = s.wake := by simp [State.updateEntries]
@[simp] theorem updateEntries_port (s : State) (f : Station → Entry → Entry) : (s.updateEntries f).port = s.port := by simp [State.updateEntries]
@[simp] theorem updateEntries_resetLow (s : State) (f : Station → Entry → Entry) : (s.updateEntries f).resetLow = s.resetLow := by simp [State.updateEntries]
@[simp] theorem updateEntries_clock (s : State) (f : Station → Entry → Entry) : (s.updateEntries f).clock = s.clock := by simp [State.updateEntries]
@[simp] theorem updateEntries_pending (s : State) (f : Station → Entry → Entry) : (s.updateEntries f).pending = s.pending := by simp [State.updateEntries]
@[simp] theorem updateEntries_cfg (s : State) (f : Station → Entry → Entry) (d : ChanId) : (s.updateEntries f).cfg d = s.cfg d := by simp [State.cfg]
@[simp] theorem updateEntries_ctx (s : State) (f : Station → Entry → Entry) (d : ChanId) : (s.updateEntries f).ctx d = s.ctx d := by simp [State.ctx]
@[simp] theorem updateEntries_slot (s : State) (f : Station → Entry → Entry) (i' : SlotId) : (s.updateEntries f).slot i' = s.slot i' := by simp [State.slot]

@[simp] theorem updateEntry_station (s : State) (a : Station) (f : Entry → Entry) : (s.updateEntry a f).station = s.station := by simp [State.updateEntry]
@[simp] theorem updateEntry_configs (s : State) (a : Station) (f : Entry → Entry) : (s.updateEntry a f).configs = s.configs := by simp [State.updateEntry]
@[simp] theorem updateEntry_contexts (s : State) (a : Station) (f : Entry → Entry) : (s.updateEntry a f).contexts = s.contexts := by simp [State.updateEntry]
@[simp] theorem updateEntry_slots (s : State) (a : Station) (f : Entry → Entry) : (s.updateEntry a f).slots = s.slots := by simp [State.updateEntry]
@[simp] theorem updateEntry_ram (s : State) (a : Station) (f : Entry → Entry) : (s.updateEntry a f).ram = s.ram := by simp [State.updateEntry]
@[simp] theorem updateEntry_line (s : State) (a : Station) (f : Entry → Entry) : (s.updateEntry a f).line = s.line := by simp [State.updateEntry]
@[simp] theorem updateEntry_beaconTimer (s : State) (a : Station) (f : Entry → Entry) : (s.updateEntry a f).beaconTimer = s.beaconTimer := by simp [State.updateEntry]
@[simp] theorem updateEntry_mc (s : State) (a : Station) (f : Entry → Entry) : (s.updateEntry a f).mc = s.mc := by simp [State.updateEntry]
@[simp] theorem updateEntry_wake (s : State) (a : Station) (f : Entry → Entry) : (s.updateEntry a f).wake = s.wake := by simp [State.updateEntry]
@[simp] theorem updateEntry_port (s : State) (a : Station) (f : Entry → Entry) : (s.updateEntry a f).port = s.port := by simp [State.updateEntry]
@[simp] theorem updateEntry_resetLow (s : State) (a : Station) (f : Entry → Entry) : (s.updateEntry a f).resetLow = s.resetLow := by simp [State.updateEntry]
@[simp] theorem updateEntry_clock (s : State) (a : Station) (f : Entry → Entry) : (s.updateEntry a f).clock = s.clock := by simp [State.updateEntry]
@[simp] theorem updateEntry_pending (s : State) (a : Station) (f : Entry → Entry) : (s.updateEntry a f).pending = s.pending := by simp [State.updateEntry]
@[simp] theorem updateEntry_cfg (s : State) (a : Station) (f : Entry → Entry) (d : ChanId) : (s.updateEntry a f).cfg d = s.cfg d := by simp [State.cfg]
@[simp] theorem updateEntry_ctx (s : State) (a : Station) (f : Entry → Entry) (d : ChanId) : (s.updateEntry a f).ctx d = s.ctx d := by simp [State.ctx]
@[simp] theorem updateEntry_slot (s : State) (a : Station) (f : Entry → Entry) (i' : SlotId) : (s.updateEntry a f).slot i' = s.slot i' := by simp [State.slot]

@[simp] theorem stationHeard_station (s : State) (a : Station) : (s.stationHeard a).station = s.station := by simp [State.stationHeard]
@[simp] theorem stationHeard_configs (s : State) (a : Station) : (s.stationHeard a).configs = s.configs := by simp [State.stationHeard]
@[simp] theorem stationHeard_contexts (s : State) (a : Station) : (s.stationHeard a).contexts = s.contexts := by simp [State.stationHeard]
@[simp] theorem stationHeard_slots (s : State) (a : Station) : (s.stationHeard a).slots = s.slots := by simp [State.stationHeard]
@[simp] theorem stationHeard_ram (s : State) (a : Station) : (s.stationHeard a).ram = s.ram := by simp [State.stationHeard]
@[simp] theorem stationHeard_line (s : State) (a : Station) : (s.stationHeard a).line = s.line := by simp [State.stationHeard]
@[simp] theorem stationHeard_beaconTimer (s : State) (a : Station) : (s.stationHeard a).beaconTimer = s.beaconTimer := by simp [State.stationHeard]
@[simp] theorem stationHeard_mc (s : State) (a : Station) : (s.stationHeard a).mc = s.mc := by simp [State.stationHeard]
@[simp] theorem stationHeard_wake (s : State) (a : Station) : (s.stationHeard a).wake = s.wake := by simp [State.stationHeard]
@[simp] theorem stationHeard_port (s : State) (a : Station) : (s.stationHeard a).port = s.port := by simp [State.stationHeard]
@[simp] theorem stationHeard_resetLow (s : State) (a : Station) : (s.stationHeard a).resetLow = s.resetLow := by simp [State.stationHeard]
@[simp] theorem stationHeard_clock (s : State) (a : Station) : (s.stationHeard a).clock = s.clock := by simp [State.stationHeard]
@[simp] theorem stationHeard_pending (s : State) (a : Station) : (s.stationHeard a).pending = s.pending := by simp [State.stationHeard]
@[simp] theorem stationHeard_cfg (s : State) (a : Station) (d : ChanId) : (s.stationHeard a).cfg d = s.cfg d := by simp [State.cfg]
@[simp] theorem stationHeard_ctx (s : State) (a : Station) (d : ChanId) : (s.stationHeard a).ctx d = s.ctx d := by simp [State.ctx]
@[simp] theorem stationHeard_slot (s : State) (a : Station) (i' : SlotId) : (s.stationHeard a).slot i' = s.slot i' := by simp [State.slot]

@[simp] theorem beaconHeard_station (s : State) (a : Station) (p : List Byte) : (s.beaconHeard a p).station = s.station := by simp [State.beaconHeard]
@[simp] theorem beaconHeard_configs (s : State) (a : Station) (p : List Byte) : (s.beaconHeard a p).configs = s.configs := by simp [State.beaconHeard]
@[simp] theorem beaconHeard_contexts (s : State) (a : Station) (p : List Byte) : (s.beaconHeard a p).contexts = s.contexts := by simp [State.beaconHeard]
@[simp] theorem beaconHeard_slots (s : State) (a : Station) (p : List Byte) : (s.beaconHeard a p).slots = s.slots := by simp [State.beaconHeard]
@[simp] theorem beaconHeard_ram (s : State) (a : Station) (p : List Byte) : (s.beaconHeard a p).ram = s.ram := by simp [State.beaconHeard]
@[simp] theorem beaconHeard_line (s : State) (a : Station) (p : List Byte) : (s.beaconHeard a p).line = s.line := by simp [State.beaconHeard]
@[simp] theorem beaconHeard_beaconTimer (s : State) (a : Station) (p : List Byte) : (s.beaconHeard a p).beaconTimer = s.beaconTimer := by simp [State.beaconHeard]
@[simp] theorem beaconHeard_mc (s : State) (a : Station) (p : List Byte) : (s.beaconHeard a p).mc = s.mc := by simp [State.beaconHeard]
@[simp] theorem beaconHeard_wake (s : State) (a : Station) (p : List Byte) : (s.beaconHeard a p).wake = s.wake := by simp [State.beaconHeard]
@[simp] theorem beaconHeard_port (s : State) (a : Station) (p : List Byte) : (s.beaconHeard a p).port = s.port := by simp [State.beaconHeard]
@[simp] theorem beaconHeard_resetLow (s : State) (a : Station) (p : List Byte) : (s.beaconHeard a p).resetLow = s.resetLow := by simp [State.beaconHeard]
@[simp] theorem beaconHeard_clock (s : State) (a : Station) (p : List Byte) : (s.beaconHeard a p).clock = s.clock := by simp [State.beaconHeard]
@[simp] theorem beaconHeard_pending (s : State) (a : Station) (p : List Byte) : (s.beaconHeard a p).pending = s.pending := by simp [State.beaconHeard]
@[simp] theorem beaconHeard_cfg (s : State) (a : Station) (p : List Byte) (d : ChanId) : (s.beaconHeard a p).cfg d = s.cfg d := by simp [State.cfg]
@[simp] theorem beaconHeard_ctx (s : State) (a : Station) (p : List Byte) (d : ChanId) : (s.beaconHeard a p).ctx d = s.ctx d := by simp [State.ctx]
@[simp] theorem beaconHeard_slot (s : State) (a : Station) (p : List Byte) (i' : SlotId) : (s.beaconHeard a p).slot i' = s.slot i' := by simp [State.slot]

@[simp] theorem announceHeard_station (s : State) (a : Station) : (s.announceHeard a).station = s.station := by simp [State.announceHeard]
@[simp] theorem announceHeard_configs (s : State) (a : Station) : (s.announceHeard a).configs = s.configs := by simp [State.announceHeard]
@[simp] theorem announceHeard_contexts (s : State) (a : Station) : (s.announceHeard a).contexts = s.contexts := by simp [State.announceHeard]
@[simp] theorem announceHeard_slots (s : State) (a : Station) : (s.announceHeard a).slots = s.slots := by simp [State.announceHeard]
@[simp] theorem announceHeard_ram (s : State) (a : Station) : (s.announceHeard a).ram = s.ram := by simp [State.announceHeard]
@[simp] theorem announceHeard_line (s : State) (a : Station) : (s.announceHeard a).line = s.line := by simp [State.announceHeard]
@[simp] theorem announceHeard_beaconTimer (s : State) (a : Station) : (s.announceHeard a).beaconTimer = s.beaconTimer := by simp [State.announceHeard]
@[simp] theorem announceHeard_mc (s : State) (a : Station) : (s.announceHeard a).mc = s.mc := by simp [State.announceHeard]
@[simp] theorem announceHeard_wake (s : State) (a : Station) : (s.announceHeard a).wake = s.wake := by simp [State.announceHeard]
@[simp] theorem announceHeard_port (s : State) (a : Station) : (s.announceHeard a).port = s.port := by simp [State.announceHeard]
@[simp] theorem announceHeard_resetLow (s : State) (a : Station) : (s.announceHeard a).resetLow = s.resetLow := by simp [State.announceHeard]
@[simp] theorem announceHeard_clock (s : State) (a : Station) : (s.announceHeard a).clock = s.clock := by simp [State.announceHeard]
@[simp] theorem announceHeard_pending (s : State) (a : Station) : (s.announceHeard a).pending = s.pending := by simp [State.announceHeard]
@[simp] theorem announceHeard_cfg (s : State) (a : Station) (d : ChanId) : (s.announceHeard a).cfg d = s.cfg d := by simp [State.cfg]
@[simp] theorem announceHeard_ctx (s : State) (a : Station) (d : ChanId) : (s.announceHeard a).ctx d = s.ctx d := by simp [State.ctx]
@[simp] theorem announceHeard_slot (s : State) (a : Station) (i' : SlotId) : (s.announceHeard a).slot i' = s.slot i' := by simp [State.slot]

@[simp] theorem lookWaking_station (s : State) : s.lookWaking.station = s.station := by simp [State.lookWaking]
@[simp] theorem lookWaking_configs (s : State) : s.lookWaking.configs = s.configs := by simp [State.lookWaking]
@[simp] theorem lookWaking_contexts (s : State) : s.lookWaking.contexts = s.contexts := by simp [State.lookWaking]
@[simp] theorem lookWaking_slots (s : State) : s.lookWaking.slots = s.slots := by simp [State.lookWaking]
@[simp] theorem lookWaking_ram (s : State) : s.lookWaking.ram = s.ram := by simp [State.lookWaking]
@[simp] theorem lookWaking_line (s : State) : s.lookWaking.line = s.line := by simp [State.lookWaking]
@[simp] theorem lookWaking_presence (s : State) : s.lookWaking.presence = s.presence := by simp [State.lookWaking]
@[simp] theorem lookWaking_beaconTimer (s : State) : s.lookWaking.beaconTimer = s.beaconTimer := by simp [State.lookWaking]
@[simp] theorem lookWaking_mc (s : State) : s.lookWaking.mc = s.mc := by simp [State.lookWaking]
@[simp] theorem lookWaking_wake (s : State) : s.lookWaking.wake = s.wake := by simp [State.lookWaking]
@[simp] theorem lookWaking_notice (s : State) : s.lookWaking.notice = s.notice := by simp [State.lookWaking]
@[simp] theorem lookWaking_port (s : State) : s.lookWaking.port = s.port := by simp [State.lookWaking]
@[simp] theorem lookWaking_resetLow (s : State) : s.lookWaking.resetLow = s.resetLow := by simp [State.lookWaking]
@[simp] theorem lookWaking_clock (s : State) : s.lookWaking.clock = s.clock := by simp [State.lookWaking]
@[simp] theorem lookWaking_pending (s : State) : s.lookWaking.pending = s.pending := by simp [State.lookWaking]
@[simp] theorem lookWaking_cfg (s : State) (d : ChanId) : s.lookWaking.cfg d = s.cfg d := by simp [State.cfg]
@[simp] theorem lookWaking_ctx (s : State) (d : ChanId) : s.lookWaking.ctx d = s.ctx d := by simp [State.ctx]
@[simp] theorem lookWaking_slot (s : State) (i' : SlotId) : s.lookWaking.slot i' = s.slot i' := by simp [State.slot]
@[simp] theorem lookWaking_entry (s : State) (a' : Station) : s.lookWaking.entry a' = s.entry a' := by simp [State.entry]

@[simp] theorem presencePulse_station (s : State) : s.presencePulse.station = s.station := by simp [State.presencePulse]
@[simp] theorem presencePulse_configs (s : State) : s.presencePulse.configs = s.configs := by simp [State.presencePulse]
@[simp] theorem presencePulse_contexts (s : State) : s.presencePulse.contexts = s.contexts := by simp [State.presencePulse]
@[simp] theorem presencePulse_slots (s : State) : s.presencePulse.slots = s.slots := by simp [State.presencePulse]
@[simp] theorem presencePulse_ram (s : State) : s.presencePulse.ram = s.ram := by simp [State.presencePulse]
@[simp] theorem presencePulse_line (s : State) : s.presencePulse.line = s.line := by simp [State.presencePulse]
@[simp] theorem presencePulse_beaconTimer (s : State) : s.presencePulse.beaconTimer = s.beaconTimer := by simp [State.presencePulse]
@[simp] theorem presencePulse_mc (s : State) : s.presencePulse.mc = s.mc := by simp [State.presencePulse]
@[simp] theorem presencePulse_wake (s : State) : s.presencePulse.wake = s.wake := by simp [State.presencePulse]
@[simp] theorem presencePulse_port (s : State) : s.presencePulse.port = s.port := by simp [State.presencePulse]
@[simp] theorem presencePulse_resetLow (s : State) : s.presencePulse.resetLow = s.resetLow := by simp [State.presencePulse]
@[simp] theorem presencePulse_clock (s : State) : s.presencePulse.clock = s.clock := by simp [State.presencePulse]
@[simp] theorem presencePulse_pending (s : State) : s.presencePulse.pending = s.pending := by simp [State.presencePulse]
@[simp] theorem presencePulse_cfg (s : State) (d : ChanId) : s.presencePulse.cfg d = s.cfg d := by simp [State.cfg]
@[simp] theorem presencePulse_ctx (s : State) (d : ChanId) : s.presencePulse.ctx d = s.ctx d := by simp [State.ctx]
@[simp] theorem presencePulse_slot (s : State) (i' : SlotId) : s.presencePulse.slot i' = s.slot i' := by simp [State.slot]

theorem presenceExhausted_frame (s : State) (p : BitVec 5) :
    (s.presenceExhausted p).station = s.station ∧ (s.presenceExhausted p).configs = s.configs ∧ (s.presenceExhausted p).contexts = s.contexts
      ∧ (s.presenceExhausted p).slots = s.slots ∧ (s.presenceExhausted p).ram = s.ram ∧ (s.presenceExhausted p).line = s.line
      ∧ (s.presenceExhausted p).beaconTimer = s.beaconTimer ∧ (s.presenceExhausted p).mc = s.mc ∧ (s.presenceExhausted p).wake = s.wake
      ∧ (s.presenceExhausted p).port = s.port ∧ (s.presenceExhausted p).resetLow = s.resetLow ∧ (s.presenceExhausted p).clock = s.clock
      ∧ (s.presenceExhausted p).pending = s.pending := by
  unfold State.presenceExhausted; split <;> simp
@[simp] theorem presenceExhausted_station (s : State) (p : BitVec 5) : (s.presenceExhausted p).station = s.station := (presenceExhausted_frame s p).1
@[simp] theorem presenceExhausted_configs (s : State) (p : BitVec 5) : (s.presenceExhausted p).configs = s.configs := (presenceExhausted_frame s p).2.1
@[simp] theorem presenceExhausted_contexts (s : State) (p : BitVec 5) : (s.presenceExhausted p).contexts = s.contexts := (presenceExhausted_frame s p).2.2.1
@[simp] theorem presenceExhausted_slots (s : State) (p : BitVec 5) : (s.presenceExhausted p).slots = s.slots := (presenceExhausted_frame s p).2.2.2.1
@[simp] theorem presenceExhausted_ram (s : State) (p : BitVec 5) : (s.presenceExhausted p).ram = s.ram := (presenceExhausted_frame s p).2.2.2.2.1
@[simp] theorem presenceExhausted_line (s : State) (p : BitVec 5) : (s.presenceExhausted p).line = s.line := (presenceExhausted_frame s p).2.2.2.2.2.1
@[simp] theorem presenceExhausted_beaconTimer (s : State) (p : BitVec 5) : (s.presenceExhausted p).beaconTimer = s.beaconTimer := (presenceExhausted_frame s p).2.2.2.2.2.2.1
@[simp] theorem presenceExhausted_mc (s : State) (p : BitVec 5) : (s.presenceExhausted p).mc = s.mc := (presenceExhausted_frame s p).2.2.2.2.2.2.2.1
@[simp] theorem presenceExhausted_wake (s : State) (p : BitVec 5) : (s.presenceExhausted p).wake = s.wake := (presenceExhausted_frame s p).2.2.2.2.2.2.2.2.1
@[simp] theorem presenceExhausted_port (s : State) (p : BitVec 5) : (s.presenceExhausted p).port = s.port := (presenceExhausted_frame s p).2.2.2.2.2.2.2.2.2.1
@[simp] theorem presenceExhausted_resetLow (s : State) (p : BitVec 5) : (s.presenceExhausted p).resetLow = s.resetLow := (presenceExhausted_frame s p).2.2.2.2.2.2.2.2.2.2.1
@[simp] theorem presenceExhausted_clock (s : State) (p : BitVec 5) : (s.presenceExhausted p).clock = s.clock := (presenceExhausted_frame s p).2.2.2.2.2.2.2.2.2.2.2.1
@[simp] theorem presenceExhausted_pending (s : State) (p : BitVec 5) : (s.presenceExhausted p).pending = s.pending := (presenceExhausted_frame s p).2.2.2.2.2.2.2.2.2.2.2.2
@[simp] theorem presenceExhausted_cfg (s : State) (p : BitVec 5) (d : ChanId) : (s.presenceExhausted p).cfg d = s.cfg d := by simp [State.cfg]
@[simp] theorem presenceExhausted_ctx (s : State) (p : BitVec 5) (d : ChanId) : (s.presenceExhausted p).ctx d = s.ctx d := by simp [State.ctx]
@[simp] theorem presenceExhausted_slot (s : State) (p : BitVec 5) (i' : SlotId) : (s.presenceExhausted p).slot i' = s.slot i' := by simp [State.slot]

@[simp] theorem presenceClear_station (s : State) : s.presenceClear.station = s.station := by simp [State.presenceClear]
@[simp] theorem presenceClear_configs (s : State) : s.presenceClear.configs = s.configs := by simp [State.presenceClear]
@[simp] theorem presenceClear_contexts (s : State) : s.presenceClear.contexts = s.contexts := by simp [State.presenceClear]
@[simp] theorem presenceClear_slots (s : State) : s.presenceClear.slots = s.slots := by simp [State.presenceClear]
@[simp] theorem presenceClear_ram (s : State) : s.presenceClear.ram = s.ram := by simp [State.presenceClear]
@[simp] theorem presenceClear_line (s : State) : s.presenceClear.line = s.line := by simp [State.presenceClear]
@[simp] theorem presenceClear_beaconTimer (s : State) : s.presenceClear.beaconTimer = s.beaconTimer := by simp [State.presenceClear]
@[simp] theorem presenceClear_mc (s : State) : s.presenceClear.mc = s.mc := by simp [State.presenceClear]
@[simp] theorem presenceClear_wake (s : State) : s.presenceClear.wake = s.wake := by simp [State.presenceClear]
@[simp] theorem presenceClear_port (s : State) : s.presenceClear.port = s.port := by simp [State.presenceClear]
@[simp] theorem presenceClear_resetLow (s : State) : s.presenceClear.resetLow = s.resetLow := by simp [State.presenceClear]
@[simp] theorem presenceClear_clock (s : State) : s.presenceClear.clock = s.clock := by simp [State.presenceClear]
@[simp] theorem presenceClear_pending (s : State) : s.presenceClear.pending = s.pending := by simp [State.presenceClear]
@[simp] theorem presenceClear_cfg (s : State) (d : ChanId) : s.presenceClear.cfg d = s.cfg d := by simp [State.cfg]
@[simp] theorem presenceClear_ctx (s : State) (d : ChanId) : s.presenceClear.ctx d = s.ctx d := by simp [State.ctx]
@[simp] theorem presenceClear_slot (s : State) (i' : SlotId) : s.presenceClear.slot i' = s.slot i' := by simp [State.slot]

theorem writeBack_frame (s : State) (c : ChanId) (i : SlotId) (st : Status) (n : Nat) (e : Option Bool) :
    (s.writeBack c i st n e).station = s.station ∧ (s.writeBack c i st n e).configs = s.configs ∧ (s.writeBack c i st n e).contexts = s.contexts
      ∧ (s.writeBack c i st n e).ram = s.ram ∧ (s.writeBack c i st n e).line = s.line ∧ (s.writeBack c i st n e).arb = s.arb
      ∧ (s.writeBack c i st n e).presence = s.presence ∧ (s.writeBack c i st n e).beaconTimer = s.beaconTimer ∧ (s.writeBack c i st n e).mc = s.mc
      ∧ (s.writeBack c i st n e).wake = s.wake ∧ (s.writeBack c i st n e).port = s.port ∧ (s.writeBack c i st n e).resetLow = s.resetLow
      ∧ (s.writeBack c i st n e).clock = s.clock ∧ (s.writeBack c i st n e).pending = s.pending := by
  simp only [State.writeBack]; split <;> simp
@[simp] theorem writeBack_station (s : State) (c : ChanId) (i : SlotId) (st : Status) (n : Nat) (e : Option Bool) : (s.writeBack c i st n e).station = s.station := (writeBack_frame s c i st n e).1
@[simp] theorem writeBack_configs (s : State) (c : ChanId) (i : SlotId) (st : Status) (n : Nat) (e : Option Bool) : (s.writeBack c i st n e).configs = s.configs := (writeBack_frame s c i st n e).2.1
@[simp] theorem writeBack_contexts (s : State) (c : ChanId) (i : SlotId) (st : Status) (n : Nat) (e : Option Bool) : (s.writeBack c i st n e).contexts = s.contexts := (writeBack_frame s c i st n e).2.2.1
@[simp] theorem writeBack_ram (s : State) (c : ChanId) (i : SlotId) (st : Status) (n : Nat) (e : Option Bool) : (s.writeBack c i st n e).ram = s.ram := (writeBack_frame s c i st n e).2.2.2.1
@[simp] theorem writeBack_line (s : State) (c : ChanId) (i : SlotId) (st : Status) (n : Nat) (e : Option Bool) : (s.writeBack c i st n e).line = s.line := (writeBack_frame s c i st n e).2.2.2.2.1
@[simp] theorem writeBack_arb (s : State) (c : ChanId) (i : SlotId) (st : Status) (n : Nat) (e : Option Bool) : (s.writeBack c i st n e).arb = s.arb := (writeBack_frame s c i st n e).2.2.2.2.2.1
@[simp] theorem writeBack_presence (s : State) (c : ChanId) (i : SlotId) (st : Status) (n : Nat) (e : Option Bool) : (s.writeBack c i st n e).presence = s.presence := (writeBack_frame s c i st n e).2.2.2.2.2.2.1
@[simp] theorem writeBack_beaconTimer (s : State) (c : ChanId) (i : SlotId) (st : Status) (n : Nat) (e : Option Bool) : (s.writeBack c i st n e).beaconTimer = s.beaconTimer := (writeBack_frame s c i st n e).2.2.2.2.2.2.2.1
@[simp] theorem writeBack_mc (s : State) (c : ChanId) (i : SlotId) (st : Status) (n : Nat) (e : Option Bool) : (s.writeBack c i st n e).mc = s.mc := (writeBack_frame s c i st n e).2.2.2.2.2.2.2.2.1
@[simp] theorem writeBack_wake (s : State) (c : ChanId) (i : SlotId) (st : Status) (n : Nat) (e : Option Bool) : (s.writeBack c i st n e).wake = s.wake := (writeBack_frame s c i st n e).2.2.2.2.2.2.2.2.2.1
@[simp] theorem writeBack_port (s : State) (c : ChanId) (i : SlotId) (st : Status) (n : Nat) (e : Option Bool) : (s.writeBack c i st n e).port = s.port := (writeBack_frame s c i st n e).2.2.2.2.2.2.2.2.2.2.1
@[simp] theorem writeBack_resetLow (s : State) (c : ChanId) (i : SlotId) (st : Status) (n : Nat) (e : Option Bool) : (s.writeBack c i st n e).resetLow = s.resetLow := (writeBack_frame s c i st n e).2.2.2.2.2.2.2.2.2.2.2.1
@[simp] theorem writeBack_clock (s : State) (c : ChanId) (i : SlotId) (st : Status) (n : Nat) (e : Option Bool) : (s.writeBack c i st n e).clock = s.clock := (writeBack_frame s c i st n e).2.2.2.2.2.2.2.2.2.2.2.2.1
@[simp] theorem writeBack_pending (s : State) (c : ChanId) (i : SlotId) (st : Status) (n : Nat) (e : Option Bool) : (s.writeBack c i st n e).pending = s.pending := (writeBack_frame s c i st n e).2.2.2.2.2.2.2.2.2.2.2.2.2
@[simp] theorem writeBack_cfg (s : State) (c : ChanId) (i : SlotId) (st : Status) (n : Nat) (e : Option Bool) (d : ChanId) : (s.writeBack c i st n e).cfg d = s.cfg d := by simp [State.cfg]
@[simp] theorem writeBack_ctx (s : State) (c : ChanId) (i : SlotId) (st : Status) (n : Nat) (e : Option Bool) (d : ChanId) : (s.writeBack c i st n e).ctx d = s.ctx d := by simp [State.ctx]
@[simp] theorem writeBack_entry (s : State) (c : ChanId) (i : SlotId) (st : Status) (n : Nat) (e : Option Bool) (a' : Station) : (s.writeBack c i st n e).entry a' = s.entry a' := by simp [State.entry]

@[simp] theorem writeBackList_station (s : State) (c : ChanId) (st : Status) (n : SlotCopy → Nat) (l : List SlotCopy) : (s.writeBackList c st n l).station = s.station := by induction l generalizing s with
  | nil => simp [State.writeBackList]
  | cons d l ih => simp [State.writeBackList, ih]
@[simp] theorem writeBackList_configs (s : State) (c : ChanId) (st : Status) (n : SlotCopy → Nat) (l : List SlotCopy) : (s.writeBackList c st n l).configs = s.configs := by induction l generalizing s with
  | nil => simp [State.writeBackList]
  | cons d l ih => simp [State.writeBackList, ih]
@[simp] theorem writeBackList_contexts (s : State) (c : ChanId) (st : Status) (n : SlotCopy → Nat) (l : List SlotCopy) : (s.writeBackList c st n l).contexts = s.contexts := by induction l generalizing s with
  | nil => simp [State.writeBackList]
  | cons d l ih => simp [State.writeBackList, ih]
@[simp] theorem writeBackList_ram (s : State) (c : ChanId) (st : Status) (n : SlotCopy → Nat) (l : List SlotCopy) : (s.writeBackList c st n l).ram = s.ram := by induction l generalizing s with
  | nil => simp [State.writeBackList]
  | cons d l ih => simp [State.writeBackList, ih]
@[simp] theorem writeBackList_line (s : State) (c : ChanId) (st : Status) (n : SlotCopy → Nat) (l : List SlotCopy) : (s.writeBackList c st n l).line = s.line := by induction l generalizing s with
  | nil => simp [State.writeBackList]
  | cons d l ih => simp [State.writeBackList, ih]
@[simp] theorem writeBackList_arb (s : State) (c : ChanId) (st : Status) (n : SlotCopy → Nat) (l : List SlotCopy) : (s.writeBackList c st n l).arb = s.arb := by induction l generalizing s with
  | nil => simp [State.writeBackList]
  | cons d l ih => simp [State.writeBackList, ih]
@[simp] theorem writeBackList_presence (s : State) (c : ChanId) (st : Status) (n : SlotCopy → Nat) (l : List SlotCopy) : (s.writeBackList c st n l).presence = s.presence := by induction l generalizing s with
  | nil => simp [State.writeBackList]
  | cons d l ih => simp [State.writeBackList, ih]
@[simp] theorem writeBackList_beaconTimer (s : State) (c : ChanId) (st : Status) (n : SlotCopy → Nat) (l : List SlotCopy) : (s.writeBackList c st n l).beaconTimer = s.beaconTimer := by induction l generalizing s with
  | nil => simp [State.writeBackList]
  | cons d l ih => simp [State.writeBackList, ih]
@[simp] theorem writeBackList_mc (s : State) (c : ChanId) (st : Status) (n : SlotCopy → Nat) (l : List SlotCopy) : (s.writeBackList c st n l).mc = s.mc := by induction l generalizing s with
  | nil => simp [State.writeBackList]
  | cons d l ih => simp [State.writeBackList, ih]
@[simp] theorem writeBackList_wake (s : State) (c : ChanId) (st : Status) (n : SlotCopy → Nat) (l : List SlotCopy) : (s.writeBackList c st n l).wake = s.wake := by induction l generalizing s with
  | nil => simp [State.writeBackList]
  | cons d l ih => simp [State.writeBackList, ih]
@[simp] theorem writeBackList_port (s : State) (c : ChanId) (st : Status) (n : SlotCopy → Nat) (l : List SlotCopy) : (s.writeBackList c st n l).port = s.port := by induction l generalizing s with
  | nil => simp [State.writeBackList]
  | cons d l ih => simp [State.writeBackList, ih]
@[simp] theorem writeBackList_resetLow (s : State) (c : ChanId) (st : Status) (n : SlotCopy → Nat) (l : List SlotCopy) : (s.writeBackList c st n l).resetLow = s.resetLow := by induction l generalizing s with
  | nil => simp [State.writeBackList]
  | cons d l ih => simp [State.writeBackList, ih]
@[simp] theorem writeBackList_clock (s : State) (c : ChanId) (st : Status) (n : SlotCopy → Nat) (l : List SlotCopy) : (s.writeBackList c st n l).clock = s.clock := by induction l generalizing s with
  | nil => simp [State.writeBackList]
  | cons d l ih => simp [State.writeBackList, ih]
@[simp] theorem writeBackList_pending (s : State) (c : ChanId) (st : Status) (n : SlotCopy → Nat) (l : List SlotCopy) : (s.writeBackList c st n l).pending = s.pending := by induction l generalizing s with
  | nil => simp [State.writeBackList]
  | cons d l ih => simp [State.writeBackList, ih]
@[simp] theorem writeBackList_cfg (s : State) (c : ChanId) (st : Status) (n : SlotCopy → Nat) (l : List SlotCopy) (d : ChanId) : (s.writeBackList c st n l).cfg d = s.cfg d := by simp [State.cfg]
@[simp] theorem writeBackList_ctx (s : State) (c : ChanId) (st : Status) (n : SlotCopy → Nat) (l : List SlotCopy) (d : ChanId) : (s.writeBackList c st n l).ctx d = s.ctx d := by simp [State.ctx]
@[simp] theorem writeBackList_entry (s : State) (c : ChanId) (st : Status) (n : SlotCopy → Nat) (l : List SlotCopy) (a' : Station) : (s.writeBackList c st n l).entry a' = s.entry a' := by simp [State.entry]

@[simp] theorem fetchBadRange_station (s : State) (c : ChanId) : (s.fetchBadRange c).station = s.station := by simp [State.fetchBadRange]
@[simp] theorem fetchBadRange_configs (s : State) (c : ChanId) : (s.fetchBadRange c).configs = s.configs := by simp [State.fetchBadRange]
@[simp] theorem fetchBadRange_ram (s : State) (c : ChanId) : (s.fetchBadRange c).ram = s.ram := by simp [State.fetchBadRange]
@[simp] theorem fetchBadRange_line (s : State) (c : ChanId) : (s.fetchBadRange c).line = s.line := by simp [State.fetchBadRange]
@[simp] theorem fetchBadRange_presence (s : State) (c : ChanId) : (s.fetchBadRange c).presence = s.presence := by simp [State.fetchBadRange]
@[simp] theorem fetchBadRange_beaconTimer (s : State) (c : ChanId) : (s.fetchBadRange c).beaconTimer = s.beaconTimer := by simp [State.fetchBadRange]
@[simp] theorem fetchBadRange_mc (s : State) (c : ChanId) : (s.fetchBadRange c).mc = s.mc := by simp [State.fetchBadRange]
@[simp] theorem fetchBadRange_wake (s : State) (c : ChanId) : (s.fetchBadRange c).wake = s.wake := by simp [State.fetchBadRange]
@[simp] theorem fetchBadRange_port (s : State) (c : ChanId) : (s.fetchBadRange c).port = s.port := by simp [State.fetchBadRange]
@[simp] theorem fetchBadRange_resetLow (s : State) (c : ChanId) : (s.fetchBadRange c).resetLow = s.resetLow := by simp [State.fetchBadRange]
@[simp] theorem fetchBadRange_clock (s : State) (c : ChanId) : (s.fetchBadRange c).clock = s.clock := by simp [State.fetchBadRange]
@[simp] theorem fetchBadRange_pending (s : State) (c : ChanId) : (s.fetchBadRange c).pending = s.pending := by simp [State.fetchBadRange]
@[simp] theorem fetchBadRange_cfg (s : State) (c : ChanId) (d : ChanId) : (s.fetchBadRange c).cfg d = s.cfg d := by simp [State.cfg]
@[simp] theorem fetchBadRange_entry (s : State) (c : ChanId) (a' : Station) : (s.fetchBadRange c).entry a' = s.entry a' := by simp [State.entry]

@[simp] theorem fetchTooLong_station (s : State) (c : ChanId) : (s.fetchTooLong c).station = s.station := by simp [State.fetchTooLong]
@[simp] theorem fetchTooLong_configs (s : State) (c : ChanId) : (s.fetchTooLong c).configs = s.configs := by simp [State.fetchTooLong]
@[simp] theorem fetchTooLong_ram (s : State) (c : ChanId) : (s.fetchTooLong c).ram = s.ram := by simp [State.fetchTooLong]
@[simp] theorem fetchTooLong_line (s : State) (c : ChanId) : (s.fetchTooLong c).line = s.line := by simp [State.fetchTooLong]
@[simp] theorem fetchTooLong_presence (s : State) (c : ChanId) : (s.fetchTooLong c).presence = s.presence := by simp [State.fetchTooLong]
@[simp] theorem fetchTooLong_beaconTimer (s : State) (c : ChanId) : (s.fetchTooLong c).beaconTimer = s.beaconTimer := by simp [State.fetchTooLong]
@[simp] theorem fetchTooLong_mc (s : State) (c : ChanId) : (s.fetchTooLong c).mc = s.mc := by simp [State.fetchTooLong]
@[simp] theorem fetchTooLong_wake (s : State) (c : ChanId) : (s.fetchTooLong c).wake = s.wake := by simp [State.fetchTooLong]
@[simp] theorem fetchTooLong_port (s : State) (c : ChanId) : (s.fetchTooLong c).port = s.port := by simp [State.fetchTooLong]
@[simp] theorem fetchTooLong_resetLow (s : State) (c : ChanId) : (s.fetchTooLong c).resetLow = s.resetLow := by simp [State.fetchTooLong]
@[simp] theorem fetchTooLong_clock (s : State) (c : ChanId) : (s.fetchTooLong c).clock = s.clock := by simp [State.fetchTooLong]
@[simp] theorem fetchTooLong_pending (s : State) (c : ChanId) : (s.fetchTooLong c).pending = s.pending := by simp [State.fetchTooLong]
@[simp] theorem fetchTooLong_cfg (s : State) (c : ChanId) (d : ChanId) : (s.fetchTooLong c).cfg d = s.cfg d := by simp [State.cfg]
@[simp] theorem fetchTooLong_entry (s : State) (c : ChanId) (a' : Station) : (s.fetchTooLong c).entry a' = s.entry a' := by simp [State.entry]

theorem fetchDry_frame (s : State) (c : ChanId) :
    (s.fetchDry c).station = s.station ∧ (s.fetchDry c).configs = s.configs ∧ (s.fetchDry c).slots = s.slots
      ∧ (s.fetchDry c).ram = s.ram ∧ (s.fetchDry c).line = s.line ∧ (s.fetchDry c).arb = s.arb
      ∧ (s.fetchDry c).presence = s.presence ∧ (s.fetchDry c).beaconTimer = s.beaconTimer ∧ (s.fetchDry c).mc = s.mc
      ∧ (s.fetchDry c).wake = s.wake ∧ (s.fetchDry c).port = s.port ∧ (s.fetchDry c).resetLow = s.resetLow
      ∧ (s.fetchDry c).clock = s.clock ∧ (s.fetchDry c).pending = s.pending := by
  unfold State.fetchDry; split <;> simp
@[simp] theorem fetchDry_station (s : State) (c : ChanId) : (s.fetchDry c).station = s.station := (fetchDry_frame s c).1
@[simp] theorem fetchDry_configs (s : State) (c : ChanId) : (s.fetchDry c).configs = s.configs := (fetchDry_frame s c).2.1
@[simp] theorem fetchDry_slots (s : State) (c : ChanId) : (s.fetchDry c).slots = s.slots := (fetchDry_frame s c).2.2.1
@[simp] theorem fetchDry_ram (s : State) (c : ChanId) : (s.fetchDry c).ram = s.ram := (fetchDry_frame s c).2.2.2.1
@[simp] theorem fetchDry_line (s : State) (c : ChanId) : (s.fetchDry c).line = s.line := (fetchDry_frame s c).2.2.2.2.1
@[simp] theorem fetchDry_arb (s : State) (c : ChanId) : (s.fetchDry c).arb = s.arb := (fetchDry_frame s c).2.2.2.2.2.1
@[simp] theorem fetchDry_presence (s : State) (c : ChanId) : (s.fetchDry c).presence = s.presence := (fetchDry_frame s c).2.2.2.2.2.2.1
@[simp] theorem fetchDry_beaconTimer (s : State) (c : ChanId) : (s.fetchDry c).beaconTimer = s.beaconTimer := (fetchDry_frame s c).2.2.2.2.2.2.2.1
@[simp] theorem fetchDry_mc (s : State) (c : ChanId) : (s.fetchDry c).mc = s.mc := (fetchDry_frame s c).2.2.2.2.2.2.2.2.1
@[simp] theorem fetchDry_wake (s : State) (c : ChanId) : (s.fetchDry c).wake = s.wake := (fetchDry_frame s c).2.2.2.2.2.2.2.2.2.1
@[simp] theorem fetchDry_port (s : State) (c : ChanId) : (s.fetchDry c).port = s.port := (fetchDry_frame s c).2.2.2.2.2.2.2.2.2.2.1
@[simp] theorem fetchDry_resetLow (s : State) (c : ChanId) : (s.fetchDry c).resetLow = s.resetLow := (fetchDry_frame s c).2.2.2.2.2.2.2.2.2.2.2.1
@[simp] theorem fetchDry_clock (s : State) (c : ChanId) : (s.fetchDry c).clock = s.clock := (fetchDry_frame s c).2.2.2.2.2.2.2.2.2.2.2.2.1
@[simp] theorem fetchDry_pending (s : State) (c : ChanId) : (s.fetchDry c).pending = s.pending := (fetchDry_frame s c).2.2.2.2.2.2.2.2.2.2.2.2.2
@[simp] theorem fetchDry_cfg (s : State) (c : ChanId) (d : ChanId) : (s.fetchDry c).cfg d = s.cfg d := by simp [State.cfg]
@[simp] theorem fetchDry_slot (s : State) (c : ChanId) (i' : SlotId) : (s.fetchDry c).slot i' = s.slot i' := by simp [State.slot]
@[simp] theorem fetchDry_entry (s : State) (c : ChanId) (a' : Station) : (s.fetchDry c).entry a' = s.entry a' := by simp [State.entry]

@[simp] theorem fetchMet_station (s : State) (c : ChanId) : (s.fetchMet c).station = s.station := by simp [State.fetchMet]
@[simp] theorem fetchMet_configs (s : State) (c : ChanId) : (s.fetchMet c).configs = s.configs := by simp [State.fetchMet]
@[simp] theorem fetchMet_slots (s : State) (c : ChanId) : (s.fetchMet c).slots = s.slots := by simp [State.fetchMet]
@[simp] theorem fetchMet_ram (s : State) (c : ChanId) : (s.fetchMet c).ram = s.ram := by simp [State.fetchMet]
@[simp] theorem fetchMet_line (s : State) (c : ChanId) : (s.fetchMet c).line = s.line := by simp [State.fetchMet]
@[simp] theorem fetchMet_arb (s : State) (c : ChanId) : (s.fetchMet c).arb = s.arb := by simp [State.fetchMet]
@[simp] theorem fetchMet_presence (s : State) (c : ChanId) : (s.fetchMet c).presence = s.presence := by simp [State.fetchMet]
@[simp] theorem fetchMet_beaconTimer (s : State) (c : ChanId) : (s.fetchMet c).beaconTimer = s.beaconTimer := by simp [State.fetchMet]
@[simp] theorem fetchMet_mc (s : State) (c : ChanId) : (s.fetchMet c).mc = s.mc := by simp [State.fetchMet]
@[simp] theorem fetchMet_wake (s : State) (c : ChanId) : (s.fetchMet c).wake = s.wake := by simp [State.fetchMet]
@[simp] theorem fetchMet_notice (s : State) (c : ChanId) : (s.fetchMet c).notice = s.notice := by simp [State.fetchMet]
@[simp] theorem fetchMet_port (s : State) (c : ChanId) : (s.fetchMet c).port = s.port := by simp [State.fetchMet]
@[simp] theorem fetchMet_resetLow (s : State) (c : ChanId) : (s.fetchMet c).resetLow = s.resetLow := by simp [State.fetchMet]
@[simp] theorem fetchMet_clock (s : State) (c : ChanId) : (s.fetchMet c).clock = s.clock := by simp [State.fetchMet]
@[simp] theorem fetchMet_pending (s : State) (c : ChanId) : (s.fetchMet c).pending = s.pending := by simp [State.fetchMet]
@[simp] theorem fetchMet_cfg (s : State) (c : ChanId) (d : ChanId) : (s.fetchMet c).cfg d = s.cfg d := by simp [State.cfg]
@[simp] theorem fetchMet_slot (s : State) (c : ChanId) (i' : SlotId) : (s.fetchMet c).slot i' = s.slot i' := by simp [State.slot]
@[simp] theorem fetchMet_entry (s : State) (c : ChanId) (a' : Station) : (s.fetchMet c).entry a' = s.entry a' := by simp [State.entry]

theorem fetchLoop_frame (s : State) (c : ChanId) (n : Nat) :
    (s.fetchLoop c n).station = s.station ∧ (s.fetchLoop c n).configs = s.configs ∧ (s.fetchLoop c n).ram = s.ram
      ∧ (s.fetchLoop c n).line = s.line ∧ (s.fetchLoop c n).presence = s.presence ∧ (s.fetchLoop c n).beaconTimer = s.beaconTimer
      ∧ (s.fetchLoop c n).mc = s.mc ∧ (s.fetchLoop c n).wake = s.wake ∧ (s.fetchLoop c n).port = s.port
      ∧ (s.fetchLoop c n).resetLow = s.resetLow ∧ (s.fetchLoop c n).clock = s.clock ∧ (s.fetchLoop c n).pending = s.pending := by
  induction n generalizing s with
  | zero => simp [State.fetchLoop]
  | succ n ih => simp only [State.fetchLoop]; repeat' split
                 all_goals simp [ih]
@[simp] theorem fetchLoop_station (s : State) (c : ChanId) (n : Nat) : (s.fetchLoop c n).station = s.station := (fetchLoop_frame s c n).1
@[simp] theorem fetchLoop_configs (s : State) (c : ChanId) (n : Nat) : (s.fetchLoop c n).configs = s.configs := (fetchLoop_frame s c n).2.1
@[simp] theorem fetchLoop_ram (s : State) (c : ChanId) (n : Nat) : (s.fetchLoop c n).ram = s.ram := (fetchLoop_frame s c n).2.2.1
@[simp] theorem fetchLoop_line (s : State) (c : ChanId) (n : Nat) : (s.fetchLoop c n).line = s.line := (fetchLoop_frame s c n).2.2.2.1
@[simp] theorem fetchLoop_presence (s : State) (c : ChanId) (n : Nat) : (s.fetchLoop c n).presence = s.presence := (fetchLoop_frame s c n).2.2.2.2.1
@[simp] theorem fetchLoop_beaconTimer (s : State) (c : ChanId) (n : Nat) : (s.fetchLoop c n).beaconTimer = s.beaconTimer := (fetchLoop_frame s c n).2.2.2.2.2.1
@[simp] theorem fetchLoop_mc (s : State) (c : ChanId) (n : Nat) : (s.fetchLoop c n).mc = s.mc := (fetchLoop_frame s c n).2.2.2.2.2.2.1
@[simp] theorem fetchLoop_wake (s : State) (c : ChanId) (n : Nat) : (s.fetchLoop c n).wake = s.wake := (fetchLoop_frame s c n).2.2.2.2.2.2.2.1
@[simp] theorem fetchLoop_port (s : State) (c : ChanId) (n : Nat) : (s.fetchLoop c n).port = s.port := (fetchLoop_frame s c n).2.2.2.2.2.2.2.2.1
@[simp] theorem fetchLoop_resetLow (s : State) (c : ChanId) (n : Nat) : (s.fetchLoop c n).resetLow = s.resetLow := (fetchLoop_frame s c n).2.2.2.2.2.2.2.2.2.1
@[simp] theorem fetchLoop_clock (s : State) (c : ChanId) (n : Nat) : (s.fetchLoop c n).clock = s.clock := (fetchLoop_frame s c n).2.2.2.2.2.2.2.2.2.2.1
@[simp] theorem fetchLoop_pending (s : State) (c : ChanId) (n : Nat) : (s.fetchLoop c n).pending = s.pending := (fetchLoop_frame s c n).2.2.2.2.2.2.2.2.2.2.2
@[simp] theorem fetchLoop_cfg (s : State) (c : ChanId) (n : Nat) (d : ChanId) : (s.fetchLoop c n).cfg d = s.cfg d := by simp [State.cfg]
@[simp] theorem fetchLoop_entry (s : State) (c : ChanId) (n : Nat) (a' : Station) : (s.fetchLoop c n).entry a' = s.entry a' := by simp [State.entry]

theorem fetch_frame (s : State) (c : ChanId) :
    (s.fetch c).station = s.station ∧ (s.fetch c).configs = s.configs ∧ (s.fetch c).ram = s.ram
      ∧ (s.fetch c).line = s.line ∧ (s.fetch c).presence = s.presence ∧ (s.fetch c).beaconTimer = s.beaconTimer
      ∧ (s.fetch c).mc = s.mc ∧ (s.fetch c).wake = s.wake ∧ (s.fetch c).port = s.port
      ∧ (s.fetch c).resetLow = s.resetLow ∧ (s.fetch c).clock = s.clock ∧ (s.fetch c).pending = s.pending := by
  unfold State.fetch; split <;> simp
@[simp] theorem fetch_station (s : State) (c : ChanId) : (s.fetch c).station = s.station := (fetch_frame s c).1
@[simp] theorem fetch_configs (s : State) (c : ChanId) : (s.fetch c).configs = s.configs := (fetch_frame s c).2.1
@[simp] theorem fetch_ram (s : State) (c : ChanId) : (s.fetch c).ram = s.ram := (fetch_frame s c).2.2.1
@[simp] theorem fetch_line (s : State) (c : ChanId) : (s.fetch c).line = s.line := (fetch_frame s c).2.2.2.1
@[simp] theorem fetch_presence (s : State) (c : ChanId) : (s.fetch c).presence = s.presence := (fetch_frame s c).2.2.2.2.1
@[simp] theorem fetch_beaconTimer (s : State) (c : ChanId) : (s.fetch c).beaconTimer = s.beaconTimer := (fetch_frame s c).2.2.2.2.2.1
@[simp] theorem fetch_mc (s : State) (c : ChanId) : (s.fetch c).mc = s.mc := (fetch_frame s c).2.2.2.2.2.2.1
@[simp] theorem fetch_wake (s : State) (c : ChanId) : (s.fetch c).wake = s.wake := (fetch_frame s c).2.2.2.2.2.2.2.1
@[simp] theorem fetch_port (s : State) (c : ChanId) : (s.fetch c).port = s.port := (fetch_frame s c).2.2.2.2.2.2.2.2.1
@[simp] theorem fetch_resetLow (s : State) (c : ChanId) : (s.fetch c).resetLow = s.resetLow := (fetch_frame s c).2.2.2.2.2.2.2.2.2.1
@[simp] theorem fetch_clock (s : State) (c : ChanId) : (s.fetch c).clock = s.clock := (fetch_frame s c).2.2.2.2.2.2.2.2.2.2.1
@[simp] theorem fetch_pending (s : State) (c : ChanId) : (s.fetch c).pending = s.pending := (fetch_frame s c).2.2.2.2.2.2.2.2.2.2.2
@[simp] theorem fetch_cfg (s : State) (c : ChanId) (d : ChanId) : (s.fetch c).cfg d = s.cfg d := by simp [State.cfg]
@[simp] theorem fetch_entry (s : State) (c : ChanId) (a' : Station) : (s.fetch c).entry a' = s.entry a' := by simp [State.entry]

theorem completeMessage_frame (s : State) (c : ChanId) :
    (s.completeMessage c).station = s.station ∧ (s.completeMessage c).configs = s.configs ∧ (s.completeMessage c).ram = s.ram
      ∧ (s.completeMessage c).line = s.line ∧ (s.completeMessage c).presence = s.presence ∧ (s.completeMessage c).beaconTimer = s.beaconTimer
      ∧ (s.completeMessage c).mc = s.mc ∧ (s.completeMessage c).wake = s.wake ∧ (s.completeMessage c).port = s.port
      ∧ (s.completeMessage c).resetLow = s.resetLow ∧ (s.completeMessage c).clock = s.clock ∧ (s.completeMessage c).pending = s.pending := by
  simp only [State.completeMessage]; split <;> simp
@[simp] theorem completeMessage_station (s : State) (c : ChanId) : (s.completeMessage c).station = s.station := (completeMessage_frame s c).1
@[simp] theorem completeMessage_configs (s : State) (c : ChanId) : (s.completeMessage c).configs = s.configs := (completeMessage_frame s c).2.1
@[simp] theorem completeMessage_ram (s : State) (c : ChanId) : (s.completeMessage c).ram = s.ram := (completeMessage_frame s c).2.2.1
@[simp] theorem completeMessage_line (s : State) (c : ChanId) : (s.completeMessage c).line = s.line := (completeMessage_frame s c).2.2.2.1
@[simp] theorem completeMessage_presence (s : State) (c : ChanId) : (s.completeMessage c).presence = s.presence := (completeMessage_frame s c).2.2.2.2.1
@[simp] theorem completeMessage_beaconTimer (s : State) (c : ChanId) : (s.completeMessage c).beaconTimer = s.beaconTimer := (completeMessage_frame s c).2.2.2.2.2.1
@[simp] theorem completeMessage_mc (s : State) (c : ChanId) : (s.completeMessage c).mc = s.mc := (completeMessage_frame s c).2.2.2.2.2.2.1
@[simp] theorem completeMessage_wake (s : State) (c : ChanId) : (s.completeMessage c).wake = s.wake := (completeMessage_frame s c).2.2.2.2.2.2.2.1
@[simp] theorem completeMessage_port (s : State) (c : ChanId) : (s.completeMessage c).port = s.port := (completeMessage_frame s c).2.2.2.2.2.2.2.2.1
@[simp] theorem completeMessage_resetLow (s : State) (c : ChanId) : (s.completeMessage c).resetLow = s.resetLow := (completeMessage_frame s c).2.2.2.2.2.2.2.2.2.1
@[simp] theorem completeMessage_clock (s : State) (c : ChanId) : (s.completeMessage c).clock = s.clock := (completeMessage_frame s c).2.2.2.2.2.2.2.2.2.2.1
@[simp] theorem completeMessage_pending (s : State) (c : ChanId) : (s.completeMessage c).pending = s.pending := (completeMessage_frame s c).2.2.2.2.2.2.2.2.2.2.2
@[simp] theorem completeMessage_cfg (s : State) (c : ChanId) (d : ChanId) : (s.completeMessage c).cfg d = s.cfg d := by simp [State.cfg]
@[simp] theorem completeMessage_entry (s : State) (c : ChanId) (a' : Station) : (s.completeMessage c).entry a' = s.entry a' := by simp [State.entry]

@[simp] theorem stepWalker_station (s : State) (c : ChanId) : (s.stepWalker c).station = s.station := by simp [State.stepWalker]
@[simp] theorem stepWalker_configs (s : State) (c : ChanId) : (s.stepWalker c).configs = s.configs := by simp [State.stepWalker]
@[simp] theorem stepWalker_slots (s : State) (c : ChanId) : (s.stepWalker c).slots = s.slots := by simp [State.stepWalker]
@[simp] theorem stepWalker_ram (s : State) (c : ChanId) : (s.stepWalker c).ram = s.ram := by simp [State.stepWalker]
@[simp] theorem stepWalker_line (s : State) (c : ChanId) : (s.stepWalker c).line = s.line := by simp [State.stepWalker]
@[simp] theorem stepWalker_arb (s : State) (c : ChanId) : (s.stepWalker c).arb = s.arb := by simp [State.stepWalker]
@[simp] theorem stepWalker_presence (s : State) (c : ChanId) : (s.stepWalker c).presence = s.presence := by simp [State.stepWalker]
@[simp] theorem stepWalker_beaconTimer (s : State) (c : ChanId) : (s.stepWalker c).beaconTimer = s.beaconTimer := by simp [State.stepWalker]
@[simp] theorem stepWalker_mc (s : State) (c : ChanId) : (s.stepWalker c).mc = s.mc := by simp [State.stepWalker]
@[simp] theorem stepWalker_wake (s : State) (c : ChanId) : (s.stepWalker c).wake = s.wake := by simp [State.stepWalker]
@[simp] theorem stepWalker_notice (s : State) (c : ChanId) : (s.stepWalker c).notice = s.notice := by simp [State.stepWalker]
@[simp] theorem stepWalker_port (s : State) (c : ChanId) : (s.stepWalker c).port = s.port := by simp [State.stepWalker]
@[simp] theorem stepWalker_resetLow (s : State) (c : ChanId) : (s.stepWalker c).resetLow = s.resetLow := by simp [State.stepWalker]
@[simp] theorem stepWalker_clock (s : State) (c : ChanId) : (s.stepWalker c).clock = s.clock := by simp [State.stepWalker]
@[simp] theorem stepWalker_pending (s : State) (c : ChanId) : (s.stepWalker c).pending = s.pending := by simp [State.stepWalker]
@[simp] theorem stepWalker_cfg (s : State) (c : ChanId) (d : ChanId) : (s.stepWalker c).cfg d = s.cfg d := by simp [State.cfg]
@[simp] theorem stepWalker_slot (s : State) (c : ChanId) (i' : SlotId) : (s.stepWalker c).slot i' = s.slot i' := by simp [State.slot]
@[simp] theorem stepWalker_entry (s : State) (c : ChanId) (a' : Station) : (s.stepWalker c).entry a' = s.entry a' := by simp [State.entry]

theorem abortWalk_frame (s : State) (c : ChanId) (i : SlotId) (n : Nat) :
    (s.abortWalk c i n).1.station = s.station ∧ (s.abortWalk c i n).1.configs = s.configs ∧ (s.abortWalk c i n).1.contexts = s.contexts
      ∧ (s.abortWalk c i n).1.ram = s.ram ∧ (s.abortWalk c i n).1.line = s.line ∧ (s.abortWalk c i n).1.arb = s.arb
      ∧ (s.abortWalk c i n).1.presence = s.presence ∧ (s.abortWalk c i n).1.beaconTimer = s.beaconTimer ∧ (s.abortWalk c i n).1.mc = s.mc
      ∧ (s.abortWalk c i n).1.wake = s.wake ∧ (s.abortWalk c i n).1.port = s.port ∧ (s.abortWalk c i n).1.resetLow = s.resetLow
      ∧ (s.abortWalk c i n).1.clock = s.clock ∧ (s.abortWalk c i n).1.pending = s.pending := by
  induction n generalizing s i with
  | zero => simp [State.abortWalk]
  | succ n ih => simp only [State.abortWalk]; split <;> simp [ih]
@[simp] theorem abortWalk_station (s : State) (c : ChanId) (i : SlotId) (n : Nat) : (s.abortWalk c i n).1.station = s.station := (abortWalk_frame s c i n).1
@[simp] theorem abortWalk_configs (s : State) (c : ChanId) (i : SlotId) (n : Nat) : (s.abortWalk c i n).1.configs = s.configs := (abortWalk_frame s c i n).2.1
@[simp] theorem abortWalk_contexts (s : State) (c : ChanId) (i : SlotId) (n : Nat) : (s.abortWalk c i n).1.contexts = s.contexts := (abortWalk_frame s c i n).2.2.1
@[simp] theorem abortWalk_ram (s : State) (c : ChanId) (i : SlotId) (n : Nat) : (s.abortWalk c i n).1.ram = s.ram := (abortWalk_frame s c i n).2.2.2.1
@[simp] theorem abortWalk_line (s : State) (c : ChanId) (i : SlotId) (n : Nat) : (s.abortWalk c i n).1.line = s.line := (abortWalk_frame s c i n).2.2.2.2.1
@[simp] theorem abortWalk_arb (s : State) (c : ChanId) (i : SlotId) (n : Nat) : (s.abortWalk c i n).1.arb = s.arb := (abortWalk_frame s c i n).2.2.2.2.2.1
@[simp] theorem abortWalk_presence (s : State) (c : ChanId) (i : SlotId) (n : Nat) : (s.abortWalk c i n).1.presence = s.presence := (abortWalk_frame s c i n).2.2.2.2.2.2.1
@[simp] theorem abortWalk_beaconTimer (s : State) (c : ChanId) (i : SlotId) (n : Nat) : (s.abortWalk c i n).1.beaconTimer = s.beaconTimer := (abortWalk_frame s c i n).2.2.2.2.2.2.2.1
@[simp] theorem abortWalk_mc (s : State) (c : ChanId) (i : SlotId) (n : Nat) : (s.abortWalk c i n).1.mc = s.mc := (abortWalk_frame s c i n).2.2.2.2.2.2.2.2.1
@[simp] theorem abortWalk_wake (s : State) (c : ChanId) (i : SlotId) (n : Nat) : (s.abortWalk c i n).1.wake = s.wake := (abortWalk_frame s c i n).2.2.2.2.2.2.2.2.2.1
@[simp] theorem abortWalk_port (s : State) (c : ChanId) (i : SlotId) (n : Nat) : (s.abortWalk c i n).1.port = s.port := (abortWalk_frame s c i n).2.2.2.2.2.2.2.2.2.2.1
@[simp] theorem abortWalk_resetLow (s : State) (c : ChanId) (i : SlotId) (n : Nat) : (s.abortWalk c i n).1.resetLow = s.resetLow := (abortWalk_frame s c i n).2.2.2.2.2.2.2.2.2.2.2.1
@[simp] theorem abortWalk_clock (s : State) (c : ChanId) (i : SlotId) (n : Nat) : (s.abortWalk c i n).1.clock = s.clock := (abortWalk_frame s c i n).2.2.2.2.2.2.2.2.2.2.2.2.1
@[simp] theorem abortWalk_pending (s : State) (c : ChanId) (i : SlotId) (n : Nat) : (s.abortWalk c i n).1.pending = s.pending := (abortWalk_frame s c i n).2.2.2.2.2.2.2.2.2.2.2.2.2
@[simp] theorem abortWalk_cfg (s : State) (c : ChanId) (i : SlotId) (n : Nat) (d : ChanId) : (s.abortWalk c i n).1.cfg d = s.cfg d := by simp [State.cfg]
@[simp] theorem abortWalk_ctx (s : State) (c : ChanId) (i : SlotId) (n : Nat) (d : ChanId) : (s.abortWalk c i n).1.ctx d = s.ctx d := by simp [State.ctx]
@[simp] theorem abortWalk_entry (s : State) (c : ChanId) (i : SlotId) (n : Nat) (a' : Station) : (s.abortWalk c i n).1.entry a' = s.entry a' := by simp [State.entry]

theorem searchLoop_frame (s : State) (c : ChanId) (n : Nat) :
    (s.searchLoop c n).1.station = s.station ∧ (s.searchLoop c n).1.configs = s.configs ∧ (s.searchLoop c n).1.ram = s.ram
      ∧ (s.searchLoop c n).1.line = s.line ∧ (s.searchLoop c n).1.presence = s.presence ∧ (s.searchLoop c n).1.beaconTimer = s.beaconTimer
      ∧ (s.searchLoop c n).1.mc = s.mc ∧ (s.searchLoop c n).1.wake = s.wake ∧ (s.searchLoop c n).1.port = s.port
      ∧ (s.searchLoop c n).1.resetLow = s.resetLow ∧ (s.searchLoop c n).1.clock = s.clock ∧ (s.searchLoop c n).1.pending = s.pending := by
  induction n generalizing s with
  | zero => simp [State.searchLoop]
  | succ n ih => simp only [State.searchLoop]; repeat' split
                 all_goals simp [ih]
@[simp] theorem searchLoop_station (s : State) (c : ChanId) (n : Nat) : (s.searchLoop c n).1.station = s.station := (searchLoop_frame s c n).1
@[simp] theorem searchLoop_configs (s : State) (c : ChanId) (n : Nat) : (s.searchLoop c n).1.configs = s.configs := (searchLoop_frame s c n).2.1
@[simp] theorem searchLoop_ram (s : State) (c : ChanId) (n : Nat) : (s.searchLoop c n).1.ram = s.ram := (searchLoop_frame s c n).2.2.1
@[simp] theorem searchLoop_line (s : State) (c : ChanId) (n : Nat) : (s.searchLoop c n).1.line = s.line := (searchLoop_frame s c n).2.2.2.1
@[simp] theorem searchLoop_presence (s : State) (c : ChanId) (n : Nat) : (s.searchLoop c n).1.presence = s.presence := (searchLoop_frame s c n).2.2.2.2.1
@[simp] theorem searchLoop_beaconTimer (s : State) (c : ChanId) (n : Nat) : (s.searchLoop c n).1.beaconTimer = s.beaconTimer := (searchLoop_frame s c n).2.2.2.2.2.1
@[simp] theorem searchLoop_mc (s : State) (c : ChanId) (n : Nat) : (s.searchLoop c n).1.mc = s.mc := (searchLoop_frame s c n).2.2.2.2.2.2.1
@[simp] theorem searchLoop_wake (s : State) (c : ChanId) (n : Nat) : (s.searchLoop c n).1.wake = s.wake := (searchLoop_frame s c n).2.2.2.2.2.2.2.1
@[simp] theorem searchLoop_port (s : State) (c : ChanId) (n : Nat) : (s.searchLoop c n).1.port = s.port := (searchLoop_frame s c n).2.2.2.2.2.2.2.2.1
@[simp] theorem searchLoop_resetLow (s : State) (c : ChanId) (n : Nat) : (s.searchLoop c n).1.resetLow = s.resetLow := (searchLoop_frame s c n).2.2.2.2.2.2.2.2.2.1
@[simp] theorem searchLoop_clock (s : State) (c : ChanId) (n : Nat) : (s.searchLoop c n).1.clock = s.clock := (searchLoop_frame s c n).2.2.2.2.2.2.2.2.2.2.1
@[simp] theorem searchLoop_pending (s : State) (c : ChanId) (n : Nat) : (s.searchLoop c n).1.pending = s.pending := (searchLoop_frame s c n).2.2.2.2.2.2.2.2.2.2.2
@[simp] theorem searchLoop_cfg (s : State) (c : ChanId) (n : Nat) (d : ChanId) : (s.searchLoop c n).1.cfg d = s.cfg d := by simp [State.cfg]
@[simp] theorem searchLoop_entry (s : State) (c : ChanId) (n : Nat) (a' : Station) : (s.searchLoop c n).1.entry a' = s.entry a' := by simp [State.entry]

@[simp] theorem search_station (s : State) (c : ChanId) : (s.search c).1.station = s.station := by simp [State.search]
@[simp] theorem search_configs (s : State) (c : ChanId) : (s.search c).1.configs = s.configs := by simp [State.search]
@[simp] theorem search_ram (s : State) (c : ChanId) : (s.search c).1.ram = s.ram := by simp [State.search]
@[simp] theorem search_line (s : State) (c : ChanId) : (s.search c).1.line = s.line := by simp [State.search]
@[simp] theorem search_presence (s : State) (c : ChanId) : (s.search c).1.presence = s.presence := by simp [State.search]
@[simp] theorem search_beaconTimer (s : State) (c : ChanId) : (s.search c).1.beaconTimer = s.beaconTimer := by simp [State.search]
@[simp] theorem search_mc (s : State) (c : ChanId) : (s.search c).1.mc = s.mc := by simp [State.search]
@[simp] theorem search_wake (s : State) (c : ChanId) : (s.search c).1.wake = s.wake := by simp [State.search]
@[simp] theorem search_port (s : State) (c : ChanId) : (s.search c).1.port = s.port := by simp [State.search]
@[simp] theorem search_resetLow (s : State) (c : ChanId) : (s.search c).1.resetLow = s.resetLow := by simp [State.search]
@[simp] theorem search_clock (s : State) (c : ChanId) : (s.search c).1.clock = s.clock := by simp [State.search]
@[simp] theorem search_pending (s : State) (c : ChanId) : (s.search c).1.pending = s.pending := by simp [State.search]
@[simp] theorem search_cfg (s : State) (c : ChanId) (d : ChanId) : (s.search c).1.cfg d = s.cfg d := by simp [State.cfg]
@[simp] theorem search_entry (s : State) (c : ChanId) (a' : Station) : (s.search c).1.entry a' = s.entry a' := by simp [State.entry]

@[simp] theorem openAcked_station (s : State) (c : ChanId) : (s.openAcked c).station = s.station := by simp [State.openAcked]
@[simp] theorem openAcked_configs (s : State) (c : ChanId) : (s.openAcked c).configs = s.configs := by simp [State.openAcked]
@[simp] theorem openAcked_ram (s : State) (c : ChanId) : (s.openAcked c).ram = s.ram := by simp [State.openAcked]
@[simp] theorem openAcked_line (s : State) (c : ChanId) : (s.openAcked c).line = s.line := by simp [State.openAcked]
@[simp] theorem openAcked_presence (s : State) (c : ChanId) : (s.openAcked c).presence = s.presence := by simp [State.openAcked]
@[simp] theorem openAcked_beaconTimer (s : State) (c : ChanId) : (s.openAcked c).beaconTimer = s.beaconTimer := by simp [State.openAcked]
@[simp] theorem openAcked_mc (s : State) (c : ChanId) : (s.openAcked c).mc = s.mc := by simp [State.openAcked]
@[simp] theorem openAcked_wake (s : State) (c : ChanId) : (s.openAcked c).wake = s.wake := by simp [State.openAcked]
@[simp] theorem openAcked_port (s : State) (c : ChanId) : (s.openAcked c).port = s.port := by simp [State.openAcked]
@[simp] theorem openAcked_resetLow (s : State) (c : ChanId) : (s.openAcked c).resetLow = s.resetLow := by simp [State.openAcked]
@[simp] theorem openAcked_clock (s : State) (c : ChanId) : (s.openAcked c).clock = s.clock := by simp [State.openAcked]
@[simp] theorem openAcked_pending (s : State) (c : ChanId) : (s.openAcked c).pending = s.pending := by simp [State.openAcked]
@[simp] theorem openAcked_cfg (s : State) (c : ChanId) (d : ChanId) : (s.openAcked c).cfg d = s.cfg d := by simp [State.cfg]
@[simp] theorem openAcked_entry (s : State) (c : ChanId) (a' : Station) : (s.openAcked c).entry a' = s.entry a' := by simp [State.entry]

@[simp] theorem advance_station (s : State) (c : ChanId) (img : Frame) : (s.advance c img).station = s.station := by simp [State.advance]
@[simp] theorem advance_configs (s : State) (c : ChanId) (img : Frame) : (s.advance c img).configs = s.configs := by simp [State.advance]
@[simp] theorem advance_slots (s : State) (c : ChanId) (img : Frame) : (s.advance c img).slots = s.slots := by simp [State.advance]
@[simp] theorem advance_ram (s : State) (c : ChanId) (img : Frame) : (s.advance c img).ram = s.ram := by simp [State.advance]
@[simp] theorem advance_line (s : State) (c : ChanId) (img : Frame) : (s.advance c img).line = s.line := by simp [State.advance]
@[simp] theorem advance_arb (s : State) (c : ChanId) (img : Frame) : (s.advance c img).arb = s.arb := by simp [State.advance]
@[simp] theorem advance_presence (s : State) (c : ChanId) (img : Frame) : (s.advance c img).presence = s.presence := by simp [State.advance]
@[simp] theorem advance_beaconTimer (s : State) (c : ChanId) (img : Frame) : (s.advance c img).beaconTimer = s.beaconTimer := by simp [State.advance]
@[simp] theorem advance_mc (s : State) (c : ChanId) (img : Frame) : (s.advance c img).mc = s.mc := by simp [State.advance]
@[simp] theorem advance_wake (s : State) (c : ChanId) (img : Frame) : (s.advance c img).wake = s.wake := by simp [State.advance]
@[simp] theorem advance_notice (s : State) (c : ChanId) (img : Frame) : (s.advance c img).notice = s.notice := by simp [State.advance]
@[simp] theorem advance_port (s : State) (c : ChanId) (img : Frame) : (s.advance c img).port = s.port := by simp [State.advance]
@[simp] theorem advance_resetLow (s : State) (c : ChanId) (img : Frame) : (s.advance c img).resetLow = s.resetLow := by simp [State.advance]
@[simp] theorem advance_clock (s : State) (c : ChanId) (img : Frame) : (s.advance c img).clock = s.clock := by simp [State.advance]
@[simp] theorem advance_pending (s : State) (c : ChanId) (img : Frame) : (s.advance c img).pending = s.pending := by simp [State.advance]
@[simp] theorem advance_cfg (s : State) (c : ChanId) (img : Frame) (d : ChanId) : (s.advance c img).cfg d = s.cfg d := by simp [State.cfg]
@[simp] theorem advance_slot (s : State) (c : ChanId) (img : Frame) (i' : SlotId) : (s.advance c img).slot i' = s.slot i' := by simp [State.slot]
@[simp] theorem advance_entry (s : State) (c : ChanId) (img : Frame) (a' : Station) : (s.advance c img).entry a' = s.entry a' := by simp [State.entry]

theorem dataAcked_frame (s : State) (c : ChanId) (img : Frame) :
    (s.dataAcked c img).station = s.station ∧ (s.dataAcked c img).configs = s.configs ∧ (s.dataAcked c img).ram = s.ram
      ∧ (s.dataAcked c img).line = s.line ∧ (s.dataAcked c img).presence = s.presence ∧ (s.dataAcked c img).beaconTimer = s.beaconTimer
      ∧ (s.dataAcked c img).mc = s.mc ∧ (s.dataAcked c img).wake = s.wake ∧ (s.dataAcked c img).port = s.port
      ∧ (s.dataAcked c img).resetLow = s.resetLow ∧ (s.dataAcked c img).clock = s.clock ∧ (s.dataAcked c img).pending = s.pending := by
  simp only [State.dataAcked]; split <;> simp
@[simp] theorem dataAcked_station (s : State) (c : ChanId) (img : Frame) : (s.dataAcked c img).station = s.station := (dataAcked_frame s c img).1
@[simp] theorem dataAcked_configs (s : State) (c : ChanId) (img : Frame) : (s.dataAcked c img).configs = s.configs := (dataAcked_frame s c img).2.1
@[simp] theorem dataAcked_ram (s : State) (c : ChanId) (img : Frame) : (s.dataAcked c img).ram = s.ram := (dataAcked_frame s c img).2.2.1
@[simp] theorem dataAcked_line (s : State) (c : ChanId) (img : Frame) : (s.dataAcked c img).line = s.line := (dataAcked_frame s c img).2.2.2.1
@[simp] theorem dataAcked_presence (s : State) (c : ChanId) (img : Frame) : (s.dataAcked c img).presence = s.presence := (dataAcked_frame s c img).2.2.2.2.1
@[simp] theorem dataAcked_beaconTimer (s : State) (c : ChanId) (img : Frame) : (s.dataAcked c img).beaconTimer = s.beaconTimer := (dataAcked_frame s c img).2.2.2.2.2.1
@[simp] theorem dataAcked_mc (s : State) (c : ChanId) (img : Frame) : (s.dataAcked c img).mc = s.mc := (dataAcked_frame s c img).2.2.2.2.2.2.1
@[simp] theorem dataAcked_wake (s : State) (c : ChanId) (img : Frame) : (s.dataAcked c img).wake = s.wake := (dataAcked_frame s c img).2.2.2.2.2.2.2.1
@[simp] theorem dataAcked_port (s : State) (c : ChanId) (img : Frame) : (s.dataAcked c img).port = s.port := (dataAcked_frame s c img).2.2.2.2.2.2.2.2.1
@[simp] theorem dataAcked_resetLow (s : State) (c : ChanId) (img : Frame) : (s.dataAcked c img).resetLow = s.resetLow := (dataAcked_frame s c img).2.2.2.2.2.2.2.2.2.1
@[simp] theorem dataAcked_clock (s : State) (c : ChanId) (img : Frame) : (s.dataAcked c img).clock = s.clock := (dataAcked_frame s c img).2.2.2.2.2.2.2.2.2.2.1
@[simp] theorem dataAcked_pending (s : State) (c : ChanId) (img : Frame) : (s.dataAcked c img).pending = s.pending := (dataAcked_frame s c img).2.2.2.2.2.2.2.2.2.2.2
@[simp] theorem dataAcked_cfg (s : State) (c : ChanId) (img : Frame) (d : ChanId) : (s.dataAcked c img).cfg d = s.cfg d := by simp [State.cfg]
@[simp] theorem dataAcked_entry (s : State) (c : ChanId) (img : Frame) (a' : Station) : (s.dataAcked c img).entry a' = s.entry a' := by simp [State.entry]

theorem nakAnswered_frame (s : State) (c : ChanId) :
    (s.nakAnswered c).station = s.station ∧ (s.nakAnswered c).configs = s.configs ∧ (s.nakAnswered c).ram = s.ram
      ∧ (s.nakAnswered c).line = s.line ∧ (s.nakAnswered c).presence = s.presence ∧ (s.nakAnswered c).beaconTimer = s.beaconTimer
      ∧ (s.nakAnswered c).mc = s.mc ∧ (s.nakAnswered c).wake = s.wake ∧ (s.nakAnswered c).port = s.port
      ∧ (s.nakAnswered c).resetLow = s.resetLow ∧ (s.nakAnswered c).clock = s.clock ∧ (s.nakAnswered c).pending = s.pending := by
  simp only [State.nakAnswered]; repeat' split
  all_goals simp
@[simp] theorem nakAnswered_station (s : State) (c : ChanId) : (s.nakAnswered c).station = s.station := (nakAnswered_frame s c).1
@[simp] theorem nakAnswered_configs (s : State) (c : ChanId) : (s.nakAnswered c).configs = s.configs := (nakAnswered_frame s c).2.1
@[simp] theorem nakAnswered_ram (s : State) (c : ChanId) : (s.nakAnswered c).ram = s.ram := (nakAnswered_frame s c).2.2.1
@[simp] theorem nakAnswered_line (s : State) (c : ChanId) : (s.nakAnswered c).line = s.line := (nakAnswered_frame s c).2.2.2.1
@[simp] theorem nakAnswered_presence (s : State) (c : ChanId) : (s.nakAnswered c).presence = s.presence := (nakAnswered_frame s c).2.2.2.2.1
@[simp] theorem nakAnswered_beaconTimer (s : State) (c : ChanId) : (s.nakAnswered c).beaconTimer = s.beaconTimer := (nakAnswered_frame s c).2.2.2.2.2.1
@[simp] theorem nakAnswered_mc (s : State) (c : ChanId) : (s.nakAnswered c).mc = s.mc := (nakAnswered_frame s c).2.2.2.2.2.2.1
@[simp] theorem nakAnswered_wake (s : State) (c : ChanId) : (s.nakAnswered c).wake = s.wake := (nakAnswered_frame s c).2.2.2.2.2.2.2.1
@[simp] theorem nakAnswered_port (s : State) (c : ChanId) : (s.nakAnswered c).port = s.port := (nakAnswered_frame s c).2.2.2.2.2.2.2.2.1
@[simp] theorem nakAnswered_resetLow (s : State) (c : ChanId) : (s.nakAnswered c).resetLow = s.resetLow := (nakAnswered_frame s c).2.2.2.2.2.2.2.2.2.1
@[simp] theorem nakAnswered_clock (s : State) (c : ChanId) : (s.nakAnswered c).clock = s.clock := (nakAnswered_frame s c).2.2.2.2.2.2.2.2.2.2.1
@[simp] theorem nakAnswered_pending (s : State) (c : ChanId) : (s.nakAnswered c).pending = s.pending := (nakAnswered_frame s c).2.2.2.2.2.2.2.2.2.2.2
@[simp] theorem nakAnswered_cfg (s : State) (c : ChanId) (d : ChanId) : (s.nakAnswered c).cfg d = s.cfg d := by simp [State.cfg]
@[simp] theorem nakAnswered_entry (s : State) (c : ChanId) (a' : Station) : (s.nakAnswered c).entry a' = s.entry a' := by simp [State.entry]

@[simp] theorem exhaust_station (s : State) (c : ChanId) : (s.exhaust c).station = s.station := by simp [State.exhaust]
@[simp] theorem exhaust_configs (s : State) (c : ChanId) : (s.exhaust c).configs = s.configs := by simp [State.exhaust]
@[simp] theorem exhaust_ram (s : State) (c : ChanId) : (s.exhaust c).ram = s.ram := by simp [State.exhaust]
@[simp] theorem exhaust_line (s : State) (c : ChanId) : (s.exhaust c).line = s.line := by simp [State.exhaust]
@[simp] theorem exhaust_beaconTimer (s : State) (c : ChanId) : (s.exhaust c).beaconTimer = s.beaconTimer := by simp [State.exhaust]
@[simp] theorem exhaust_mc (s : State) (c : ChanId) : (s.exhaust c).mc = s.mc := by simp [State.exhaust]
@[simp] theorem exhaust_wake (s : State) (c : ChanId) : (s.exhaust c).wake = s.wake := by simp [State.exhaust]
@[simp] theorem exhaust_port (s : State) (c : ChanId) : (s.exhaust c).port = s.port := by simp [State.exhaust]
@[simp] theorem exhaust_resetLow (s : State) (c : ChanId) : (s.exhaust c).resetLow = s.resetLow := by simp [State.exhaust]
@[simp] theorem exhaust_clock (s : State) (c : ChanId) : (s.exhaust c).clock = s.clock := by simp [State.exhaust]
@[simp] theorem exhaust_pending (s : State) (c : ChanId) : (s.exhaust c).pending = s.pending := by simp [State.exhaust]
@[simp] theorem exhaust_cfg (s : State) (c : ChanId) (d : ChanId) : (s.exhaust c).cfg d = s.cfg d := by simp [State.cfg]

theorem countRetry_frame (s : State) (c : ChanId) :
    (s.countRetry c).station = s.station ∧ (s.countRetry c).configs = s.configs ∧ (s.countRetry c).ram = s.ram
      ∧ (s.countRetry c).line = s.line ∧ (s.countRetry c).beaconTimer = s.beaconTimer ∧ (s.countRetry c).mc = s.mc
      ∧ (s.countRetry c).wake = s.wake ∧ (s.countRetry c).port = s.port ∧ (s.countRetry c).resetLow = s.resetLow
      ∧ (s.countRetry c).clock = s.clock ∧ (s.countRetry c).pending = s.pending := by
  unfold State.countRetry; split <;> simp
@[simp] theorem countRetry_station (s : State) (c : ChanId) : (s.countRetry c).station = s.station := (countRetry_frame s c).1
@[simp] theorem countRetry_configs (s : State) (c : ChanId) : (s.countRetry c).configs = s.configs := (countRetry_frame s c).2.1
@[simp] theorem countRetry_ram (s : State) (c : ChanId) : (s.countRetry c).ram = s.ram := (countRetry_frame s c).2.2.1
@[simp] theorem countRetry_line (s : State) (c : ChanId) : (s.countRetry c).line = s.line := (countRetry_frame s c).2.2.2.1
@[simp] theorem countRetry_beaconTimer (s : State) (c : ChanId) : (s.countRetry c).beaconTimer = s.beaconTimer := (countRetry_frame s c).2.2.2.2.1
@[simp] theorem countRetry_mc (s : State) (c : ChanId) : (s.countRetry c).mc = s.mc := (countRetry_frame s c).2.2.2.2.2.1
@[simp] theorem countRetry_wake (s : State) (c : ChanId) : (s.countRetry c).wake = s.wake := (countRetry_frame s c).2.2.2.2.2.2.1
@[simp] theorem countRetry_port (s : State) (c : ChanId) : (s.countRetry c).port = s.port := (countRetry_frame s c).2.2.2.2.2.2.2.1
@[simp] theorem countRetry_resetLow (s : State) (c : ChanId) : (s.countRetry c).resetLow = s.resetLow := (countRetry_frame s c).2.2.2.2.2.2.2.2.1
@[simp] theorem countRetry_clock (s : State) (c : ChanId) : (s.countRetry c).clock = s.clock := (countRetry_frame s c).2.2.2.2.2.2.2.2.2.1
@[simp] theorem countRetry_pending (s : State) (c : ChanId) : (s.countRetry c).pending = s.pending := (countRetry_frame s c).2.2.2.2.2.2.2.2.2.2
@[simp] theorem countRetry_cfg (s : State) (c : ChanId) (d : ChanId) : (s.countRetry c).cfg d = s.cfg d := by simp [State.cfg]

theorem sendOutcome_frame (s : State) (c : ChanId) (img : Frame) (o : AttemptOutcome) :
    (s.sendOutcome c img o).station = s.station ∧ (s.sendOutcome c img o).configs = s.configs ∧ (s.sendOutcome c img o).ram = s.ram
      ∧ (s.sendOutcome c img o).line = s.line ∧ (s.sendOutcome c img o).beaconTimer = s.beaconTimer ∧ (s.sendOutcome c img o).mc = s.mc
      ∧ (s.sendOutcome c img o).wake = s.wake ∧ (s.sendOutcome c img o).port = s.port ∧ (s.sendOutcome c img o).resetLow = s.resetLow
      ∧ (s.sendOutcome c img o).clock = s.clock ∧ (s.sendOutcome c img o).pending = s.pending := by
  unfold State.sendOutcome; repeat' split
  all_goals simp
@[simp] theorem sendOutcome_station (s : State) (c : ChanId) (img : Frame) (o : AttemptOutcome) : (s.sendOutcome c img o).station = s.station := (sendOutcome_frame s c img o).1
@[simp] theorem sendOutcome_configs (s : State) (c : ChanId) (img : Frame) (o : AttemptOutcome) : (s.sendOutcome c img o).configs = s.configs := (sendOutcome_frame s c img o).2.1
@[simp] theorem sendOutcome_ram (s : State) (c : ChanId) (img : Frame) (o : AttemptOutcome) : (s.sendOutcome c img o).ram = s.ram := (sendOutcome_frame s c img o).2.2.1
@[simp] theorem sendOutcome_line (s : State) (c : ChanId) (img : Frame) (o : AttemptOutcome) : (s.sendOutcome c img o).line = s.line := (sendOutcome_frame s c img o).2.2.2.1
@[simp] theorem sendOutcome_beaconTimer (s : State) (c : ChanId) (img : Frame) (o : AttemptOutcome) : (s.sendOutcome c img o).beaconTimer = s.beaconTimer := (sendOutcome_frame s c img o).2.2.2.2.1
@[simp] theorem sendOutcome_mc (s : State) (c : ChanId) (img : Frame) (o : AttemptOutcome) : (s.sendOutcome c img o).mc = s.mc := (sendOutcome_frame s c img o).2.2.2.2.2.1
@[simp] theorem sendOutcome_wake (s : State) (c : ChanId) (img : Frame) (o : AttemptOutcome) : (s.sendOutcome c img o).wake = s.wake := (sendOutcome_frame s c img o).2.2.2.2.2.2.1
@[simp] theorem sendOutcome_port (s : State) (c : ChanId) (img : Frame) (o : AttemptOutcome) : (s.sendOutcome c img o).port = s.port := (sendOutcome_frame s c img o).2.2.2.2.2.2.2.1
@[simp] theorem sendOutcome_resetLow (s : State) (c : ChanId) (img : Frame) (o : AttemptOutcome) : (s.sendOutcome c img o).resetLow = s.resetLow := (sendOutcome_frame s c img o).2.2.2.2.2.2.2.2.1
@[simp] theorem sendOutcome_clock (s : State) (c : ChanId) (img : Frame) (o : AttemptOutcome) : (s.sendOutcome c img o).clock = s.clock := (sendOutcome_frame s c img o).2.2.2.2.2.2.2.2.2.1
@[simp] theorem sendOutcome_pending (s : State) (c : ChanId) (img : Frame) (o : AttemptOutcome) : (s.sendOutcome c img o).pending = s.pending := (sendOutcome_frame s c img o).2.2.2.2.2.2.2.2.2.2
@[simp] theorem sendOutcome_cfg (s : State) (c : ChanId) (img : Frame) (o : AttemptOutcome) (d : ChanId) : (s.sendOutcome c img o).cfg d = s.cfg d := by simp [State.cfg]

theorem publishOutcome_frame (s : State) (c : ChanId) (o : AttemptOutcome) :
    (s.publishOutcome c o).station = s.station ∧ (s.publishOutcome c o).configs = s.configs ∧ (s.publishOutcome c o).ram = s.ram
      ∧ (s.publishOutcome c o).line = s.line ∧ (s.publishOutcome c o).presence = s.presence ∧ (s.publishOutcome c o).beaconTimer = s.beaconTimer
      ∧ (s.publishOutcome c o).mc = s.mc ∧ (s.publishOutcome c o).wake = s.wake ∧ (s.publishOutcome c o).port = s.port
      ∧ (s.publishOutcome c o).resetLow = s.resetLow ∧ (s.publishOutcome c o).clock = s.clock ∧ (s.publishOutcome c o).pending = s.pending := by
  unfold State.publishOutcome; split <;> simp
@[simp] theorem publishOutcome_station (s : State) (c : ChanId) (o : AttemptOutcome) : (s.publishOutcome c o).station = s.station := (publishOutcome_frame s c o).1
@[simp] theorem publishOutcome_configs (s : State) (c : ChanId) (o : AttemptOutcome) : (s.publishOutcome c o).configs = s.configs := (publishOutcome_frame s c o).2.1
@[simp] theorem publishOutcome_ram (s : State) (c : ChanId) (o : AttemptOutcome) : (s.publishOutcome c o).ram = s.ram := (publishOutcome_frame s c o).2.2.1
@[simp] theorem publishOutcome_line (s : State) (c : ChanId) (o : AttemptOutcome) : (s.publishOutcome c o).line = s.line := (publishOutcome_frame s c o).2.2.2.1
@[simp] theorem publishOutcome_presence (s : State) (c : ChanId) (o : AttemptOutcome) : (s.publishOutcome c o).presence = s.presence := (publishOutcome_frame s c o).2.2.2.2.1
@[simp] theorem publishOutcome_beaconTimer (s : State) (c : ChanId) (o : AttemptOutcome) : (s.publishOutcome c o).beaconTimer = s.beaconTimer := (publishOutcome_frame s c o).2.2.2.2.2.1
@[simp] theorem publishOutcome_mc (s : State) (c : ChanId) (o : AttemptOutcome) : (s.publishOutcome c o).mc = s.mc := (publishOutcome_frame s c o).2.2.2.2.2.2.1
@[simp] theorem publishOutcome_wake (s : State) (c : ChanId) (o : AttemptOutcome) : (s.publishOutcome c o).wake = s.wake := (publishOutcome_frame s c o).2.2.2.2.2.2.2.1
@[simp] theorem publishOutcome_port (s : State) (c : ChanId) (o : AttemptOutcome) : (s.publishOutcome c o).port = s.port := (publishOutcome_frame s c o).2.2.2.2.2.2.2.2.1
@[simp] theorem publishOutcome_resetLow (s : State) (c : ChanId) (o : AttemptOutcome) : (s.publishOutcome c o).resetLow = s.resetLow := (publishOutcome_frame s c o).2.2.2.2.2.2.2.2.2.1
@[simp] theorem publishOutcome_clock (s : State) (c : ChanId) (o : AttemptOutcome) : (s.publishOutcome c o).clock = s.clock := (publishOutcome_frame s c o).2.2.2.2.2.2.2.2.2.2.1
@[simp] theorem publishOutcome_pending (s : State) (c : ChanId) (o : AttemptOutcome) : (s.publishOutcome c o).pending = s.pending := (publishOutcome_frame s c o).2.2.2.2.2.2.2.2.2.2.2
@[simp] theorem publishOutcome_cfg (s : State) (c : ChanId) (o : AttemptOutcome) (d : ChanId) : (s.publishOutcome c o).cfg d = s.cfg d := by simp [State.cfg]
@[simp] theorem publishOutcome_entry (s : State) (c : ChanId) (o : AttemptOutcome) (a' : Station) : (s.publishOutcome c o).entry a' = s.entry a' := by simp [State.entry]

theorem settleHalt_frame (s : State) (c : ChanId) :
    (s.settleHalt c).station = s.station ∧ (s.settleHalt c).configs = s.configs ∧ (s.settleHalt c).ram = s.ram
      ∧ (s.settleHalt c).line = s.line ∧ (s.settleHalt c).presence = s.presence ∧ (s.settleHalt c).beaconTimer = s.beaconTimer
      ∧ (s.settleHalt c).mc = s.mc ∧ (s.settleHalt c).wake = s.wake ∧ (s.settleHalt c).port = s.port
      ∧ (s.settleHalt c).resetLow = s.resetLow ∧ (s.settleHalt c).clock = s.clock ∧ (s.settleHalt c).pending = s.pending := by
  unfold State.settleHalt; split <;> simp
@[simp] theorem settleHalt_station (s : State) (c : ChanId) : (s.settleHalt c).station = s.station := (settleHalt_frame s c).1
@[simp] theorem settleHalt_configs (s : State) (c : ChanId) : (s.settleHalt c).configs = s.configs := (settleHalt_frame s c).2.1
@[simp] theorem settleHalt_ram (s : State) (c : ChanId) : (s.settleHalt c).ram = s.ram := (settleHalt_frame s c).2.2.1
@[simp] theorem settleHalt_line (s : State) (c : ChanId) : (s.settleHalt c).line = s.line := (settleHalt_frame s c).2.2.2.1
@[simp] theorem settleHalt_presence (s : State) (c : ChanId) : (s.settleHalt c).presence = s.presence := (settleHalt_frame s c).2.2.2.2.1
@[simp] theorem settleHalt_beaconTimer (s : State) (c : ChanId) : (s.settleHalt c).beaconTimer = s.beaconTimer := (settleHalt_frame s c).2.2.2.2.2.1
@[simp] theorem settleHalt_mc (s : State) (c : ChanId) : (s.settleHalt c).mc = s.mc := (settleHalt_frame s c).2.2.2.2.2.2.1
@[simp] theorem settleHalt_wake (s : State) (c : ChanId) : (s.settleHalt c).wake = s.wake := (settleHalt_frame s c).2.2.2.2.2.2.2.1
@[simp] theorem settleHalt_port (s : State) (c : ChanId) : (s.settleHalt c).port = s.port := (settleHalt_frame s c).2.2.2.2.2.2.2.2.1
@[simp] theorem settleHalt_resetLow (s : State) (c : ChanId) : (s.settleHalt c).resetLow = s.resetLow := (settleHalt_frame s c).2.2.2.2.2.2.2.2.2.1
@[simp] theorem settleHalt_clock (s : State) (c : ChanId) : (s.settleHalt c).clock = s.clock := (settleHalt_frame s c).2.2.2.2.2.2.2.2.2.2.1
@[simp] theorem settleHalt_pending (s : State) (c : ChanId) : (s.settleHalt c).pending = s.pending := (settleHalt_frame s c).2.2.2.2.2.2.2.2.2.2.2
@[simp] theorem settleHalt_cfg (s : State) (c : ChanId) (d : ChanId) : (s.settleHalt c).cfg d = s.cfg d := by simp [State.cfg]
@[simp] theorem settleHalt_entry (s : State) (c : ChanId) (a' : Station) : (s.settleHalt c).entry a' = s.entry a' := by simp [State.entry]

theorem channelOutcome_frame (s : State) (c : ChanId) (img : Frame) (o : AttemptOutcome) :
    (s.channelOutcome c img o).station = s.station ∧ (s.channelOutcome c img o).configs = s.configs ∧ (s.channelOutcome c img o).ram = s.ram
      ∧ (s.channelOutcome c img o).line = s.line ∧ (s.channelOutcome c img o).beaconTimer = s.beaconTimer ∧ (s.channelOutcome c img o).mc = s.mc
      ∧ (s.channelOutcome c img o).wake = s.wake ∧ (s.channelOutcome c img o).port = s.port ∧ (s.channelOutcome c img o).resetLow = s.resetLow
      ∧ (s.channelOutcome c img o).clock = s.clock ∧ (s.channelOutcome c img o).pending = s.pending := by
  simp only [State.channelOutcome]; split <;> simp
@[simp] theorem channelOutcome_station (s : State) (c : ChanId) (img : Frame) (o : AttemptOutcome) : (s.channelOutcome c img o).station = s.station := (channelOutcome_frame s c img o).1
@[simp] theorem channelOutcome_configs (s : State) (c : ChanId) (img : Frame) (o : AttemptOutcome) : (s.channelOutcome c img o).configs = s.configs := (channelOutcome_frame s c img o).2.1
@[simp] theorem channelOutcome_ram (s : State) (c : ChanId) (img : Frame) (o : AttemptOutcome) : (s.channelOutcome c img o).ram = s.ram := (channelOutcome_frame s c img o).2.2.1
@[simp] theorem channelOutcome_line (s : State) (c : ChanId) (img : Frame) (o : AttemptOutcome) : (s.channelOutcome c img o).line = s.line := (channelOutcome_frame s c img o).2.2.2.1
@[simp] theorem channelOutcome_beaconTimer (s : State) (c : ChanId) (img : Frame) (o : AttemptOutcome) : (s.channelOutcome c img o).beaconTimer = s.beaconTimer := (channelOutcome_frame s c img o).2.2.2.2.1
@[simp] theorem channelOutcome_mc (s : State) (c : ChanId) (img : Frame) (o : AttemptOutcome) : (s.channelOutcome c img o).mc = s.mc := (channelOutcome_frame s c img o).2.2.2.2.2.1
@[simp] theorem channelOutcome_wake (s : State) (c : ChanId) (img : Frame) (o : AttemptOutcome) : (s.channelOutcome c img o).wake = s.wake := (channelOutcome_frame s c img o).2.2.2.2.2.2.1
@[simp] theorem channelOutcome_port (s : State) (c : ChanId) (img : Frame) (o : AttemptOutcome) : (s.channelOutcome c img o).port = s.port := (channelOutcome_frame s c img o).2.2.2.2.2.2.2.1
@[simp] theorem channelOutcome_resetLow (s : State) (c : ChanId) (img : Frame) (o : AttemptOutcome) : (s.channelOutcome c img o).resetLow = s.resetLow := (channelOutcome_frame s c img o).2.2.2.2.2.2.2.2.1
@[simp] theorem channelOutcome_clock (s : State) (c : ChanId) (img : Frame) (o : AttemptOutcome) : (s.channelOutcome c img o).clock = s.clock := (channelOutcome_frame s c img o).2.2.2.2.2.2.2.2.2.1
@[simp] theorem channelOutcome_pending (s : State) (c : ChanId) (img : Frame) (o : AttemptOutcome) : (s.channelOutcome c img o).pending = s.pending := (channelOutcome_frame s c img o).2.2.2.2.2.2.2.2.2.2
@[simp] theorem channelOutcome_cfg (s : State) (c : ChanId) (img : Frame) (o : AttemptOutcome) (d : ChanId) : (s.channelOutcome c img o).cfg d = s.cfg d := by simp [State.cfg]

theorem holdAfter_frame (s : State) (c : ChanId) (h : Bool) :
    (s.holdAfter c h).station = s.station ∧ (s.holdAfter c h).configs = s.configs ∧ (s.holdAfter c h).slots = s.slots
      ∧ (s.holdAfter c h).ram = s.ram ∧ (s.holdAfter c h).line = s.line ∧ (s.holdAfter c h).arb = s.arb
      ∧ (s.holdAfter c h).presence = s.presence ∧ (s.holdAfter c h).beaconTimer = s.beaconTimer ∧ (s.holdAfter c h).mc = s.mc
      ∧ (s.holdAfter c h).wake = s.wake ∧ (s.holdAfter c h).notice = s.notice ∧ (s.holdAfter c h).port = s.port
      ∧ (s.holdAfter c h).resetLow = s.resetLow ∧ (s.holdAfter c h).clock = s.clock ∧ (s.holdAfter c h).pending = s.pending := by
  unfold State.holdAfter; split <;> simp
@[simp] theorem holdAfter_station (s : State) (c : ChanId) (h : Bool) : (s.holdAfter c h).station = s.station := (holdAfter_frame s c h).1
@[simp] theorem holdAfter_configs (s : State) (c : ChanId) (h : Bool) : (s.holdAfter c h).configs = s.configs := (holdAfter_frame s c h).2.1
@[simp] theorem holdAfter_slots (s : State) (c : ChanId) (h : Bool) : (s.holdAfter c h).slots = s.slots := (holdAfter_frame s c h).2.2.1
@[simp] theorem holdAfter_ram (s : State) (c : ChanId) (h : Bool) : (s.holdAfter c h).ram = s.ram := (holdAfter_frame s c h).2.2.2.1
@[simp] theorem holdAfter_line (s : State) (c : ChanId) (h : Bool) : (s.holdAfter c h).line = s.line := (holdAfter_frame s c h).2.2.2.2.1
@[simp] theorem holdAfter_arb (s : State) (c : ChanId) (h : Bool) : (s.holdAfter c h).arb = s.arb := (holdAfter_frame s c h).2.2.2.2.2.1
@[simp] theorem holdAfter_presence (s : State) (c : ChanId) (h : Bool) : (s.holdAfter c h).presence = s.presence := (holdAfter_frame s c h).2.2.2.2.2.2.1
@[simp] theorem holdAfter_beaconTimer (s : State) (c : ChanId) (h : Bool) : (s.holdAfter c h).beaconTimer = s.beaconTimer := (holdAfter_frame s c h).2.2.2.2.2.2.2.1
@[simp] theorem holdAfter_mc (s : State) (c : ChanId) (h : Bool) : (s.holdAfter c h).mc = s.mc := (holdAfter_frame s c h).2.2.2.2.2.2.2.2.1
@[simp] theorem holdAfter_wake (s : State) (c : ChanId) (h : Bool) : (s.holdAfter c h).wake = s.wake := (holdAfter_frame s c h).2.2.2.2.2.2.2.2.2.1
@[simp] theorem holdAfter_notice (s : State) (c : ChanId) (h : Bool) : (s.holdAfter c h).notice = s.notice := (holdAfter_frame s c h).2.2.2.2.2.2.2.2.2.2.1
@[simp] theorem holdAfter_port (s : State) (c : ChanId) (h : Bool) : (s.holdAfter c h).port = s.port := (holdAfter_frame s c h).2.2.2.2.2.2.2.2.2.2.2.1
@[simp] theorem holdAfter_resetLow (s : State) (c : ChanId) (h : Bool) : (s.holdAfter c h).resetLow = s.resetLow := (holdAfter_frame s c h).2.2.2.2.2.2.2.2.2.2.2.2.1
@[simp] theorem holdAfter_clock (s : State) (c : ChanId) (h : Bool) : (s.holdAfter c h).clock = s.clock := (holdAfter_frame s c h).2.2.2.2.2.2.2.2.2.2.2.2.2.1
@[simp] theorem holdAfter_pending (s : State) (c : ChanId) (h : Bool) : (s.holdAfter c h).pending = s.pending := (holdAfter_frame s c h).2.2.2.2.2.2.2.2.2.2.2.2.2.2
@[simp] theorem holdAfter_cfg (s : State) (c : ChanId) (h : Bool) (d : ChanId) : (s.holdAfter c h).cfg d = s.cfg d := by simp [State.cfg]
@[simp] theorem holdAfter_slot (s : State) (c : ChanId) (h : Bool) (i' : SlotId) : (s.holdAfter c h).slot i' = s.slot i' := by simp [State.slot]
@[simp] theorem holdAfter_entry (s : State) (c : ChanId) (h : Bool) (a' : Station) : (s.holdAfter c h).entry a' = s.entry a' := by simp [State.entry]

@[simp] theorem closeCurrent_station (s : State) (c : ChanId) (k : SlotCopy) (st : Status) (e : Bool) : (s.closeCurrent c k st e).station = s.station := by simp [State.closeCurrent]
@[simp] theorem closeCurrent_configs (s : State) (c : ChanId) (k : SlotCopy) (st : Status) (e : Bool) : (s.closeCurrent c k st e).configs = s.configs := by simp [State.closeCurrent]
@[simp] theorem closeCurrent_ram (s : State) (c : ChanId) (k : SlotCopy) (st : Status) (e : Bool) : (s.closeCurrent c k st e).ram = s.ram := by simp [State.closeCurrent]
@[simp] theorem closeCurrent_line (s : State) (c : ChanId) (k : SlotCopy) (st : Status) (e : Bool) : (s.closeCurrent c k st e).line = s.line := by simp [State.closeCurrent]
@[simp] theorem closeCurrent_arb (s : State) (c : ChanId) (k : SlotCopy) (st : Status) (e : Bool) : (s.closeCurrent c k st e).arb = s.arb := by simp [State.closeCurrent]
@[simp] theorem closeCurrent_presence (s : State) (c : ChanId) (k : SlotCopy) (st : Status) (e : Bool) : (s.closeCurrent c k st e).presence = s.presence := by simp [State.closeCurrent]
@[simp] theorem closeCurrent_beaconTimer (s : State) (c : ChanId) (k : SlotCopy) (st : Status) (e : Bool) : (s.closeCurrent c k st e).beaconTimer = s.beaconTimer := by simp [State.closeCurrent]
@[simp] theorem closeCurrent_mc (s : State) (c : ChanId) (k : SlotCopy) (st : Status) (e : Bool) : (s.closeCurrent c k st e).mc = s.mc := by simp [State.closeCurrent]
@[simp] theorem closeCurrent_wake (s : State) (c : ChanId) (k : SlotCopy) (st : Status) (e : Bool) : (s.closeCurrent c k st e).wake = s.wake := by simp [State.closeCurrent]
@[simp] theorem closeCurrent_port (s : State) (c : ChanId) (k : SlotCopy) (st : Status) (e : Bool) : (s.closeCurrent c k st e).port = s.port := by simp [State.closeCurrent]
@[simp] theorem closeCurrent_resetLow (s : State) (c : ChanId) (k : SlotCopy) (st : Status) (e : Bool) : (s.closeCurrent c k st e).resetLow = s.resetLow := by simp [State.closeCurrent]
@[simp] theorem closeCurrent_clock (s : State) (c : ChanId) (k : SlotCopy) (st : Status) (e : Bool) : (s.closeCurrent c k st e).clock = s.clock := by simp [State.closeCurrent]
@[simp] theorem closeCurrent_pending (s : State) (c : ChanId) (k : SlotCopy) (st : Status) (e : Bool) : (s.closeCurrent c k st e).pending = s.pending := by simp [State.closeCurrent]
@[simp] theorem closeCurrent_cfg (s : State) (c : ChanId) (k : SlotCopy) (st : Status) (e : Bool) (d : ChanId) : (s.closeCurrent c k st e).cfg d = s.cfg d := by simp [State.cfg]
@[simp] theorem closeCurrent_entry (s : State) (c : ChanId) (k : SlotCopy) (st : Status) (e : Bool) (a' : Station) : (s.closeCurrent c k st e).entry a' = s.entry a' := by simp [State.entry]

theorem cut_frame (s : State) (c : ChanId) :
    (s.cut c).station = s.station ∧ (s.cut c).configs = s.configs ∧ (s.cut c).ram = s.ram
      ∧ (s.cut c).line = s.line ∧ (s.cut c).arb = s.arb ∧ (s.cut c).presence = s.presence
      ∧ (s.cut c).beaconTimer = s.beaconTimer ∧ (s.cut c).mc = s.mc ∧ (s.cut c).wake = s.wake
      ∧ (s.cut c).port = s.port ∧ (s.cut c).resetLow = s.resetLow ∧ (s.cut c).clock = s.clock
      ∧ (s.cut c).pending = s.pending := by
  unfold State.cut; split <;> simp
@[simp] theorem cut_station (s : State) (c : ChanId) : (s.cut c).station = s.station := (cut_frame s c).1
@[simp] theorem cut_configs (s : State) (c : ChanId) : (s.cut c).configs = s.configs := (cut_frame s c).2.1
@[simp] theorem cut_ram (s : State) (c : ChanId) : (s.cut c).ram = s.ram := (cut_frame s c).2.2.1
@[simp] theorem cut_line (s : State) (c : ChanId) : (s.cut c).line = s.line := (cut_frame s c).2.2.2.1
@[simp] theorem cut_arb (s : State) (c : ChanId) : (s.cut c).arb = s.arb := (cut_frame s c).2.2.2.2.1
@[simp] theorem cut_presence (s : State) (c : ChanId) : (s.cut c).presence = s.presence := (cut_frame s c).2.2.2.2.2.1
@[simp] theorem cut_beaconTimer (s : State) (c : ChanId) : (s.cut c).beaconTimer = s.beaconTimer := (cut_frame s c).2.2.2.2.2.2.1
@[simp] theorem cut_mc (s : State) (c : ChanId) : (s.cut c).mc = s.mc := (cut_frame s c).2.2.2.2.2.2.2.1
@[simp] theorem cut_wake (s : State) (c : ChanId) : (s.cut c).wake = s.wake := (cut_frame s c).2.2.2.2.2.2.2.2.1
@[simp] theorem cut_port (s : State) (c : ChanId) : (s.cut c).port = s.port := (cut_frame s c).2.2.2.2.2.2.2.2.2.1
@[simp] theorem cut_resetLow (s : State) (c : ChanId) : (s.cut c).resetLow = s.resetLow := (cut_frame s c).2.2.2.2.2.2.2.2.2.2.1
@[simp] theorem cut_clock (s : State) (c : ChanId) : (s.cut c).clock = s.clock := (cut_frame s c).2.2.2.2.2.2.2.2.2.2.2.1
@[simp] theorem cut_pending (s : State) (c : ChanId) : (s.cut c).pending = s.pending := (cut_frame s c).2.2.2.2.2.2.2.2.2.2.2.2
@[simp] theorem cut_cfg (s : State) (c : ChanId) (d : ChanId) : (s.cut c).cfg d = s.cfg d := by simp [State.cfg]
@[simp] theorem cut_entry (s : State) (c : ChanId) (a' : Station) : (s.cut c).entry a' = s.entry a' := by simp [State.entry]

theorem lackOfSpace_frame (s : State) (c : ChanId) :
    (s.lackOfSpace c).station = s.station ∧ (s.lackOfSpace c).configs = s.configs ∧ (s.lackOfSpace c).slots = s.slots
      ∧ (s.lackOfSpace c).ram = s.ram ∧ (s.lackOfSpace c).line = s.line ∧ (s.lackOfSpace c).arb = s.arb
      ∧ (s.lackOfSpace c).presence = s.presence ∧ (s.lackOfSpace c).beaconTimer = s.beaconTimer ∧ (s.lackOfSpace c).mc = s.mc
      ∧ (s.lackOfSpace c).wake = s.wake ∧ (s.lackOfSpace c).port = s.port ∧ (s.lackOfSpace c).resetLow = s.resetLow
      ∧ (s.lackOfSpace c).clock = s.clock ∧ (s.lackOfSpace c).pending = s.pending := by
  unfold State.lackOfSpace; split <;> simp
@[simp] theorem lackOfSpace_station (s : State) (c : ChanId) : (s.lackOfSpace c).station = s.station := (lackOfSpace_frame s c).1
@[simp] theorem lackOfSpace_configs (s : State) (c : ChanId) : (s.lackOfSpace c).configs = s.configs := (lackOfSpace_frame s c).2.1
@[simp] theorem lackOfSpace_slots (s : State) (c : ChanId) : (s.lackOfSpace c).slots = s.slots := (lackOfSpace_frame s c).2.2.1
@[simp] theorem lackOfSpace_ram (s : State) (c : ChanId) : (s.lackOfSpace c).ram = s.ram := (lackOfSpace_frame s c).2.2.2.1
@[simp] theorem lackOfSpace_line (s : State) (c : ChanId) : (s.lackOfSpace c).line = s.line := (lackOfSpace_frame s c).2.2.2.2.1
@[simp] theorem lackOfSpace_arb (s : State) (c : ChanId) : (s.lackOfSpace c).arb = s.arb := (lackOfSpace_frame s c).2.2.2.2.2.1
@[simp] theorem lackOfSpace_presence (s : State) (c : ChanId) : (s.lackOfSpace c).presence = s.presence := (lackOfSpace_frame s c).2.2.2.2.2.2.1
@[simp] theorem lackOfSpace_beaconTimer (s : State) (c : ChanId) : (s.lackOfSpace c).beaconTimer = s.beaconTimer := (lackOfSpace_frame s c).2.2.2.2.2.2.2.1
@[simp] theorem lackOfSpace_mc (s : State) (c : ChanId) : (s.lackOfSpace c).mc = s.mc := (lackOfSpace_frame s c).2.2.2.2.2.2.2.2.1
@[simp] theorem lackOfSpace_wake (s : State) (c : ChanId) : (s.lackOfSpace c).wake = s.wake := (lackOfSpace_frame s c).2.2.2.2.2.2.2.2.2.1
@[simp] theorem lackOfSpace_port (s : State) (c : ChanId) : (s.lackOfSpace c).port = s.port := (lackOfSpace_frame s c).2.2.2.2.2.2.2.2.2.2.1
@[simp] theorem lackOfSpace_resetLow (s : State) (c : ChanId) : (s.lackOfSpace c).resetLow = s.resetLow := (lackOfSpace_frame s c).2.2.2.2.2.2.2.2.2.2.2.1
@[simp] theorem lackOfSpace_clock (s : State) (c : ChanId) : (s.lackOfSpace c).clock = s.clock := (lackOfSpace_frame s c).2.2.2.2.2.2.2.2.2.2.2.2.1
@[simp] theorem lackOfSpace_pending (s : State) (c : ChanId) : (s.lackOfSpace c).pending = s.pending := (lackOfSpace_frame s c).2.2.2.2.2.2.2.2.2.2.2.2.2
@[simp] theorem lackOfSpace_cfg (s : State) (c : ChanId) (d : ChanId) : (s.lackOfSpace c).cfg d = s.cfg d := by simp [State.cfg]
@[simp] theorem lackOfSpace_slot (s : State) (c : ChanId) (i' : SlotId) : (s.lackOfSpace c).slot i' = s.slot i' := by simp [State.slot]
@[simp] theorem lackOfSpace_entry (s : State) (c : ChanId) (a' : Station) : (s.lackOfSpace c).entry a' = s.entry a' := by simp [State.entry]

@[simp] theorem accept_station (s : State) (c : ChanId) (form : AcceptForm) : (s.accept c form).1.station = s.station := by simp [State.accept]
@[simp] theorem accept_configs (s : State) (c : ChanId) (form : AcceptForm) : (s.accept c form).1.configs = s.configs := by simp [State.accept]
@[simp] theorem accept_slots (s : State) (c : ChanId) (form : AcceptForm) : (s.accept c form).1.slots = s.slots := by simp [State.accept]
@[simp] theorem accept_ram (s : State) (c : ChanId) (form : AcceptForm) : (s.accept c form).1.ram = s.ram := by simp [State.accept]
@[simp] theorem accept_line (s : State) (c : ChanId) (form : AcceptForm) : (s.accept c form).1.line = s.line := by simp [State.accept]
@[simp] theorem accept_arb (s : State) (c : ChanId) (form : AcceptForm) : (s.accept c form).1.arb = s.arb := by simp [State.accept]
@[simp] theorem accept_presence (s : State) (c : ChanId) (form : AcceptForm) : (s.accept c form).1.presence = s.presence := by simp [State.accept]
@[simp] theorem accept_beaconTimer (s : State) (c : ChanId) (form : AcceptForm) : (s.accept c form).1.beaconTimer = s.beaconTimer := by simp [State.accept]
@[simp] theorem accept_mc (s : State) (c : ChanId) (form : AcceptForm) : (s.accept c form).1.mc = s.mc := by simp [State.accept]
@[simp] theorem accept_wake (s : State) (c : ChanId) (form : AcceptForm) : (s.accept c form).1.wake = s.wake := by simp [State.accept]
@[simp] theorem accept_notice (s : State) (c : ChanId) (form : AcceptForm) : (s.accept c form).1.notice = s.notice := by simp [State.accept]
@[simp] theorem accept_port (s : State) (c : ChanId) (form : AcceptForm) : (s.accept c form).1.port = s.port := by simp [State.accept]
@[simp] theorem accept_resetLow (s : State) (c : ChanId) (form : AcceptForm) : (s.accept c form).1.resetLow = s.resetLow := by simp [State.accept]
@[simp] theorem accept_clock (s : State) (c : ChanId) (form : AcceptForm) : (s.accept c form).1.clock = s.clock := by simp [State.accept]
@[simp] theorem accept_pending (s : State) (c : ChanId) (form : AcceptForm) : (s.accept c form).1.pending = s.pending := by simp [State.accept]
@[simp] theorem accept_cfg (s : State) (c : ChanId) (form : AcceptForm) (d : ChanId) : (s.accept c form).1.cfg d = s.cfg d := by simp [State.cfg]
@[simp] theorem accept_slot (s : State) (c : ChanId) (form : AcceptForm) (i' : SlotId) : (s.accept c form).1.slot i' = s.slot i' := by simp [State.slot]
@[simp] theorem accept_entry (s : State) (c : ChanId) (form : AcceptForm) (a' : Station) : (s.accept c form).1.entry a' = s.entry a' := by simp [State.entry]

theorem decideFresh_frame (s : State) (c : ChanId) (f : Frame) (k : Closes) :
    (s.decideFresh c f k).1.station = s.station ∧ (s.decideFresh c f k).1.configs = s.configs ∧ (s.decideFresh c f k).1.ram = s.ram
      ∧ (s.decideFresh c f k).1.line = s.line ∧ (s.decideFresh c f k).1.presence = s.presence ∧ (s.decideFresh c f k).1.beaconTimer = s.beaconTimer
      ∧ (s.decideFresh c f k).1.mc = s.mc ∧ (s.decideFresh c f k).1.wake = s.wake ∧ (s.decideFresh c f k).1.port = s.port
      ∧ (s.decideFresh c f k).1.resetLow = s.resetLow ∧ (s.decideFresh c f k).1.clock = s.clock ∧ (s.decideFresh c f k).1.pending = s.pending := by
  have h0 := search_station s c
  have h1 := search_configs s c
  have h2 := search_ram s c
  have h3 := search_line s c
  have h4 := search_presence s c
  have h5 := search_beaconTimer s c
  have h6 := search_mc s c
  have h7 := search_wake s c
  have h8 := search_port s c
  have h9 := search_resetLow s c
  have h10 := search_clock s c
  have h11 := search_pending s c
  simp only [State.decideFresh]; split <;> simp_all
@[simp] theorem decideFresh_station (s : State) (c : ChanId) (f : Frame) (k : Closes) : (s.decideFresh c f k).1.station = s.station := (decideFresh_frame s c f k).1
@[simp] theorem decideFresh_configs (s : State) (c : ChanId) (f : Frame) (k : Closes) : (s.decideFresh c f k).1.configs = s.configs := (decideFresh_frame s c f k).2.1
@[simp] theorem decideFresh_ram (s : State) (c : ChanId) (f : Frame) (k : Closes) : (s.decideFresh c f k).1.ram = s.ram := (decideFresh_frame s c f k).2.2.1
@[simp] theorem decideFresh_line (s : State) (c : ChanId) (f : Frame) (k : Closes) : (s.decideFresh c f k).1.line = s.line := (decideFresh_frame s c f k).2.2.2.1
@[simp] theorem decideFresh_presence (s : State) (c : ChanId) (f : Frame) (k : Closes) : (s.decideFresh c f k).1.presence = s.presence := (decideFresh_frame s c f k).2.2.2.2.1
@[simp] theorem decideFresh_beaconTimer (s : State) (c : ChanId) (f : Frame) (k : Closes) : (s.decideFresh c f k).1.beaconTimer = s.beaconTimer := (decideFresh_frame s c f k).2.2.2.2.2.1
@[simp] theorem decideFresh_mc (s : State) (c : ChanId) (f : Frame) (k : Closes) : (s.decideFresh c f k).1.mc = s.mc := (decideFresh_frame s c f k).2.2.2.2.2.2.1
@[simp] theorem decideFresh_wake (s : State) (c : ChanId) (f : Frame) (k : Closes) : (s.decideFresh c f k).1.wake = s.wake := (decideFresh_frame s c f k).2.2.2.2.2.2.2.1
@[simp] theorem decideFresh_port (s : State) (c : ChanId) (f : Frame) (k : Closes) : (s.decideFresh c f k).1.port = s.port := (decideFresh_frame s c f k).2.2.2.2.2.2.2.2.1
@[simp] theorem decideFresh_resetLow (s : State) (c : ChanId) (f : Frame) (k : Closes) : (s.decideFresh c f k).1.resetLow = s.resetLow := (decideFresh_frame s c f k).2.2.2.2.2.2.2.2.2.1
@[simp] theorem decideFresh_clock (s : State) (c : ChanId) (f : Frame) (k : Closes) : (s.decideFresh c f k).1.clock = s.clock := (decideFresh_frame s c f k).2.2.2.2.2.2.2.2.2.2.1
@[simp] theorem decideFresh_pending (s : State) (c : ChanId) (f : Frame) (k : Closes) : (s.decideFresh c f k).1.pending = s.pending := (decideFresh_frame s c f k).2.2.2.2.2.2.2.2.2.2.2
@[simp] theorem decideFresh_cfg (s : State) (c : ChanId) (f : Frame) (k : Closes) (d : ChanId) : (s.decideFresh c f k).1.cfg d = s.cfg d := by simp [State.cfg]
@[simp] theorem decideFresh_entry (s : State) (c : ChanId) (f : Frame) (k : Closes) (a' : Station) : (s.decideFresh c f k).1.entry a' = s.entry a' := by simp [State.entry]

theorem decideData_frame (s : State) (c : ChanId) (f : Frame) :
    (s.decideData c f).1.station = s.station ∧ (s.decideData c f).1.configs = s.configs ∧ (s.decideData c f).1.ram = s.ram
      ∧ (s.decideData c f).1.line = s.line ∧ (s.decideData c f).1.presence = s.presence ∧ (s.decideData c f).1.beaconTimer = s.beaconTimer
      ∧ (s.decideData c f).1.mc = s.mc ∧ (s.decideData c f).1.wake = s.wake ∧ (s.decideData c f).1.port = s.port
      ∧ (s.decideData c f).1.resetLow = s.resetLow ∧ (s.decideData c f).1.clock = s.clock ∧ (s.decideData c f).1.pending = s.pending := by
  simp only [State.decideData]; repeat' split
  all_goals simp
@[simp] theorem decideData_station (s : State) (c : ChanId) (f : Frame) : (s.decideData c f).1.station = s.station := (decideData_frame s c f).1
@[simp] theorem decideData_configs (s : State) (c : ChanId) (f : Frame) : (s.decideData c f).1.configs = s.configs := (decideData_frame s c f).2.1
@[simp] theorem decideData_ram (s : State) (c : ChanId) (f : Frame) : (s.decideData c f).1.ram = s.ram := (decideData_frame s c f).2.2.1
@[simp] theorem decideData_line (s : State) (c : ChanId) (f : Frame) : (s.decideData c f).1.line = s.line := (decideData_frame s c f).2.2.2.1
@[simp] theorem decideData_presence (s : State) (c : ChanId) (f : Frame) : (s.decideData c f).1.presence = s.presence := (decideData_frame s c f).2.2.2.2.1
@[simp] theorem decideData_beaconTimer (s : State) (c : ChanId) (f : Frame) : (s.decideData c f).1.beaconTimer = s.beaconTimer := (decideData_frame s c f).2.2.2.2.2.1
@[simp] theorem decideData_mc (s : State) (c : ChanId) (f : Frame) : (s.decideData c f).1.mc = s.mc := (decideData_frame s c f).2.2.2.2.2.2.1
@[simp] theorem decideData_wake (s : State) (c : ChanId) (f : Frame) : (s.decideData c f).1.wake = s.wake := (decideData_frame s c f).2.2.2.2.2.2.2.1
@[simp] theorem decideData_port (s : State) (c : ChanId) (f : Frame) : (s.decideData c f).1.port = s.port := (decideData_frame s c f).2.2.2.2.2.2.2.2.1
@[simp] theorem decideData_resetLow (s : State) (c : ChanId) (f : Frame) : (s.decideData c f).1.resetLow = s.resetLow := (decideData_frame s c f).2.2.2.2.2.2.2.2.2.1
@[simp] theorem decideData_clock (s : State) (c : ChanId) (f : Frame) : (s.decideData c f).1.clock = s.clock := (decideData_frame s c f).2.2.2.2.2.2.2.2.2.2.1
@[simp] theorem decideData_pending (s : State) (c : ChanId) (f : Frame) : (s.decideData c f).1.pending = s.pending := (decideData_frame s c f).2.2.2.2.2.2.2.2.2.2.2
@[simp] theorem decideData_cfg (s : State) (c : ChanId) (f : Frame) (d : ChanId) : (s.decideData c f).1.cfg d = s.cfg d := by simp [State.cfg]
@[simp] theorem decideData_entry (s : State) (c : ChanId) (f : Frame) (a' : Station) : (s.decideData c f).1.entry a' = s.entry a' := by simp [State.entry]

theorem decide_frame (s : State) (c : ChanId) (f : Frame) :
    (s.decide c f).1.station = s.station ∧ (s.decide c f).1.configs = s.configs ∧ (s.decide c f).1.ram = s.ram
      ∧ (s.decide c f).1.line = s.line ∧ (s.decide c f).1.presence = s.presence ∧ (s.decide c f).1.beaconTimer = s.beaconTimer
      ∧ (s.decide c f).1.mc = s.mc ∧ (s.decide c f).1.wake = s.wake ∧ (s.decide c f).1.port = s.port
      ∧ (s.decide c f).1.resetLow = s.resetLow ∧ (s.decide c f).1.clock = s.clock ∧ (s.decide c f).1.pending = s.pending := by
  simp only [State.decide]; repeat' split
  all_goals simp
@[simp] theorem decide_station (s : State) (c : ChanId) (f : Frame) : (s.decide c f).1.station = s.station := (decide_frame s c f).1
@[simp] theorem decide_configs (s : State) (c : ChanId) (f : Frame) : (s.decide c f).1.configs = s.configs := (decide_frame s c f).2.1
@[simp] theorem decide_ram (s : State) (c : ChanId) (f : Frame) : (s.decide c f).1.ram = s.ram := (decide_frame s c f).2.2.1
@[simp] theorem decide_line (s : State) (c : ChanId) (f : Frame) : (s.decide c f).1.line = s.line := (decide_frame s c f).2.2.2.1
@[simp] theorem decide_presence (s : State) (c : ChanId) (f : Frame) : (s.decide c f).1.presence = s.presence := (decide_frame s c f).2.2.2.2.1
@[simp] theorem decide_beaconTimer (s : State) (c : ChanId) (f : Frame) : (s.decide c f).1.beaconTimer = s.beaconTimer := (decide_frame s c f).2.2.2.2.2.1
@[simp] theorem decide_mc (s : State) (c : ChanId) (f : Frame) : (s.decide c f).1.mc = s.mc := (decide_frame s c f).2.2.2.2.2.2.1
@[simp] theorem decide_wake (s : State) (c : ChanId) (f : Frame) : (s.decide c f).1.wake = s.wake := (decide_frame s c f).2.2.2.2.2.2.2.1
@[simp] theorem decide_port (s : State) (c : ChanId) (f : Frame) : (s.decide c f).1.port = s.port := (decide_frame s c f).2.2.2.2.2.2.2.2.1
@[simp] theorem decide_resetLow (s : State) (c : ChanId) (f : Frame) : (s.decide c f).1.resetLow = s.resetLow := (decide_frame s c f).2.2.2.2.2.2.2.2.2.1
@[simp] theorem decide_clock (s : State) (c : ChanId) (f : Frame) : (s.decide c f).1.clock = s.clock := (decide_frame s c f).2.2.2.2.2.2.2.2.2.2.1
@[simp] theorem decide_pending (s : State) (c : ChanId) (f : Frame) : (s.decide c f).1.pending = s.pending := (decide_frame s c f).2.2.2.2.2.2.2.2.2.2.2
@[simp] theorem decide_cfg (s : State) (c : ChanId) (f : Frame) (d : ChanId) : (s.decide c f).1.cfg d = s.cfg d := by simp [State.cfg]
@[simp] theorem decide_entry (s : State) (c : ChanId) (f : Frame) (a' : Station) : (s.decide c f).1.entry a' = s.entry a' := by simp [State.entry]

theorem commitTarget_frame (s : State) (c : ChanId) (w : StoreWork) :
    (s.commitTarget c w).station = s.station ∧ (s.commitTarget c w).configs = s.configs ∧ (s.commitTarget c w).ram = s.ram
      ∧ (s.commitTarget c w).line = s.line ∧ (s.commitTarget c w).arb = s.arb ∧ (s.commitTarget c w).presence = s.presence
      ∧ (s.commitTarget c w).beaconTimer = s.beaconTimer ∧ (s.commitTarget c w).mc = s.mc ∧ (s.commitTarget c w).wake = s.wake
      ∧ (s.commitTarget c w).port = s.port ∧ (s.commitTarget c w).resetLow = s.resetLow ∧ (s.commitTarget c w).clock = s.clock
      ∧ (s.commitTarget c w).pending = s.pending := by
  simp only [State.commitTarget]; repeat' split
  all_goals simp
@[simp] theorem commitTarget_station (s : State) (c : ChanId) (w : StoreWork) : (s.commitTarget c w).station = s.station := (commitTarget_frame s c w).1
@[simp] theorem commitTarget_configs (s : State) (c : ChanId) (w : StoreWork) : (s.commitTarget c w).configs = s.configs := (commitTarget_frame s c w).2.1
@[simp] theorem commitTarget_ram (s : State) (c : ChanId) (w : StoreWork) : (s.commitTarget c w).ram = s.ram := (commitTarget_frame s c w).2.2.1
@[simp] theorem commitTarget_line (s : State) (c : ChanId) (w : StoreWork) : (s.commitTarget c w).line = s.line := (commitTarget_frame s c w).2.2.2.1
@[simp] theorem commitTarget_arb (s : State) (c : ChanId) (w : StoreWork) : (s.commitTarget c w).arb = s.arb := (commitTarget_frame s c w).2.2.2.2.1
@[simp] theorem commitTarget_presence (s : State) (c : ChanId) (w : StoreWork) : (s.commitTarget c w).presence = s.presence := (commitTarget_frame s c w).2.2.2.2.2.1
@[simp] theorem commitTarget_beaconTimer (s : State) (c : ChanId) (w : StoreWork) : (s.commitTarget c w).beaconTimer = s.beaconTimer := (commitTarget_frame s c w).2.2.2.2.2.2.1
@[simp] theorem commitTarget_mc (s : State) (c : ChanId) (w : StoreWork) : (s.commitTarget c w).mc = s.mc := (commitTarget_frame s c w).2.2.2.2.2.2.2.1
@[simp] theorem commitTarget_wake (s : State) (c : ChanId) (w : StoreWork) : (s.commitTarget c w).wake = s.wake := (commitTarget_frame s c w).2.2.2.2.2.2.2.2.1
@[simp] theorem commitTarget_port (s : State) (c : ChanId) (w : StoreWork) : (s.commitTarget c w).port = s.port := (commitTarget_frame s c w).2.2.2.2.2.2.2.2.2.1
@[simp] theorem commitTarget_resetLow (s : State) (c : ChanId) (w : StoreWork) : (s.commitTarget c w).resetLow = s.resetLow := (commitTarget_frame s c w).2.2.2.2.2.2.2.2.2.2.1
@[simp] theorem commitTarget_clock (s : State) (c : ChanId) (w : StoreWork) : (s.commitTarget c w).clock = s.clock := (commitTarget_frame s c w).2.2.2.2.2.2.2.2.2.2.2.1
@[simp] theorem commitTarget_pending (s : State) (c : ChanId) (w : StoreWork) : (s.commitTarget c w).pending = s.pending := (commitTarget_frame s c w).2.2.2.2.2.2.2.2.2.2.2.2
@[simp] theorem commitTarget_cfg (s : State) (c : ChanId) (w : StoreWork) (d : ChanId) : (s.commitTarget c w).cfg d = s.cfg d := by simp [State.cfg]
@[simp] theorem commitTarget_entry (s : State) (c : ChanId) (w : StoreWork) (a' : Station) : (s.commitTarget c w).entry a' = s.entry a' := by simp [State.entry]

theorem commitBytes_frame (s : State) (c : ChanId) (w : StoreWork) :
    (s.commitBytes c w).station = s.station ∧ (s.commitBytes c w).configs = s.configs ∧ (s.commitBytes c w).slots = s.slots
      ∧ (s.commitBytes c w).line = s.line ∧ (s.commitBytes c w).arb = s.arb ∧ (s.commitBytes c w).presence = s.presence
      ∧ (s.commitBytes c w).beaconTimer = s.beaconTimer ∧ (s.commitBytes c w).mc = s.mc ∧ (s.commitBytes c w).wake = s.wake
      ∧ (s.commitBytes c w).notice = s.notice ∧ (s.commitBytes c w).port = s.port ∧ (s.commitBytes c w).resetLow = s.resetLow
      ∧ (s.commitBytes c w).clock = s.clock ∧ (s.commitBytes c w).pending = s.pending := by
  simp only [State.commitBytes]; split <;> simp
@[simp] theorem commitBytes_station (s : State) (c : ChanId) (w : StoreWork) : (s.commitBytes c w).station = s.station := (commitBytes_frame s c w).1
@[simp] theorem commitBytes_configs (s : State) (c : ChanId) (w : StoreWork) : (s.commitBytes c w).configs = s.configs := (commitBytes_frame s c w).2.1
@[simp] theorem commitBytes_slots (s : State) (c : ChanId) (w : StoreWork) : (s.commitBytes c w).slots = s.slots := (commitBytes_frame s c w).2.2.1
@[simp] theorem commitBytes_line (s : State) (c : ChanId) (w : StoreWork) : (s.commitBytes c w).line = s.line := (commitBytes_frame s c w).2.2.2.1
@[simp] theorem commitBytes_arb (s : State) (c : ChanId) (w : StoreWork) : (s.commitBytes c w).arb = s.arb := (commitBytes_frame s c w).2.2.2.2.1
@[simp] theorem commitBytes_presence (s : State) (c : ChanId) (w : StoreWork) : (s.commitBytes c w).presence = s.presence := (commitBytes_frame s c w).2.2.2.2.2.1
@[simp] theorem commitBytes_beaconTimer (s : State) (c : ChanId) (w : StoreWork) : (s.commitBytes c w).beaconTimer = s.beaconTimer := (commitBytes_frame s c w).2.2.2.2.2.2.1
@[simp] theorem commitBytes_mc (s : State) (c : ChanId) (w : StoreWork) : (s.commitBytes c w).mc = s.mc := (commitBytes_frame s c w).2.2.2.2.2.2.2.1
@[simp] theorem commitBytes_wake (s : State) (c : ChanId) (w : StoreWork) : (s.commitBytes c w).wake = s.wake := (commitBytes_frame s c w).2.2.2.2.2.2.2.2.1
@[simp] theorem commitBytes_notice (s : State) (c : ChanId) (w : StoreWork) : (s.commitBytes c w).notice = s.notice := (commitBytes_frame s c w).2.2.2.2.2.2.2.2.2.1
@[simp] theorem commitBytes_port (s : State) (c : ChanId) (w : StoreWork) : (s.commitBytes c w).port = s.port := (commitBytes_frame s c w).2.2.2.2.2.2.2.2.2.2.1
@[simp] theorem commitBytes_resetLow (s : State) (c : ChanId) (w : StoreWork) : (s.commitBytes c w).resetLow = s.resetLow := (commitBytes_frame s c w).2.2.2.2.2.2.2.2.2.2.2.1
@[simp] theorem commitBytes_clock (s : State) (c : ChanId) (w : StoreWork) : (s.commitBytes c w).clock = s.clock := (commitBytes_frame s c w).2.2.2.2.2.2.2.2.2.2.2.2.1
@[simp] theorem commitBytes_pending (s : State) (c : ChanId) (w : StoreWork) : (s.commitBytes c w).pending = s.pending := (commitBytes_frame s c w).2.2.2.2.2.2.2.2.2.2.2.2.2
@[simp] theorem commitBytes_cfg (s : State) (c : ChanId) (w : StoreWork) (d : ChanId) : (s.commitBytes c w).cfg d = s.cfg d := by simp [State.cfg]
@[simp] theorem commitBytes_slot (s : State) (c : ChanId) (w : StoreWork) (i' : SlotId) : (s.commitBytes c w).slot i' = s.slot i' := by simp [State.slot]
@[simp] theorem commitBytes_entry (s : State) (c : ChanId) (w : StoreWork) (a' : Station) : (s.commitBytes c w).entry a' = s.entry a' := by simp [State.entry]

theorem completeTaken_frame (s : State) (c : ChanId) (sum : Option Word) :
    (s.completeTaken c sum).station = s.station ∧ (s.completeTaken c sum).configs = s.configs ∧ (s.completeTaken c sum).ram = s.ram
      ∧ (s.completeTaken c sum).line = s.line ∧ (s.completeTaken c sum).arb = s.arb ∧ (s.completeTaken c sum).presence = s.presence
      ∧ (s.completeTaken c sum).beaconTimer = s.beaconTimer ∧ (s.completeTaken c sum).mc = s.mc ∧ (s.completeTaken c sum).wake = s.wake
      ∧ (s.completeTaken c sum).port = s.port ∧ (s.completeTaken c sum).resetLow = s.resetLow ∧ (s.completeTaken c sum).clock = s.clock
      ∧ (s.completeTaken c sum).pending = s.pending := by
  simp only [State.completeTaken]; split <;> simp
@[simp] theorem completeTaken_station (s : State) (c : ChanId) (sum : Option Word) : (s.completeTaken c sum).station = s.station := (completeTaken_frame s c sum).1
@[simp] theorem completeTaken_configs (s : State) (c : ChanId) (sum : Option Word) : (s.completeTaken c sum).configs = s.configs := (completeTaken_frame s c sum).2.1
@[simp] theorem completeTaken_ram (s : State) (c : ChanId) (sum : Option Word) : (s.completeTaken c sum).ram = s.ram := (completeTaken_frame s c sum).2.2.1
@[simp] theorem completeTaken_line (s : State) (c : ChanId) (sum : Option Word) : (s.completeTaken c sum).line = s.line := (completeTaken_frame s c sum).2.2.2.1
@[simp] theorem completeTaken_arb (s : State) (c : ChanId) (sum : Option Word) : (s.completeTaken c sum).arb = s.arb := (completeTaken_frame s c sum).2.2.2.2.1
@[simp] theorem completeTaken_presence (s : State) (c : ChanId) (sum : Option Word) : (s.completeTaken c sum).presence = s.presence := (completeTaken_frame s c sum).2.2.2.2.2.1
@[simp] theorem completeTaken_beaconTimer (s : State) (c : ChanId) (sum : Option Word) : (s.completeTaken c sum).beaconTimer = s.beaconTimer := (completeTaken_frame s c sum).2.2.2.2.2.2.1
@[simp] theorem completeTaken_mc (s : State) (c : ChanId) (sum : Option Word) : (s.completeTaken c sum).mc = s.mc := (completeTaken_frame s c sum).2.2.2.2.2.2.2.1
@[simp] theorem completeTaken_wake (s : State) (c : ChanId) (sum : Option Word) : (s.completeTaken c sum).wake = s.wake := (completeTaken_frame s c sum).2.2.2.2.2.2.2.2.1
@[simp] theorem completeTaken_port (s : State) (c : ChanId) (sum : Option Word) : (s.completeTaken c sum).port = s.port := (completeTaken_frame s c sum).2.2.2.2.2.2.2.2.2.1
@[simp] theorem completeTaken_resetLow (s : State) (c : ChanId) (sum : Option Word) : (s.completeTaken c sum).resetLow = s.resetLow := (completeTaken_frame s c sum).2.2.2.2.2.2.2.2.2.2.1
@[simp] theorem completeTaken_clock (s : State) (c : ChanId) (sum : Option Word) : (s.completeTaken c sum).clock = s.clock := (completeTaken_frame s c sum).2.2.2.2.2.2.2.2.2.2.2.1
@[simp] theorem completeTaken_pending (s : State) (c : ChanId) (sum : Option Word) : (s.completeTaken c sum).pending = s.pending := (completeTaken_frame s c sum).2.2.2.2.2.2.2.2.2.2.2.2
@[simp] theorem completeTaken_cfg (s : State) (c : ChanId) (sum : Option Word) (d : ChanId) : (s.completeTaken c sum).cfg d = s.cfg d := by simp [State.cfg]
@[simp] theorem completeTaken_entry (s : State) (c : ChanId) (sum : Option Word) (a' : Station) : (s.completeTaken c sum).entry a' = s.entry a' := by simp [State.entry]

theorem commitStore_frame (s : State) (c : ChanId) (w : StoreWork) :
    (s.commitStore c w).station = s.station ∧ (s.commitStore c w).configs = s.configs ∧ (s.commitStore c w).line = s.line
      ∧ (s.commitStore c w).arb = s.arb ∧ (s.commitStore c w).presence = s.presence ∧ (s.commitStore c w).beaconTimer = s.beaconTimer
      ∧ (s.commitStore c w).mc = s.mc ∧ (s.commitStore c w).wake = s.wake ∧ (s.commitStore c w).port = s.port
      ∧ (s.commitStore c w).resetLow = s.resetLow ∧ (s.commitStore c w).clock = s.clock ∧ (s.commitStore c w).pending = s.pending := by
  simp only [State.commitStore]; split <;> simp
@[simp] theorem commitStore_station (s : State) (c : ChanId) (w : StoreWork) : (s.commitStore c w).station = s.station := (commitStore_frame s c w).1
@[simp] theorem commitStore_configs (s : State) (c : ChanId) (w : StoreWork) : (s.commitStore c w).configs = s.configs := (commitStore_frame s c w).2.1
@[simp] theorem commitStore_line (s : State) (c : ChanId) (w : StoreWork) : (s.commitStore c w).line = s.line := (commitStore_frame s c w).2.2.1
@[simp] theorem commitStore_arb (s : State) (c : ChanId) (w : StoreWork) : (s.commitStore c w).arb = s.arb := (commitStore_frame s c w).2.2.2.1
@[simp] theorem commitStore_presence (s : State) (c : ChanId) (w : StoreWork) : (s.commitStore c w).presence = s.presence := (commitStore_frame s c w).2.2.2.2.1
@[simp] theorem commitStore_beaconTimer (s : State) (c : ChanId) (w : StoreWork) : (s.commitStore c w).beaconTimer = s.beaconTimer := (commitStore_frame s c w).2.2.2.2.2.1
@[simp] theorem commitStore_mc (s : State) (c : ChanId) (w : StoreWork) : (s.commitStore c w).mc = s.mc := (commitStore_frame s c w).2.2.2.2.2.2.1
@[simp] theorem commitStore_wake (s : State) (c : ChanId) (w : StoreWork) : (s.commitStore c w).wake = s.wake := (commitStore_frame s c w).2.2.2.2.2.2.2.1
@[simp] theorem commitStore_port (s : State) (c : ChanId) (w : StoreWork) : (s.commitStore c w).port = s.port := (commitStore_frame s c w).2.2.2.2.2.2.2.2.1
@[simp] theorem commitStore_resetLow (s : State) (c : ChanId) (w : StoreWork) : (s.commitStore c w).resetLow = s.resetLow := (commitStore_frame s c w).2.2.2.2.2.2.2.2.2.1
@[simp] theorem commitStore_clock (s : State) (c : ChanId) (w : StoreWork) : (s.commitStore c w).clock = s.clock := (commitStore_frame s c w).2.2.2.2.2.2.2.2.2.2.1
@[simp] theorem commitStore_pending (s : State) (c : ChanId) (w : StoreWork) : (s.commitStore c w).pending = s.pending := (commitStore_frame s c w).2.2.2.2.2.2.2.2.2.2.2
@[simp] theorem commitStore_cfg (s : State) (c : ChanId) (w : StoreWork) (d : ChanId) : (s.commitStore c w).cfg d = s.cfg d := by simp [State.cfg]
@[simp] theorem commitStore_entry (s : State) (c : ChanId) (w : StoreWork) (a' : Station) : (s.commitStore c w).entry a' = s.entry a' := by simp [State.entry]

theorem commitWithdrawn_frame (s : State) (c : ChanId) (form : AcceptForm) :
    (s.commitWithdrawn c form).station = s.station ∧ (s.commitWithdrawn c form).configs = s.configs ∧ (s.commitWithdrawn c form).slots = s.slots
      ∧ (s.commitWithdrawn c form).ram = s.ram ∧ (s.commitWithdrawn c form).line = s.line ∧ (s.commitWithdrawn c form).arb = s.arb
      ∧ (s.commitWithdrawn c form).presence = s.presence ∧ (s.commitWithdrawn c form).beaconTimer = s.beaconTimer ∧ (s.commitWithdrawn c form).mc = s.mc
      ∧ (s.commitWithdrawn c form).wake = s.wake ∧ (s.commitWithdrawn c form).notice = s.notice ∧ (s.commitWithdrawn c form).port = s.port
      ∧ (s.commitWithdrawn c form).resetLow = s.resetLow ∧ (s.commitWithdrawn c form).clock = s.clock ∧ (s.commitWithdrawn c form).pending = s.pending := by
  unfold State.commitWithdrawn; split <;> simp
@[simp] theorem commitWithdrawn_station (s : State) (c : ChanId) (form : AcceptForm) : (s.commitWithdrawn c form).station = s.station := (commitWithdrawn_frame s c form).1
@[simp] theorem commitWithdrawn_configs (s : State) (c : ChanId) (form : AcceptForm) : (s.commitWithdrawn c form).configs = s.configs := (commitWithdrawn_frame s c form).2.1
@[simp] theorem commitWithdrawn_slots (s : State) (c : ChanId) (form : AcceptForm) : (s.commitWithdrawn c form).slots = s.slots := (commitWithdrawn_frame s c form).2.2.1
@[simp] theorem commitWithdrawn_ram (s : State) (c : ChanId) (form : AcceptForm) : (s.commitWithdrawn c form).ram = s.ram := (commitWithdrawn_frame s c form).2.2.2.1
@[simp] theorem commitWithdrawn_line (s : State) (c : ChanId) (form : AcceptForm) : (s.commitWithdrawn c form).line = s.line := (commitWithdrawn_frame s c form).2.2.2.2.1
@[simp] theorem commitWithdrawn_arb (s : State) (c : ChanId) (form : AcceptForm) : (s.commitWithdrawn c form).arb = s.arb := (commitWithdrawn_frame s c form).2.2.2.2.2.1
@[simp] theorem commitWithdrawn_presence (s : State) (c : ChanId) (form : AcceptForm) : (s.commitWithdrawn c form).presence = s.presence := (commitWithdrawn_frame s c form).2.2.2.2.2.2.1
@[simp] theorem commitWithdrawn_beaconTimer (s : State) (c : ChanId) (form : AcceptForm) : (s.commitWithdrawn c form).beaconTimer = s.beaconTimer := (commitWithdrawn_frame s c form).2.2.2.2.2.2.2.1
@[simp] theorem commitWithdrawn_mc (s : State) (c : ChanId) (form : AcceptForm) : (s.commitWithdrawn c form).mc = s.mc := (commitWithdrawn_frame s c form).2.2.2.2.2.2.2.2.1
@[simp] theorem commitWithdrawn_wake (s : State) (c : ChanId) (form : AcceptForm) : (s.commitWithdrawn c form).wake = s.wake := (commitWithdrawn_frame s c form).2.2.2.2.2.2.2.2.2.1
@[simp] theorem commitWithdrawn_notice (s : State) (c : ChanId) (form : AcceptForm) : (s.commitWithdrawn c form).notice = s.notice := (commitWithdrawn_frame s c form).2.2.2.2.2.2.2.2.2.2.1
@[simp] theorem commitWithdrawn_port (s : State) (c : ChanId) (form : AcceptForm) : (s.commitWithdrawn c form).port = s.port := (commitWithdrawn_frame s c form).2.2.2.2.2.2.2.2.2.2.2.1
@[simp] theorem commitWithdrawn_resetLow (s : State) (c : ChanId) (form : AcceptForm) : (s.commitWithdrawn c form).resetLow = s.resetLow := (commitWithdrawn_frame s c form).2.2.2.2.2.2.2.2.2.2.2.2.1
@[simp] theorem commitWithdrawn_clock (s : State) (c : ChanId) (form : AcceptForm) : (s.commitWithdrawn c form).clock = s.clock := (commitWithdrawn_frame s c form).2.2.2.2.2.2.2.2.2.2.2.2.2.1
@[simp] theorem commitWithdrawn_pending (s : State) (c : ChanId) (form : AcceptForm) : (s.commitWithdrawn c form).pending = s.pending := (commitWithdrawn_frame s c form).2.2.2.2.2.2.2.2.2.2.2.2.2.2
@[simp] theorem commitWithdrawn_cfg (s : State) (c : ChanId) (form : AcceptForm) (d : ChanId) : (s.commitWithdrawn c form).cfg d = s.cfg d := by simp [State.cfg]
@[simp] theorem commitWithdrawn_slot (s : State) (c : ChanId) (form : AcceptForm) (i' : SlotId) : (s.commitWithdrawn c form).slot i' = s.slot i' := by simp [State.slot]
@[simp] theorem commitWithdrawn_entry (s : State) (c : ChanId) (form : AcceptForm) (a' : Station) : (s.commitWithdrawn c form).entry a' = s.entry a' := by simp [State.entry]

theorem commit_frame (s : State) (c : ChanId) :
    (s.commit c).station = s.station ∧ (s.commit c).configs = s.configs ∧ (s.commit c).line = s.line
      ∧ (s.commit c).arb = s.arb ∧ (s.commit c).presence = s.presence ∧ (s.commit c).beaconTimer = s.beaconTimer
      ∧ (s.commit c).mc = s.mc ∧ (s.commit c).wake = s.wake ∧ (s.commit c).port = s.port
      ∧ (s.commit c).resetLow = s.resetLow ∧ (s.commit c).clock = s.clock ∧ (s.commit c).pending = s.pending := by
  simp only [State.commit]; repeat' split
  all_goals simp
@[simp] theorem commit_station (s : State) (c : ChanId) : (s.commit c).station = s.station := (commit_frame s c).1
@[simp] theorem commit_configs (s : State) (c : ChanId) : (s.commit c).configs = s.configs := (commit_frame s c).2.1
@[simp] theorem commit_line (s : State) (c : ChanId) : (s.commit c).line = s.line := (commit_frame s c).2.2.1
@[simp] theorem commit_arb (s : State) (c : ChanId) : (s.commit c).arb = s.arb := (commit_frame s c).2.2.2.1
@[simp] theorem commit_presence (s : State) (c : ChanId) : (s.commit c).presence = s.presence := (commit_frame s c).2.2.2.2.1
@[simp] theorem commit_beaconTimer (s : State) (c : ChanId) : (s.commit c).beaconTimer = s.beaconTimer := (commit_frame s c).2.2.2.2.2.1
@[simp] theorem commit_mc (s : State) (c : ChanId) : (s.commit c).mc = s.mc := (commit_frame s c).2.2.2.2.2.2.1
@[simp] theorem commit_wake (s : State) (c : ChanId) : (s.commit c).wake = s.wake := (commit_frame s c).2.2.2.2.2.2.2.1
@[simp] theorem commit_port (s : State) (c : ChanId) : (s.commit c).port = s.port := (commit_frame s c).2.2.2.2.2.2.2.2.1
@[simp] theorem commit_resetLow (s : State) (c : ChanId) : (s.commit c).resetLow = s.resetLow := (commit_frame s c).2.2.2.2.2.2.2.2.2.1
@[simp] theorem commit_clock (s : State) (c : ChanId) : (s.commit c).clock = s.clock := (commit_frame s c).2.2.2.2.2.2.2.2.2.2.1
@[simp] theorem commit_pending (s : State) (c : ChanId) : (s.commit c).pending = s.pending := (commit_frame s c).2.2.2.2.2.2.2.2.2.2.2
@[simp] theorem commit_cfg (s : State) (c : ChanId) (d : ChanId) : (s.commit c).cfg d = s.cfg d := by simp [State.cfg]
@[simp] theorem commit_entry (s : State) (c : ChanId) (a' : Station) : (s.commit c).entry a' = s.entry a' := by simp [State.entry]

theorem cutAll_frame (s : State) :
    s.cutAll.station = s.station ∧ s.cutAll.configs = s.configs ∧ s.cutAll.ram = s.ram
      ∧ s.cutAll.line = s.line ∧ s.cutAll.arb = s.arb ∧ s.cutAll.presence = s.presence
      ∧ s.cutAll.beaconTimer = s.beaconTimer ∧ s.cutAll.mc = s.mc ∧ s.cutAll.wake = s.wake
      ∧ s.cutAll.port = s.port ∧ s.cutAll.resetLow = s.resetLow ∧ s.cutAll.clock = s.clock
      ∧ s.cutAll.pending = s.pending := by
  refine ⟨?_, ?_, ?_, ?_, ?_, ?_, ?_, ?_, ?_, ?_, ?_, ?_, ?_⟩ <;> exact foldl_keep (fun t c => by split <;> simp) _ _
@[simp] theorem cutAll_station (s : State) : s.cutAll.station = s.station := (cutAll_frame s).1
@[simp] theorem cutAll_configs (s : State) : s.cutAll.configs = s.configs := (cutAll_frame s).2.1
@[simp] theorem cutAll_ram (s : State) : s.cutAll.ram = s.ram := (cutAll_frame s).2.2.1
@[simp] theorem cutAll_line (s : State) : s.cutAll.line = s.line := (cutAll_frame s).2.2.2.1
@[simp] theorem cutAll_arb (s : State) : s.cutAll.arb = s.arb := (cutAll_frame s).2.2.2.2.1
@[simp] theorem cutAll_presence (s : State) : s.cutAll.presence = s.presence := (cutAll_frame s).2.2.2.2.2.1
@[simp] theorem cutAll_beaconTimer (s : State) : s.cutAll.beaconTimer = s.beaconTimer := (cutAll_frame s).2.2.2.2.2.2.1
@[simp] theorem cutAll_mc (s : State) : s.cutAll.mc = s.mc := (cutAll_frame s).2.2.2.2.2.2.2.1
@[simp] theorem cutAll_wake (s : State) : s.cutAll.wake = s.wake := (cutAll_frame s).2.2.2.2.2.2.2.2.1
@[simp] theorem cutAll_port (s : State) : s.cutAll.port = s.port := (cutAll_frame s).2.2.2.2.2.2.2.2.2.1
@[simp] theorem cutAll_resetLow (s : State) : s.cutAll.resetLow = s.resetLow := (cutAll_frame s).2.2.2.2.2.2.2.2.2.2.1
@[simp] theorem cutAll_clock (s : State) : s.cutAll.clock = s.clock := (cutAll_frame s).2.2.2.2.2.2.2.2.2.2.2.1
@[simp] theorem cutAll_pending (s : State) : s.cutAll.pending = s.pending := (cutAll_frame s).2.2.2.2.2.2.2.2.2.2.2.2
@[simp] theorem cutAll_cfg (s : State) (d : ChanId) : s.cutAll.cfg d = s.cfg d := by simp [State.cfg]
@[simp] theorem cutAll_entry (s : State) (a' : Station) : s.cutAll.entry a' = s.entry a' := by simp [State.entry]

@[simp] theorem dropFrame_station (s : State) (c : ChanId) : (s.dropFrame c).station = s.station := by simp [State.dropFrame]
@[simp] theorem dropFrame_configs (s : State) (c : ChanId) : (s.dropFrame c).configs = s.configs := by simp [State.dropFrame]
@[simp] theorem dropFrame_slots (s : State) (c : ChanId) : (s.dropFrame c).slots = s.slots := by simp [State.dropFrame]
@[simp] theorem dropFrame_ram (s : State) (c : ChanId) : (s.dropFrame c).ram = s.ram := by simp [State.dropFrame]
@[simp] theorem dropFrame_line (s : State) (c : ChanId) : (s.dropFrame c).line = s.line := by simp [State.dropFrame]
@[simp] theorem dropFrame_arb (s : State) (c : ChanId) : (s.dropFrame c).arb = s.arb := by simp [State.dropFrame]
@[simp] theorem dropFrame_presence (s : State) (c : ChanId) : (s.dropFrame c).presence = s.presence := by simp [State.dropFrame]
@[simp] theorem dropFrame_beaconTimer (s : State) (c : ChanId) : (s.dropFrame c).beaconTimer = s.beaconTimer := by simp [State.dropFrame]
@[simp] theorem dropFrame_mc (s : State) (c : ChanId) : (s.dropFrame c).mc = s.mc := by simp [State.dropFrame]
@[simp] theorem dropFrame_wake (s : State) (c : ChanId) : (s.dropFrame c).wake = s.wake := by simp [State.dropFrame]
@[simp] theorem dropFrame_port (s : State) (c : ChanId) : (s.dropFrame c).port = s.port := by simp [State.dropFrame]
@[simp] theorem dropFrame_resetLow (s : State) (c : ChanId) : (s.dropFrame c).resetLow = s.resetLow := by simp [State.dropFrame]
@[simp] theorem dropFrame_clock (s : State) (c : ChanId) : (s.dropFrame c).clock = s.clock := by simp [State.dropFrame]
@[simp] theorem dropFrame_pending (s : State) (c : ChanId) : (s.dropFrame c).pending = s.pending := by simp [State.dropFrame]
@[simp] theorem dropFrame_cfg (s : State) (c : ChanId) (d : ChanId) : (s.dropFrame c).cfg d = s.cfg d := by simp [State.cfg]
@[simp] theorem dropFrame_slot (s : State) (c : ChanId) (i' : SlotId) : (s.dropFrame c).slot i' = s.slot i' := by simp [State.slot]
@[simp] theorem dropFrame_entry (s : State) (c : ChanId) (a' : Station) : (s.dropFrame c).entry a' = s.entry a' := by simp [State.entry]

@[simp] theorem storePublished_station (s : State) (c : ChanId) (k : SlotCopy) (p : List Byte) : (s.storePublished c k p).station = s.station := by simp [State.storePublished]
@[simp] theorem storePublished_configs (s : State) (c : ChanId) (k : SlotCopy) (p : List Byte) : (s.storePublished c k p).configs = s.configs := by simp [State.storePublished]
@[simp] theorem storePublished_line (s : State) (c : ChanId) (k : SlotCopy) (p : List Byte) : (s.storePublished c k p).line = s.line := by simp [State.storePublished]
@[simp] theorem storePublished_arb (s : State) (c : ChanId) (k : SlotCopy) (p : List Byte) : (s.storePublished c k p).arb = s.arb := by simp [State.storePublished]
@[simp] theorem storePublished_presence (s : State) (c : ChanId) (k : SlotCopy) (p : List Byte) : (s.storePublished c k p).presence = s.presence := by simp [State.storePublished]
@[simp] theorem storePublished_beaconTimer (s : State) (c : ChanId) (k : SlotCopy) (p : List Byte) : (s.storePublished c k p).beaconTimer = s.beaconTimer := by simp [State.storePublished]
@[simp] theorem storePublished_mc (s : State) (c : ChanId) (k : SlotCopy) (p : List Byte) : (s.storePublished c k p).mc = s.mc := by simp [State.storePublished]
@[simp] theorem storePublished_wake (s : State) (c : ChanId) (k : SlotCopy) (p : List Byte) : (s.storePublished c k p).wake = s.wake := by simp [State.storePublished]
@[simp] theorem storePublished_port (s : State) (c : ChanId) (k : SlotCopy) (p : List Byte) : (s.storePublished c k p).port = s.port := by simp [State.storePublished]
@[simp] theorem storePublished_resetLow (s : State) (c : ChanId) (k : SlotCopy) (p : List Byte) : (s.storePublished c k p).resetLow = s.resetLow := by simp [State.storePublished]
@[simp] theorem storePublished_clock (s : State) (c : ChanId) (k : SlotCopy) (p : List Byte) : (s.storePublished c k p).clock = s.clock := by simp [State.storePublished]
@[simp] theorem storePublished_pending (s : State) (c : ChanId) (k : SlotCopy) (p : List Byte) : (s.storePublished c k p).pending = s.pending := by simp [State.storePublished]
@[simp] theorem storePublished_cfg (s : State) (c : ChanId) (k : SlotCopy) (p : List Byte) (d : ChanId) : (s.storePublished c k p).cfg d = s.cfg d := by simp [State.cfg]
@[simp] theorem storePublished_entry (s : State) (c : ChanId) (k : SlotCopy) (p : List Byte) (a' : Station) : (s.storePublished c k p).entry a' = s.entry a' := by simp [State.entry]

theorem subscribed_frame (s : State) (c : ChanId) (f : Frame) :
    (s.subscribed c f).station = s.station ∧ (s.subscribed c f).configs = s.configs ∧ (s.subscribed c f).line = s.line
      ∧ (s.subscribed c f).presence = s.presence ∧ (s.subscribed c f).beaconTimer = s.beaconTimer ∧ (s.subscribed c f).mc = s.mc
      ∧ (s.subscribed c f).wake = s.wake ∧ (s.subscribed c f).port = s.port ∧ (s.subscribed c f).resetLow = s.resetLow
      ∧ (s.subscribed c f).clock = s.clock ∧ (s.subscribed c f).pending = s.pending := by
  have h0 := search_station s c
  have h1 := search_configs s c
  have h2 := search_line s c
  have h3 := search_presence s c
  have h4 := search_beaconTimer s c
  have h5 := search_mc s c
  have h6 := search_wake s c
  have h7 := search_port s c
  have h8 := search_resetLow s c
  have h9 := search_clock s c
  have h10 := search_pending s c
  simp only [State.subscribed]; repeat' split
  all_goals simp_all
@[simp] theorem subscribed_station (s : State) (c : ChanId) (f : Frame) : (s.subscribed c f).station = s.station := (subscribed_frame s c f).1
@[simp] theorem subscribed_configs (s : State) (c : ChanId) (f : Frame) : (s.subscribed c f).configs = s.configs := (subscribed_frame s c f).2.1
@[simp] theorem subscribed_line (s : State) (c : ChanId) (f : Frame) : (s.subscribed c f).line = s.line := (subscribed_frame s c f).2.2.1
@[simp] theorem subscribed_presence (s : State) (c : ChanId) (f : Frame) : (s.subscribed c f).presence = s.presence := (subscribed_frame s c f).2.2.2.1
@[simp] theorem subscribed_beaconTimer (s : State) (c : ChanId) (f : Frame) : (s.subscribed c f).beaconTimer = s.beaconTimer := (subscribed_frame s c f).2.2.2.2.1
@[simp] theorem subscribed_mc (s : State) (c : ChanId) (f : Frame) : (s.subscribed c f).mc = s.mc := (subscribed_frame s c f).2.2.2.2.2.1
@[simp] theorem subscribed_wake (s : State) (c : ChanId) (f : Frame) : (s.subscribed c f).wake = s.wake := (subscribed_frame s c f).2.2.2.2.2.2.1
@[simp] theorem subscribed_port (s : State) (c : ChanId) (f : Frame) : (s.subscribed c f).port = s.port := (subscribed_frame s c f).2.2.2.2.2.2.2.1
@[simp] theorem subscribed_resetLow (s : State) (c : ChanId) (f : Frame) : (s.subscribed c f).resetLow = s.resetLow := (subscribed_frame s c f).2.2.2.2.2.2.2.2.1
@[simp] theorem subscribed_clock (s : State) (c : ChanId) (f : Frame) : (s.subscribed c f).clock = s.clock := (subscribed_frame s c f).2.2.2.2.2.2.2.2.2.1
@[simp] theorem subscribed_pending (s : State) (c : ChanId) (f : Frame) : (s.subscribed c f).pending = s.pending := (subscribed_frame s c f).2.2.2.2.2.2.2.2.2.2
@[simp] theorem subscribed_cfg (s : State) (c : ChanId) (f : Frame) (d : ChanId) : (s.subscribed c f).cfg d = s.cfg d := by simp [State.cfg]
@[simp] theorem subscribed_entry (s : State) (c : ChanId) (f : Frame) (a' : Station) : (s.subscribed c f).entry a' = s.entry a' := by simp [State.entry]

theorem publishHeard_frame (s : State) (f : Frame) :
    (s.publishHeard f).station = s.station ∧ (s.publishHeard f).configs = s.configs ∧ (s.publishHeard f).line = s.line
      ∧ (s.publishHeard f).presence = s.presence ∧ (s.publishHeard f).beaconTimer = s.beaconTimer ∧ (s.publishHeard f).mc = s.mc
      ∧ (s.publishHeard f).wake = s.wake ∧ (s.publishHeard f).port = s.port ∧ (s.publishHeard f).resetLow = s.resetLow
      ∧ (s.publishHeard f).clock = s.clock ∧ (s.publishHeard f).pending = s.pending := by
  unfold State.publishHeard; split <;> simp
@[simp] theorem publishHeard_station (s : State) (f : Frame) : (s.publishHeard f).station = s.station := (publishHeard_frame s f).1
@[simp] theorem publishHeard_configs (s : State) (f : Frame) : (s.publishHeard f).configs = s.configs := (publishHeard_frame s f).2.1
@[simp] theorem publishHeard_line (s : State) (f : Frame) : (s.publishHeard f).line = s.line := (publishHeard_frame s f).2.2.1
@[simp] theorem publishHeard_presence (s : State) (f : Frame) : (s.publishHeard f).presence = s.presence := (publishHeard_frame s f).2.2.2.1
@[simp] theorem publishHeard_beaconTimer (s : State) (f : Frame) : (s.publishHeard f).beaconTimer = s.beaconTimer := (publishHeard_frame s f).2.2.2.2.1
@[simp] theorem publishHeard_mc (s : State) (f : Frame) : (s.publishHeard f).mc = s.mc := (publishHeard_frame s f).2.2.2.2.2.1
@[simp] theorem publishHeard_wake (s : State) (f : Frame) : (s.publishHeard f).wake = s.wake := (publishHeard_frame s f).2.2.2.2.2.2.1
@[simp] theorem publishHeard_port (s : State) (f : Frame) : (s.publishHeard f).port = s.port := (publishHeard_frame s f).2.2.2.2.2.2.2.1
@[simp] theorem publishHeard_resetLow (s : State) (f : Frame) : (s.publishHeard f).resetLow = s.resetLow := (publishHeard_frame s f).2.2.2.2.2.2.2.2.1
@[simp] theorem publishHeard_clock (s : State) (f : Frame) : (s.publishHeard f).clock = s.clock := (publishHeard_frame s f).2.2.2.2.2.2.2.2.2.1
@[simp] theorem publishHeard_pending (s : State) (f : Frame) : (s.publishHeard f).pending = s.pending := (publishHeard_frame s f).2.2.2.2.2.2.2.2.2.2
@[simp] theorem publishHeard_cfg (s : State) (f : Frame) (d : ChanId) : (s.publishHeard f).cfg d = s.cfg d := by simp [State.cfg]
@[simp] theorem publishHeard_entry (s : State) (f : Frame) (a' : Station) : (s.publishHeard f).entry a' = s.entry a' := by simp [State.entry]

end Sys2Proof.Machine.State
end

