-- ==== Sys2Proof/Laws/Line.lean ====
section
/-! SUPPORT. Bytes on the line (R2), the bytes that transactions carry one by one (R178, R179), and where the data bytes of a
register read are taken (R178). -/

namespace Sys2Proof

/-- A byte takes ten bit times (R2). -/
@[simp] theorem byteLevels_length (b : Byte) : (byteLevels b).length = 10 := by simp [byteLevels, byteBits]

/-- Each byte begins with a dominant start bit (R2). -/
theorem byteLevels_start (b : Byte) : (byteLevels b).head? = some .dominant := rfl

/-- Each byte ends with a recessive stop bit (R2). -/
theorem byteLevels_stop (b : Byte) : (byteLevels b).getLast? = some .recessive := by
  simp only [byteLevels]
  rw [← List.cons_append, List.getLast?_append]
  rfl

/-- A frame takes ten bit times for each of its bytes (R2). -/
@[simp] theorem Frame.levels_length (f : Frame) : f.levels.length = 10 * f.bytes.length := by
  simp [Frame.levels, List.length_flatMap, Nat.mul_comm]

/-- The idle bit times at the end of a byte are its recessive levels at the end (R4, R2). -/
theorem idleAfter_levels : ∀ b : Byte, idleAfter b = ((byteLevels b).reverse.takeWhile (· == .recessive)).length := by
  decide +kernel

/-- The dominant bit times through a dominant stop bit are that bit and the byte's dominant levels before it (R2, R22). -/
theorem dominantThroughStop_levels :
    ∀ b : Byte, dominantThroughStop b = 1 + ((byteLevels b).dropLast.reverse.takeWhile (· == .dominant)).length := by
  decide +kernel

end Sys2Proof

namespace Sys2Proof.Machine

/-- The commands of a buffer write, with the offset of each byte (R179). -/
theorem bufferWrites_eq (w : Word) (data : List Byte) :
    bufferWrites w data = data.mapIdx fun k v => Instr.bufferWrite (w + BitVec.ofNat 16 k) v := by
  induction data generalizing w with
  | nil => rfl
  | cons v vs ih =>
    simp only [bufferWrites, List.mapIdx_cons, ih]
    congr 1
    · simp
    · apply List.ext_getElem <;> simp
      intro i h
      rw [BitVec.add_assoc]
      congr 1
      rw [← BitVec.toNat_inj]
      simp only [BitVec.toNat_add, BitVec.toNat_ofNat, BitVec.toNat_one (by decide : 0 < 16)]
      omega

/-- A slot index and a place name the slot of their sum, round the table (R179). -/
theorem slotOf_add (index : Byte) (k : Nat) : slotOf index + Fin.ofNat 64 k = Fin.ofNat 64 (index.toNat + k) := by
  unfold slotOf
  apply Fin.ext
  simp [Fin.val_add]

/-- No field is longer than three bytes (R184). -/
theorem fieldStart_near (a : Nat) : fieldStart a ≤ a ∧ a ≤ fieldStart a + 2 := by
  unfold fieldStart
  repeat' split
  all_goals omega

/-- A data byte is taken at its own moment or at one of the two before it (R178). -/
theorem takenAt_near (addr : Word) (k : Nat) : takenAt addr k ≤ k ∧ k ≤ takenAt addr k + 2 := by
  have h := fieldStart_near (addr + BitVec.ofNat 16 k).toNat
  unfold takenAt
  dsimp only
  split <;> omega

end Sys2Proof.Machine
end

