-- ==== Sys2Proof/Laws/Memory.lean ====
section
/-! SUPPORT. Buffer RAM: what a write leaves at every offset, and the canonical form, which every operation keeps (R74). -/

namespace Sys2Proof.Machine

/-- Offsets in Buffer RAM are below its size. -/
theorem offset_lt (a : Offset) : a.toNat < Config.ramSize := a.isLt

/-- One offset is one more. -/
theorem offset_one : BitVec.toNat (1 : Offset) = 1 := rfl

/-- The next offset but `k`. -/
theorem offset_succ (a : Offset) (k : Nat) : a + BitVec.ofNat 12 (k + 1) = a + 1 + BitVec.ofNat 12 k := by
  apply BitVec.eq_of_toNat_eq
  simp only [BitVec.toNat_add, BitVec.toNat_ofNat, offset_one]
  omega

/-- A head below every other offset. -/
theorem Memory.wf_cons {k : Nat} {v : Byte} {m : Memory} :
    Memory.wf ((k, v) :: m) ↔ (∀ x ∈ m, k < x.1) ∧ (v ≠ Memory.unlisted ∧ k < Config.ramSize) ∧ Memory.wf m := by
  simp only [Memory.wf, List.pairwise_cons, List.forall_mem_cons]
  tauto

/-- The memory of RESET lists nothing. -/
theorem Memory.wf_nil : Memory.wf [] := by simp [Memory.wf]

/-- A listed offset after a write is one listed before or the one written. -/
theorem Memory.mem_write {m : Memory} {a : Offset} {b : Byte} {x : Host.Cell} (h : x ∈ Memory.write m a b) :
    x = (a.toNat, b) ∨ x ∈ m := by
  induction m with
  | nil => simp only [Memory.write] at h; split at h <;> simp_all
  | cons c m ih =>
    obtain ⟨k, v⟩ := c
    simp only [Memory.write] at h
    split at h
    · split at h
      · exact Or.inr h
      · rcases List.mem_cons.1 h with h | h
        · exact Or.inl h
        · exact Or.inr h
    · split at h
      · rename_i heq
        split at h
        · exact Or.inr (List.mem_cons_of_mem _ h)
        · rcases List.mem_cons.1 h with h | h
          · left; rw [h, heq]
          · exact Or.inr (List.mem_cons_of_mem _ h)
      · rcases List.mem_cons.1 h with h | h
        · exact Or.inr (by rw [h]; exact List.mem_cons_self)
        · exact (ih h).imp id (List.mem_cons_of_mem _)

/-- A write keeps the canonical form. -/
theorem Memory.write_wf {m : Memory} (h : Memory.wf m) (a : Offset) (b : Byte) : Memory.wf (Memory.write m a b) := by
  induction m with
  | nil =>
    simp only [Memory.write]
    split
    · exact Memory.wf_nil
    · exact Memory.wf_cons.2 ⟨by simp, ⟨by assumption, offset_lt a⟩, Memory.wf_nil⟩
  | cons c m ih =>
    obtain ⟨k, v⟩ := c
    have hc := Memory.wf_cons.1 h
    simp only [Memory.write]
    split
    · rename_i hlt
      split
      · exact h
      · refine Memory.wf_cons.2 ⟨?_, ⟨by assumption, offset_lt a⟩, h⟩
        intro x hx
        rcases List.mem_cons.1 hx with hx | hx
        · rw [hx]; exact hlt
        · exact lt_trans hlt (hc.1 x hx)
    · split
      · split
        · exact hc.2.2
        · exact Memory.wf_cons.2 ⟨hc.1, ⟨by assumption, hc.2.1.2⟩, hc.2.2⟩
      · refine Memory.wf_cons.2 ⟨?_, hc.2.1, ih hc.2.2⟩
        intro x hx
        rcases Memory.mem_write hx with hx | hx
        · rw [hx]; show k < a.toNat; omega
        · exact hc.1 x hx

/-- Bytes written one after another keep the canonical form. -/
theorem Memory.writeBytes_wf {m : Memory} (h : Memory.wf m) (a : Offset) (bs : List Byte) :
    Memory.wf (Memory.writeBytes m a bs) := by
  induction bs generalizing m a with
  | nil => exact h
  | cons b bs ih => exact ih (Memory.write_wf h a b) (a + 1)

/-- An offset below every listed one reads as an unlisted one. -/
theorem Memory.read_below {m : Memory} {a : Offset} (h : ∀ x ∈ m, a.toNat < x.1) : Memory.read m a = Memory.unlisted := by
  induction m with
  | nil => rfl
  | cons c m ih =>
    obtain ⟨k, v⟩ := c
    have hk : a.toNat < k := h (k, v) List.mem_cons_self
    simp only [Memory.read]
    rw [if_neg (by omega)]
    exact ih fun x hx => h x (List.mem_cons_of_mem _ hx)

/-- What any offset reads as after a write. -/
theorem Memory.read_write {m : Memory} (h : Memory.wf m) (a : Offset) (b : Byte) (x : Offset) :
    Memory.read (Memory.write m a b) x = if x = a then b else Memory.read m x := by
  induction m with
  | nil =>
    by_cases hx : x = a
    · subst hx; by_cases hb : b = Memory.unlisted <;> simp [Memory.write, Memory.read, hb]
    · have : a.toNat ≠ x.toNat := fun e => hx (BitVec.eq_of_toNat_eq e.symm)
      by_cases hb : b = Memory.unlisted <;> simp [Memory.write, Memory.read, hb, hx, this]
  | cons c m ih =>
    obtain ⟨k, v⟩ := c
    have hc := Memory.wf_cons.1 h
    by_cases hx : x = a
    · subst hx
      simp only [if_true, Memory.write]
      split
      · rename_i hlt
        split
        · rename_i hb
          rw [hb]
          refine Memory.read_below fun y hy => ?_
          rcases List.mem_cons.1 hy with hy | hy
          · rw [hy]; exact hlt
          · exact lt_trans hlt (hc.1 y hy)
        · simp [Memory.read]
      · split
        · rename_i heq
          split
          · rename_i hb
            rw [hb]
            exact Memory.read_below fun y hy => heq ▸ hc.1 y hy
          · simp [Memory.read, heq]
        · rename_i hne
          have : k ≠ x.toNat := fun e => hne e.symm
          simp only [Memory.read, if_neg this]
          simpa using ih hc.2.2
    · have hax : a.toNat ≠ x.toNat := fun e => hx (BitVec.eq_of_toNat_eq e.symm)
      simp only [if_neg hx, Memory.write]
      split
      · split
        · rfl
        · simp [Memory.read, hax]
      · split
        · rename_i heq
          split
          · have : k ≠ x.toNat := fun e => hax (heq.trans e)
            simp [Memory.read, this]
          · have : k ≠ x.toNat := fun e => hax (heq.trans e)
            simp [Memory.read, this]
        · simp only [Memory.read]
          split
          · rfl
          · simpa [hx] using ih hc.2.2

/-- An offset outside the written run reads as before. -/
theorem Memory.read_writeBytes_ne {m : Memory} (h : Memory.wf m) (a x : Offset) (bs : List Byte)
    (hx : ∀ k < bs.length, x ≠ a + BitVec.ofNat 12 k) :
    Memory.read (Memory.writeBytes m a bs) x = Memory.read m x := by
  induction bs generalizing m a with
  | nil => rfl
  | cons b bs ih =>
    have h0 : x ≠ a := by simpa using hx 0 (by simp)
    rw [Memory.writeBytes, ih (Memory.write_wf h a b) (a + 1), Memory.read_write h, if_neg h0]
    intro k hk
    have := hx (k + 1) (by simpa using hk)
    rwa [offset_succ] at this

/-- The bytes of a written run, which is no longer than Buffer RAM, read back. -/
theorem Memory.read_writeBytes {m : Memory} (h : Memory.wf m) (a : Offset) (bs : List Byte)
    (hl : bs.length ≤ Config.ramSize) (k : Nat) (hk : k < bs.length) :
    Memory.read (Memory.writeBytes m a bs) (a + BitVec.ofNat 12 k) = bs[k] := by
  induction bs generalizing m a k with
  | nil => simp at hk
  | cons b bs ih =>
    have hsz : bs.length + 1 ≤ 4096 := hl
    cases k with
    | zero =>
      rw [Memory.writeBytes, Memory.read_writeBytes_ne (Memory.write_wf h a b)]
      · simp [Memory.read_write h]
      · intro j hj e
        have hj' : j + 1 < 4096 := by omega
        have e2 := congrArg BitVec.toNat e
        simp only [BitVec.toNat_add, BitVec.toNat_ofNat, offset_one] at e2
        have ha := a.isLt
        omega
    | succ k =>
      rw [offset_succ]
      simpa [Memory.writeBytes] using
        ih (Memory.write_wf h a b) (a + 1) (show bs.length ≤ 4096 by omega) k (by simpa using hk)

/-- Bytes read one after another. -/
@[simp] theorem Memory.readBytes_length (m : Memory) (a : Offset) (n : Nat) : (Memory.readBytes m a n).length = n := by
  induction n generalizing a with
  | zero => rfl
  | succ n ih => simp [Memory.readBytes, ih]

end Sys2Proof.Machine
end

