-- ==== Sys2Proof/Laws/Station.lean ====
section
/-! SUPPORT. The frame of every operation of the Station Arbiter and the Mode Controller: the parts of the state it leaves. Every lemma is one field, for simp. -/

namespace Sys2Proof.Machine.State

theorem abandonLatch_frame (s : State) :
    s.abandonLatch.station = s.station ∧ s.abandonLatch.configs = s.configs ∧ s.abandonLatch.ram = s.ram
      ∧ s.abandonLatch.line = s.line ∧ s.abandonLatch.beaconTimer = s.beaconTimer ∧ s.abandonLatch.mc = s.mc
      ∧ s.abandonLatch.wake = s.wake ∧ s.abandonLatch.port = s.port ∧ s.abandonLatch.resetLow = s.resetLow
      ∧ s.abandonLatch.clock = s.clock ∧ s.abandonLatch.pending = s.pending := by
  simp only [State.abandonLatch]; repeat' split
  all_goals simp
@[simp] theorem abandonLatch_station (s : State) : s.abandonLatch.station = s.station := (abandonLatch_frame s).1
@[simp] theorem abandonLatch_configs (s : State) : s.abandonLatch.configs = s.configs := (abandonLatch_frame s).2.1
@[simp] theorem abandonLatch_ram (s : State) : s.abandonLatch.ram = s.ram := (abandonLatch_frame s).2.2.1
@[simp] theorem abandonLatch_line (s : State) : s.abandonLatch.line = s.line := (abandonLatch_frame s).2.2.2.1
@[simp] theorem abandonLatch_beaconTimer (s : State) : s.abandonLatch.beaconTimer = s.beaconTimer := (abandonLatch_frame s).2.2.2.2.1
@[simp] theorem abandonLatch_mc (s : State) : s.abandonLatch.mc = s.mc := (abandonLatch_frame s).2.2.2.2.2.1
@[simp] theorem abandonLatch_wake (s : State) : s.abandonLatch.wake = s.wake := (abandonLatch_frame s).2.2.2.2.2.2.1
@[simp] theorem abandonLatch_port (s : State) : s.abandonLatch.port = s.port := (abandonLatch_frame s).2.2.2.2.2.2.2.1
@[simp] theorem abandonLatch_resetLow (s : State) : s.abandonLatch.resetLow = s.resetLow := (abandonLatch_frame s).2.2.2.2.2.2.2.2.1
@[simp] theorem abandonLatch_clock (s : State) : s.abandonLatch.clock = s.clock := (abandonLatch_frame s).2.2.2.2.2.2.2.2.2.1
@[simp] theorem abandonLatch_pending (s : State) : s.abandonLatch.pending = s.pending := (abandonLatch_frame s).2.2.2.2.2.2.2.2.2.2
@[simp] theorem abandonLatch_cfg (s : State) (d : ChanId) : s.abandonLatch.cfg d = s.cfg d := by simp [State.cfg]

@[simp] theorem withdraw_station (s : State) : s.withdraw.station = s.station := by simp [State.withdraw]
@[simp] theorem withdraw_configs (s : State) : s.withdraw.configs = s.configs := by simp [State.withdraw]
@[simp] theorem withdraw_ram (s : State) : s.withdraw.ram = s.ram := by simp [State.withdraw]
@[simp] theorem withdraw_wake (s : State) : s.withdraw.wake = s.wake := by simp [State.withdraw]
@[simp] theorem withdraw_port (s : State) : s.withdraw.port = s.port := by simp [State.withdraw]
@[simp] theorem withdraw_resetLow (s : State) : s.withdraw.resetLow = s.resetLow := by simp [State.withdraw]
@[simp] theorem withdraw_clock (s : State) : s.withdraw.clock = s.clock := by simp [State.withdraw]
@[simp] theorem withdraw_pending (s : State) : s.withdraw.pending = s.pending := by simp [State.withdraw]
@[simp] theorem withdraw_cfg (s : State) (d : ChanId) : s.withdraw.cfg d = s.cfg d := by simp [State.cfg]

@[simp] theorem enterRestart_station (s : State) (k : EntryCause) : (s.enterRestart k).station = s.station := by simp [State.enterRestart]
@[simp] theorem enterRestart_configs (s : State) (k : EntryCause) : (s.enterRestart k).configs = s.configs := by simp [State.enterRestart]
@[simp] theorem enterRestart_ram (s : State) (k : EntryCause) : (s.enterRestart k).ram = s.ram := by simp [State.enterRestart]
@[simp] theorem enterRestart_port (s : State) (k : EntryCause) : (s.enterRestart k).port = s.port := by simp [State.enterRestart]
@[simp] theorem enterRestart_resetLow (s : State) (k : EntryCause) : (s.enterRestart k).resetLow = s.resetLow := by simp [State.enterRestart]
@[simp] theorem enterRestart_clock (s : State) (k : EntryCause) : (s.enterRestart k).clock = s.clock := by simp [State.enterRestart]
@[simp] theorem enterRestart_pending (s : State) (k : EntryCause) : (s.enterRestart k).pending = s.pending := by simp [State.enterRestart]
@[simp] theorem enterRestart_cfg (s : State) (k : EntryCause) (d : ChanId) : (s.enterRestart k).cfg d = s.cfg d := by simp [State.cfg]

@[simp] theorem enterSafe_station (s : State) (k : SafeFault) : (s.enterSafe k).station = s.station := by simp [State.enterSafe]
@[simp] theorem enterSafe_configs (s : State) (k : SafeFault) : (s.enterSafe k).configs = s.configs := by simp [State.enterSafe]
@[simp] theorem enterSafe_ram (s : State) (k : SafeFault) : (s.enterSafe k).ram = s.ram := by simp [State.enterSafe]
@[simp] theorem enterSafe_port (s : State) (k : SafeFault) : (s.enterSafe k).port = s.port := by simp [State.enterSafe]
@[simp] theorem enterSafe_resetLow (s : State) (k : SafeFault) : (s.enterSafe k).resetLow = s.resetLow := by simp [State.enterSafe]
@[simp] theorem enterSafe_clock (s : State) (k : SafeFault) : (s.enterSafe k).clock = s.clock := by simp [State.enterSafe]
@[simp] theorem enterSafe_pending (s : State) (k : SafeFault) : (s.enterSafe k).pending = s.pending := by simp [State.enterSafe]
@[simp] theorem enterSafe_cfg (s : State) (k : SafeFault) (d : ChanId) : (s.enterSafe k).cfg d = s.cfg d := by simp [State.cfg]

@[simp] theorem enterSleep_station (s : State) (k : EntryCause) : (s.enterSleep k).station = s.station := by simp [State.enterSleep]
@[simp] theorem enterSleep_configs (s : State) (k : EntryCause) : (s.enterSleep k).configs = s.configs := by simp [State.enterSleep]
@[simp] theorem enterSleep_ram (s : State) (k : EntryCause) : (s.enterSleep k).ram = s.ram := by simp [State.enterSleep]
@[simp] theorem enterSleep_port (s : State) (k : EntryCause) : (s.enterSleep k).port = s.port := by simp [State.enterSleep]
@[simp] theorem enterSleep_resetLow (s : State) (k : EntryCause) : (s.enterSleep k).resetLow = s.resetLow := by simp [State.enterSleep]
@[simp] theorem enterSleep_clock (s : State) (k : EntryCause) : (s.enterSleep k).clock = s.clock := by simp [State.enterSleep]
@[simp] theorem enterSleep_pending (s : State) (k : EntryCause) : (s.enterSleep k).pending = s.pending := by simp [State.enterSleep]
@[simp] theorem enterSleep_cfg (s : State) (k : EntryCause) (d : ChanId) : (s.enterSleep k).cfg d = s.cfg d := by simp [State.cfg]

@[simp] theorem enterSleepFromSafe_station (s : State) (k : EntryCause) : (s.enterSleepFromSafe k).station = s.station := by simp [State.enterSleepFromSafe]
@[simp] theorem enterSleepFromSafe_configs (s : State) (k : EntryCause) : (s.enterSleepFromSafe k).configs = s.configs := by simp [State.enterSleepFromSafe]
@[simp] theorem enterSleepFromSafe_contexts (s : State) (k : EntryCause) : (s.enterSleepFromSafe k).contexts = s.contexts := by simp [State.enterSleepFromSafe]
@[simp] theorem enterSleepFromSafe_slots (s : State) (k : EntryCause) : (s.enterSleepFromSafe k).slots = s.slots := by simp [State.enterSleepFromSafe]
@[simp] theorem enterSleepFromSafe_ram (s : State) (k : EntryCause) : (s.enterSleepFromSafe k).ram = s.ram := by simp [State.enterSleepFromSafe]
@[simp] theorem enterSleepFromSafe_line (s : State) (k : EntryCause) : (s.enterSleepFromSafe k).line = s.line := by simp [State.enterSleepFromSafe]
@[simp] theorem enterSleepFromSafe_arb (s : State) (k : EntryCause) : (s.enterSleepFromSafe k).arb = s.arb := by simp [State.enterSleepFromSafe]
@[simp] theorem enterSleepFromSafe_presence (s : State) (k : EntryCause) : (s.enterSleepFromSafe k).presence = s.presence := by simp [State.enterSleepFromSafe]
@[simp] theorem enterSleepFromSafe_beaconTimer (s : State) (k : EntryCause) : (s.enterSleepFromSafe k).beaconTimer = s.beaconTimer := by simp [State.enterSleepFromSafe]
@[simp] theorem enterSleepFromSafe_wake (s : State) (k : EntryCause) : (s.enterSleepFromSafe k).wake = s.wake := by simp [State.enterSleepFromSafe]
@[simp] theorem enterSleepFromSafe_port (s : State) (k : EntryCause) : (s.enterSleepFromSafe k).port = s.port := by simp [State.enterSleepFromSafe]
@[simp] theorem enterSleepFromSafe_resetLow (s : State) (k : EntryCause) : (s.enterSleepFromSafe k).resetLow = s.resetLow := by simp [State.enterSleepFromSafe]
@[simp] theorem enterSleepFromSafe_clock (s : State) (k : EntryCause) : (s.enterSleepFromSafe k).clock = s.clock := by simp [State.enterSleepFromSafe]
@[simp] theorem enterSleepFromSafe_pending (s : State) (k : EntryCause) : (s.enterSleepFromSafe k).pending = s.pending := by simp [State.enterSleepFromSafe]
@[simp] theorem enterSleepFromSafe_cfg (s : State) (k : EntryCause) (d : ChanId) : (s.enterSleepFromSafe k).cfg d = s.cfg d := by simp [State.cfg]
@[simp] theorem enterSleepFromSafe_ctx (s : State) (k : EntryCause) (d : ChanId) : (s.enterSleepFromSafe k).ctx d = s.ctx d := by simp [State.ctx]
@[simp] theorem enterSleepFromSafe_slot (s : State) (k : EntryCause) (i' : SlotId) : (s.enterSleepFromSafe k).slot i' = s.slot i' := by simp [State.slot]
@[simp] theorem enterSleepFromSafe_entry (s : State) (k : EntryCause) (a' : Station) : (s.enterSleepFromSafe k).entry a' = s.entry a' := by simp [State.entry]

@[simp] theorem enterListen_station (s : State) : s.enterListen.station = s.station := by simp [State.enterListen]
@[simp] theorem enterListen_configs (s : State) : s.enterListen.configs = s.configs := by simp [State.enterListen]
@[simp] theorem enterListen_contexts (s : State) : s.enterListen.contexts = s.contexts := by simp [State.enterListen]
@[simp] theorem enterListen_slots (s : State) : s.enterListen.slots = s.slots := by simp [State.enterListen]
@[simp] theorem enterListen_ram (s : State) : s.enterListen.ram = s.ram := by simp [State.enterListen]
@[simp] theorem enterListen_arb (s : State) : s.enterListen.arb = s.arb := by simp [State.enterListen]
@[simp] theorem enterListen_presence (s : State) : s.enterListen.presence = s.presence := by simp [State.enterListen]
@[simp] theorem enterListen_beaconTimer (s : State) : s.enterListen.beaconTimer = s.beaconTimer := by simp [State.enterListen]
@[simp] theorem enterListen_wake (s : State) : s.enterListen.wake = s.wake := by simp [State.enterListen]
@[simp] theorem enterListen_port (s : State) : s.enterListen.port = s.port := by simp [State.enterListen]
@[simp] theorem enterListen_resetLow (s : State) : s.enterListen.resetLow = s.resetLow := by simp [State.enterListen]
@[simp] theorem enterListen_clock (s : State) : s.enterListen.clock = s.clock := by simp [State.enterListen]
@[simp] theorem enterListen_pending (s : State) : s.enterListen.pending = s.pending := by simp [State.enterListen]
@[simp] theorem enterListen_cfg (s : State) (d : ChanId) : s.enterListen.cfg d = s.cfg d := by simp [State.cfg]
@[simp] theorem enterListen_ctx (s : State) (d : ChanId) : s.enterListen.ctx d = s.ctx d := by simp [State.ctx]
@[simp] theorem enterListen_slot (s : State) (i' : SlotId) : s.enterListen.slot i' = s.slot i' := by simp [State.slot]
@[simp] theorem enterListen_entry (s : State) (a' : Station) : s.enterListen.entry a' = s.entry a' := by simp [State.entry]

@[simp] theorem enterActive_station (s : State) : s.enterActive.station = s.station := by simp [State.enterActive]
@[simp] theorem enterActive_configs (s : State) : s.enterActive.configs = s.configs := by simp [State.enterActive]
@[simp] theorem enterActive_contexts (s : State) : s.enterActive.contexts = s.contexts := by simp [State.enterActive]
@[simp] theorem enterActive_slots (s : State) : s.enterActive.slots = s.slots := by simp [State.enterActive]
@[simp] theorem enterActive_ram (s : State) : s.enterActive.ram = s.ram := by simp [State.enterActive]
@[simp] theorem enterActive_line (s : State) : s.enterActive.line = s.line := by simp [State.enterActive]
@[simp] theorem enterActive_presence (s : State) : s.enterActive.presence = s.presence := by simp [State.enterActive]
@[simp] theorem enterActive_wake (s : State) : s.enterActive.wake = s.wake := by simp [State.enterActive]
@[simp] theorem enterActive_port (s : State) : s.enterActive.port = s.port := by simp [State.enterActive]
@[simp] theorem enterActive_resetLow (s : State) : s.enterActive.resetLow = s.resetLow := by simp [State.enterActive]
@[simp] theorem enterActive_clock (s : State) : s.enterActive.clock = s.clock := by simp [State.enterActive]
@[simp] theorem enterActive_pending (s : State) : s.enterActive.pending = s.pending := by simp [State.enterActive]
@[simp] theorem enterActive_cfg (s : State) (d : ChanId) : s.enterActive.cfg d = s.cfg d := by simp [State.cfg]
@[simp] theorem enterActive_ctx (s : State) (d : ChanId) : s.enterActive.ctx d = s.ctx d := by simp [State.ctx]
@[simp] theorem enterActive_slot (s : State) (i' : SlotId) : s.enterActive.slot i' = s.slot i' := by simp [State.slot]
@[simp] theorem enterActive_entry (s : State) (a' : Station) : s.enterActive.entry a' = s.entry a' := by simp [State.entry]

theorem escalate_frame (s : State) :
    s.escalate.station = s.station ∧ s.escalate.configs = s.configs ∧ s.escalate.ram = s.ram
      ∧ s.escalate.port = s.port ∧ s.escalate.resetLow = s.resetLow ∧ s.escalate.clock = s.clock
      ∧ s.escalate.pending = s.pending := by
  unfold State.escalate; split <;> simp
@[simp] theorem escalate_station (s : State) : s.escalate.station = s.station := (escalate_frame s).1
@[simp] theorem escalate_configs (s : State) : s.escalate.configs = s.configs := (escalate_frame s).2.1
@[simp] theorem escalate_ram (s : State) : s.escalate.ram = s.ram := (escalate_frame s).2.2.1
@[simp] theorem escalate_port (s : State) : s.escalate.port = s.port := (escalate_frame s).2.2.2.1
@[simp] theorem escalate_resetLow (s : State) : s.escalate.resetLow = s.resetLow := (escalate_frame s).2.2.2.2.1
@[simp] theorem escalate_clock (s : State) : s.escalate.clock = s.clock := (escalate_frame s).2.2.2.2.2.1
@[simp] theorem escalate_pending (s : State) : s.escalate.pending = s.pending := (escalate_frame s).2.2.2.2.2.2
@[simp] theorem escalate_cfg (s : State) (d : ChanId) : s.escalate.cfg d = s.cfg d := by simp [State.cfg]

theorem reportRise_frame (s : State) (n : Nat) :
    (s.reportRise n).station = s.station ∧ (s.reportRise n).configs = s.configs ∧ (s.reportRise n).ram = s.ram
      ∧ (s.reportRise n).port = s.port ∧ (s.reportRise n).resetLow = s.resetLow ∧ (s.reportRise n).clock = s.clock
      ∧ (s.reportRise n).pending = s.pending := by
  simp only [State.reportRise]; repeat' split
  all_goals simp
@[simp] theorem reportRise_station (s : State) (n : Nat) : (s.reportRise n).station = s.station := (reportRise_frame s n).1
@[simp] theorem reportRise_configs (s : State) (n : Nat) : (s.reportRise n).configs = s.configs := (reportRise_frame s n).2.1
@[simp] theorem reportRise_ram (s : State) (n : Nat) : (s.reportRise n).ram = s.ram := (reportRise_frame s n).2.2.1
@[simp] theorem reportRise_port (s : State) (n : Nat) : (s.reportRise n).port = s.port := (reportRise_frame s n).2.2.2.1
@[simp] theorem reportRise_resetLow (s : State) (n : Nat) : (s.reportRise n).resetLow = s.resetLow := (reportRise_frame s n).2.2.2.2.1
@[simp] theorem reportRise_clock (s : State) (n : Nat) : (s.reportRise n).clock = s.clock := (reportRise_frame s n).2.2.2.2.2.1
@[simp] theorem reportRise_pending (s : State) (n : Nat) : (s.reportRise n).pending = s.pending := (reportRise_frame s n).2.2.2.2.2.2
@[simp] theorem reportRise_cfg (s : State) (n : Nat) (d : ChanId) : (s.reportRise n).cfg d = s.cfg d := by simp [State.cfg]

theorem reportGood_frame (s : State) :
    s.reportGood.station = s.station ∧ s.reportGood.configs = s.configs ∧ s.reportGood.contexts = s.contexts
      ∧ s.reportGood.slots = s.slots ∧ s.reportGood.ram = s.ram ∧ s.reportGood.line = s.line
      ∧ s.reportGood.arb = s.arb ∧ s.reportGood.presence = s.presence ∧ s.reportGood.beaconTimer = s.beaconTimer
      ∧ s.reportGood.wake = s.wake ∧ s.reportGood.notice = s.notice ∧ s.reportGood.port = s.port
      ∧ s.reportGood.resetLow = s.resetLow ∧ s.reportGood.clock = s.clock ∧ s.reportGood.pending = s.pending := by
  unfold State.reportGood; split <;> simp
@[simp] theorem reportGood_station (s : State) : s.reportGood.station = s.station := (reportGood_frame s).1
@[simp] theorem reportGood_configs (s : State) : s.reportGood.configs = s.configs := (reportGood_frame s).2.1
@[simp] theorem reportGood_contexts (s : State) : s.reportGood.contexts = s.contexts := (reportGood_frame s).2.2.1
@[simp] theorem reportGood_slots (s : State) : s.reportGood.slots = s.slots := (reportGood_frame s).2.2.2.1
@[simp] theorem reportGood_ram (s : State) : s.reportGood.ram = s.ram := (reportGood_frame s).2.2.2.2.1
@[simp] theorem reportGood_line (s : State) : s.reportGood.line = s.line := (reportGood_frame s).2.2.2.2.2.1
@[simp] theorem reportGood_arb (s : State) : s.reportGood.arb = s.arb := (reportGood_frame s).2.2.2.2.2.2.1
@[simp] theorem reportGood_presence (s : State) : s.reportGood.presence = s.presence := (reportGood_frame s).2.2.2.2.2.2.2.1
@[simp] theorem reportGood_beaconTimer (s : State) : s.reportGood.beaconTimer = s.beaconTimer := (reportGood_frame s).2.2.2.2.2.2.2.2.1
@[simp] theorem reportGood_wake (s : State) : s.reportGood.wake = s.wake := (reportGood_frame s).2.2.2.2.2.2.2.2.2.1
@[simp] theorem reportGood_notice (s : State) : s.reportGood.notice = s.notice := (reportGood_frame s).2.2.2.2.2.2.2.2.2.2.1
@[simp] theorem reportGood_port (s : State) : s.reportGood.port = s.port := (reportGood_frame s).2.2.2.2.2.2.2.2.2.2.2.1
@[simp] theorem reportGood_resetLow (s : State) : s.reportGood.resetLow = s.resetLow := (reportGood_frame s).2.2.2.2.2.2.2.2.2.2.2.2.1
@[simp] theorem reportGood_clock (s : State) : s.reportGood.clock = s.clock := (reportGood_frame s).2.2.2.2.2.2.2.2.2.2.2.2.2.1
@[simp] theorem reportGood_pending (s : State) : s.reportGood.pending = s.pending := (reportGood_frame s).2.2.2.2.2.2.2.2.2.2.2.2.2.2
@[simp] theorem reportGood_cfg (s : State) (d : ChanId) : s.reportGood.cfg d = s.cfg d := by simp [State.cfg]
@[simp] theorem reportGood_ctx (s : State) (d : ChanId) : s.reportGood.ctx d = s.ctx d := by simp [State.ctx]
@[simp] theorem reportGood_slot (s : State) (i' : SlotId) : s.reportGood.slot i' = s.slot i' := by simp [State.slot]
@[simp] theorem reportGood_entry (s : State) (a' : Station) : s.reportGood.entry a' = s.entry a' := by simp [State.entry]

theorem reportClash_frame (s : State) :
    s.reportClash.station = s.station ∧ s.reportClash.configs = s.configs ∧ s.reportClash.ram = s.ram
      ∧ s.reportClash.port = s.port ∧ s.reportClash.resetLow = s.resetLow ∧ s.reportClash.clock = s.clock
      ∧ s.reportClash.pending = s.pending := by
  unfold State.reportClash; split <;> simp
@[simp] theorem reportClash_station (s : State) : s.reportClash.station = s.station := (reportClash_frame s).1
@[simp] theorem reportClash_configs (s : State) : s.reportClash.configs = s.configs := (reportClash_frame s).2.1
@[simp] theorem reportClash_ram (s : State) : s.reportClash.ram = s.ram := (reportClash_frame s).2.2.1
@[simp] theorem reportClash_port (s : State) : s.reportClash.port = s.port := (reportClash_frame s).2.2.2.1
@[simp] theorem reportClash_resetLow (s : State) : s.reportClash.resetLow = s.resetLow := (reportClash_frame s).2.2.2.2.1
@[simp] theorem reportClash_clock (s : State) : s.reportClash.clock = s.clock := (reportClash_frame s).2.2.2.2.2.1
@[simp] theorem reportClash_pending (s : State) : s.reportClash.pending = s.pending := (reportClash_frame s).2.2.2.2.2.2
@[simp] theorem reportClash_cfg (s : State) (d : ChanId) : s.reportClash.cfg d = s.cfg d := by simp [State.cfg]

theorem wakeEvent_frame (s : State) :
    s.wakeEvent.station = s.station ∧ s.wakeEvent.configs = s.configs ∧ s.wakeEvent.ram = s.ram
      ∧ s.wakeEvent.port = s.port ∧ s.wakeEvent.resetLow = s.resetLow ∧ s.wakeEvent.clock = s.clock
      ∧ s.wakeEvent.pending = s.pending := by
  unfold State.wakeEvent; repeat' split
  all_goals simp
@[simp] theorem wakeEvent_station (s : State) : s.wakeEvent.station = s.station := (wakeEvent_frame s).1
@[simp] theorem wakeEvent_configs (s : State) : s.wakeEvent.configs = s.configs := (wakeEvent_frame s).2.1
@[simp] theorem wakeEvent_ram (s : State) : s.wakeEvent.ram = s.ram := (wakeEvent_frame s).2.2.1
@[simp] theorem wakeEvent_port (s : State) : s.wakeEvent.port = s.port := (wakeEvent_frame s).2.2.2.1
@[simp] theorem wakeEvent_resetLow (s : State) : s.wakeEvent.resetLow = s.resetLow := (wakeEvent_frame s).2.2.2.2.1
@[simp] theorem wakeEvent_clock (s : State) : s.wakeEvent.clock = s.clock := (wakeEvent_frame s).2.2.2.2.2.1
@[simp] theorem wakeEvent_pending (s : State) : s.wakeEvent.pending = s.pending := (wakeEvent_frame s).2.2.2.2.2.2
@[simp] theorem wakeEvent_cfg (s : State) (d : ChanId) : s.wakeEvent.cfg d = s.cfg d := by simp [State.cfg]

theorem takeOffer_frame (s : State) (o : Owner) :
    (s.takeOffer o).station = s.station ∧ (s.takeOffer o).configs = s.configs ∧ (s.takeOffer o).contexts = s.contexts
      ∧ (s.takeOffer o).slots = s.slots ∧ (s.takeOffer o).ram = s.ram ∧ (s.takeOffer o).line = s.line
      ∧ (s.takeOffer o).presence = s.presence ∧ (s.takeOffer o).beaconTimer = s.beaconTimer ∧ (s.takeOffer o).mc = s.mc
      ∧ (s.takeOffer o).wake = s.wake ∧ (s.takeOffer o).notice = s.notice ∧ (s.takeOffer o).port = s.port
      ∧ (s.takeOffer o).resetLow = s.resetLow ∧ (s.takeOffer o).clock = s.clock ∧ (s.takeOffer o).pending = s.pending := by
  unfold State.takeOffer; split <;> simp
@[simp] theorem takeOffer_station (s : State) (o : Owner) : (s.takeOffer o).station = s.station := (takeOffer_frame s o).1
@[simp] theorem takeOffer_configs (s : State) (o : Owner) : (s.takeOffer o).configs = s.configs := (takeOffer_frame s o).2.1
@[simp] theorem takeOffer_contexts (s : State) (o : Owner) : (s.takeOffer o).contexts = s.contexts := (takeOffer_frame s o).2.2.1
@[simp] theorem takeOffer_slots (s : State) (o : Owner) : (s.takeOffer o).slots = s.slots := (takeOffer_frame s o).2.2.2.1
@[simp] theorem takeOffer_ram (s : State) (o : Owner) : (s.takeOffer o).ram = s.ram := (takeOffer_frame s o).2.2.2.2.1
@[simp] theorem takeOffer_line (s : State) (o : Owner) : (s.takeOffer o).line = s.line := (takeOffer_frame s o).2.2.2.2.2.1
@[simp] theorem takeOffer_presence (s : State) (o : Owner) : (s.takeOffer o).presence = s.presence := (takeOffer_frame s o).2.2.2.2.2.2.1
@[simp] theorem takeOffer_beaconTimer (s : State) (o : Owner) : (s.takeOffer o).beaconTimer = s.beaconTimer := (takeOffer_frame s o).2.2.2.2.2.2.2.1
@[simp] theorem takeOffer_mc (s : State) (o : Owner) : (s.takeOffer o).mc = s.mc := (takeOffer_frame s o).2.2.2.2.2.2.2.2.1
@[simp] theorem takeOffer_wake (s : State) (o : Owner) : (s.takeOffer o).wake = s.wake := (takeOffer_frame s o).2.2.2.2.2.2.2.2.2.1
@[simp] theorem takeOffer_notice (s : State) (o : Owner) : (s.takeOffer o).notice = s.notice := (takeOffer_frame s o).2.2.2.2.2.2.2.2.2.2.1
@[simp] theorem takeOffer_port (s : State) (o : Owner) : (s.takeOffer o).port = s.port := (takeOffer_frame s o).2.2.2.2.2.2.2.2.2.2.2.1
@[simp] theorem takeOffer_resetLow (s : State) (o : Owner) : (s.takeOffer o).resetLow = s.resetLow := (takeOffer_frame s o).2.2.2.2.2.2.2.2.2.2.2.2.1
@[simp] theorem takeOffer_clock (s : State) (o : Owner) : (s.takeOffer o).clock = s.clock := (takeOffer_frame s o).2.2.2.2.2.2.2.2.2.2.2.2.2.1
@[simp] theorem takeOffer_pending (s : State) (o : Owner) : (s.takeOffer o).pending = s.pending := (takeOffer_frame s o).2.2.2.2.2.2.2.2.2.2.2.2.2.2
@[simp] theorem takeOffer_cfg (s : State) (o : Owner) (d : ChanId) : (s.takeOffer o).cfg d = s.cfg d := by simp [State.cfg]
@[simp] theorem takeOffer_ctx (s : State) (o : Owner) (d : ChanId) : (s.takeOffer o).ctx d = s.ctx d := by simp [State.ctx]
@[simp] theorem takeOffer_slot (s : State) (o : Owner) (i' : SlotId) : (s.takeOffer o).slot i' = s.slot i' := by simp [State.slot]
@[simp] theorem takeOffer_entry (s : State) (o : Owner) (a' : Station) : (s.takeOffer o).entry a' = s.entry a' := by simp [State.entry]

@[simp] theorem latchAttempt_station (s : State) (o : Owner) : (s.latchAttempt o).station = s.station := by simp [State.latchAttempt]
@[simp] theorem latchAttempt_configs (s : State) (o : Owner) : (s.latchAttempt o).configs = s.configs := by simp [State.latchAttempt]
@[simp] theorem latchAttempt_contexts (s : State) (o : Owner) : (s.latchAttempt o).contexts = s.contexts := by simp [State.latchAttempt]
@[simp] theorem latchAttempt_slots (s : State) (o : Owner) : (s.latchAttempt o).slots = s.slots := by simp [State.latchAttempt]
@[simp] theorem latchAttempt_ram (s : State) (o : Owner) : (s.latchAttempt o).ram = s.ram := by simp [State.latchAttempt]
@[simp] theorem latchAttempt_line (s : State) (o : Owner) : (s.latchAttempt o).line = s.line := by simp [State.latchAttempt]
@[simp] theorem latchAttempt_presence (s : State) (o : Owner) : (s.latchAttempt o).presence = s.presence := by simp [State.latchAttempt]
@[simp] theorem latchAttempt_beaconTimer (s : State) (o : Owner) : (s.latchAttempt o).beaconTimer = s.beaconTimer := by simp [State.latchAttempt]
@[simp] theorem latchAttempt_mc (s : State) (o : Owner) : (s.latchAttempt o).mc = s.mc := by simp [State.latchAttempt]
@[simp] theorem latchAttempt_wake (s : State) (o : Owner) : (s.latchAttempt o).wake = s.wake := by simp [State.latchAttempt]
@[simp] theorem latchAttempt_notice (s : State) (o : Owner) : (s.latchAttempt o).notice = s.notice := by simp [State.latchAttempt]
@[simp] theorem latchAttempt_port (s : State) (o : Owner) : (s.latchAttempt o).port = s.port := by simp [State.latchAttempt]
@[simp] theorem latchAttempt_resetLow (s : State) (o : Owner) : (s.latchAttempt o).resetLow = s.resetLow := by simp [State.latchAttempt]
@[simp] theorem latchAttempt_clock (s : State) (o : Owner) : (s.latchAttempt o).clock = s.clock := by simp [State.latchAttempt]
@[simp] theorem latchAttempt_pending (s : State) (o : Owner) : (s.latchAttempt o).pending = s.pending := by simp [State.latchAttempt]
@[simp] theorem latchAttempt_cfg (s : State) (o : Owner) (d : ChanId) : (s.latchAttempt o).cfg d = s.cfg d := by simp [State.cfg]
@[simp] theorem latchAttempt_ctx (s : State) (o : Owner) (d : ChanId) : (s.latchAttempt o).ctx d = s.ctx d := by simp [State.ctx]
@[simp] theorem latchAttempt_slot (s : State) (o : Owner) (i' : SlotId) : (s.latchAttempt o).slot i' = s.slot i' := by simp [State.slot]
@[simp] theorem latchAttempt_entry (s : State) (o : Owner) (a' : Station) : (s.latchAttempt o).entry a' = s.entry a' := by simp [State.entry]

theorem beginAttempt_frame (s : State) :
    s.beginAttempt.station = s.station ∧ s.beginAttempt.configs = s.configs ∧ s.beginAttempt.contexts = s.contexts
      ∧ s.beginAttempt.slots = s.slots ∧ s.beginAttempt.ram = s.ram ∧ s.beginAttempt.presence = s.presence
      ∧ s.beginAttempt.beaconTimer = s.beaconTimer ∧ s.beginAttempt.mc = s.mc ∧ s.beginAttempt.wake = s.wake
      ∧ s.beginAttempt.notice = s.notice ∧ s.beginAttempt.port = s.port ∧ s.beginAttempt.resetLow = s.resetLow
      ∧ s.beginAttempt.pending = s.pending := by
  simp only [State.beginAttempt]; split <;> simp
@[simp] theorem beginAttempt_station (s : State) : s.beginAttempt.station = s.station := (beginAttempt_frame s).1
@[simp] theorem beginAttempt_configs (s : State) : s.beginAttempt.configs = s.configs := (beginAttempt_frame s).2.1
@[simp] theorem beginAttempt_contexts (s : State) : s.beginAttempt.contexts = s.contexts := (beginAttempt_frame s).2.2.1
@[simp] theorem beginAttempt_slots (s : State) : s.beginAttempt.slots = s.slots := (beginAttempt_frame s).2.2.2.1
@[simp] theorem beginAttempt_ram (s : State) : s.beginAttempt.ram = s.ram := (beginAttempt_frame s).2.2.2.2.1
@[simp] theorem beginAttempt_presence (s : State) : s.beginAttempt.presence = s.presence := (beginAttempt_frame s).2.2.2.2.2.1
@[simp] theorem beginAttempt_beaconTimer (s : State) : s.beginAttempt.beaconTimer = s.beaconTimer := (beginAttempt_frame s).2.2.2.2.2.2.1
@[simp] theorem beginAttempt_mc (s : State) : s.beginAttempt.mc = s.mc := (beginAttempt_frame s).2.2.2.2.2.2.2.1
@[simp] theorem beginAttempt_wake (s : State) : s.beginAttempt.wake = s.wake := (beginAttempt_frame s).2.2.2.2.2.2.2.2.1
@[simp] theorem beginAttempt_notice (s : State) : s.beginAttempt.notice = s.notice := (beginAttempt_frame s).2.2.2.2.2.2.2.2.2.1
@[simp] theorem beginAttempt_port (s : State) : s.beginAttempt.port = s.port := (beginAttempt_frame s).2.2.2.2.2.2.2.2.2.2.1
@[simp] theorem beginAttempt_resetLow (s : State) : s.beginAttempt.resetLow = s.resetLow := (beginAttempt_frame s).2.2.2.2.2.2.2.2.2.2.2.1
@[simp] theorem beginAttempt_pending (s : State) : s.beginAttempt.pending = s.pending := (beginAttempt_frame s).2.2.2.2.2.2.2.2.2.2.2.2
@[simp] theorem beginAttempt_cfg (s : State) (d : ChanId) : s.beginAttempt.cfg d = s.cfg d := by simp [State.cfg]
@[simp] theorem beginAttempt_ctx (s : State) (d : ChanId) : s.beginAttempt.ctx d = s.ctx d := by simp [State.ctx]
@[simp] theorem beginAttempt_slot (s : State) (i' : SlotId) : s.beginAttempt.slot i' = s.slot i' := by simp [State.slot]
@[simp] theorem beginAttempt_entry (s : State) (a' : Station) : s.beginAttempt.entry a' = s.entry a' := by simp [State.entry]

theorem ownerOutcome_frame (s : State) (a : Attempt) (o : AttemptOutcome) :
    (s.ownerOutcome a o).station = s.station ∧ (s.ownerOutcome a o).configs = s.configs ∧ (s.ownerOutcome a o).ram = s.ram
      ∧ (s.ownerOutcome a o).line = s.line ∧ (s.ownerOutcome a o).beaconTimer = s.beaconTimer ∧ (s.ownerOutcome a o).mc = s.mc
      ∧ (s.ownerOutcome a o).wake = s.wake ∧ (s.ownerOutcome a o).port = s.port ∧ (s.ownerOutcome a o).resetLow = s.resetLow
      ∧ (s.ownerOutcome a o).clock = s.clock ∧ (s.ownerOutcome a o).pending = s.pending := by
  unfold State.ownerOutcome; repeat' split
  all_goals simp
@[simp] theorem ownerOutcome_station (s : State) (a : Attempt) (o : AttemptOutcome) : (s.ownerOutcome a o).station = s.station := (ownerOutcome_frame s a o).1
@[simp] theorem ownerOutcome_configs (s : State) (a : Attempt) (o : AttemptOutcome) : (s.ownerOutcome a o).configs = s.configs := (ownerOutcome_frame s a o).2.1
@[simp] theorem ownerOutcome_ram (s : State) (a : Attempt) (o : AttemptOutcome) : (s.ownerOutcome a o).ram = s.ram := (ownerOutcome_frame s a o).2.2.1
@[simp] theorem ownerOutcome_line (s : State) (a : Attempt) (o : AttemptOutcome) : (s.ownerOutcome a o).line = s.line := (ownerOutcome_frame s a o).2.2.2.1
@[simp] theorem ownerOutcome_beaconTimer (s : State) (a : Attempt) (o : AttemptOutcome) : (s.ownerOutcome a o).beaconTimer = s.beaconTimer := (ownerOutcome_frame s a o).2.2.2.2.1
@[simp] theorem ownerOutcome_mc (s : State) (a : Attempt) (o : AttemptOutcome) : (s.ownerOutcome a o).mc = s.mc := (ownerOutcome_frame s a o).2.2.2.2.2.1
@[simp] theorem ownerOutcome_wake (s : State) (a : Attempt) (o : AttemptOutcome) : (s.ownerOutcome a o).wake = s.wake := (ownerOutcome_frame s a o).2.2.2.2.2.2.1
@[simp] theorem ownerOutcome_port (s : State) (a : Attempt) (o : AttemptOutcome) : (s.ownerOutcome a o).port = s.port := (ownerOutcome_frame s a o).2.2.2.2.2.2.2.1
@[simp] theorem ownerOutcome_resetLow (s : State) (a : Attempt) (o : AttemptOutcome) : (s.ownerOutcome a o).resetLow = s.resetLow := (ownerOutcome_frame s a o).2.2.2.2.2.2.2.2.1
@[simp] theorem ownerOutcome_clock (s : State) (a : Attempt) (o : AttemptOutcome) : (s.ownerOutcome a o).clock = s.clock := (ownerOutcome_frame s a o).2.2.2.2.2.2.2.2.2.1
@[simp] theorem ownerOutcome_pending (s : State) (a : Attempt) (o : AttemptOutcome) : (s.ownerOutcome a o).pending = s.pending := (ownerOutcome_frame s a o).2.2.2.2.2.2.2.2.2.2
@[simp] theorem ownerOutcome_cfg (s : State) (a : Attempt) (o : AttemptOutcome) (d : ChanId) : (s.ownerOutcome a o).cfg d = s.cfg d := by simp [State.cfg]

theorem heardOnLine_frame (s : State) :
    s.heardOnLine.station = s.station ∧ s.heardOnLine.configs = s.configs ∧ s.heardOnLine.contexts = s.contexts
      ∧ s.heardOnLine.slots = s.slots ∧ s.heardOnLine.ram = s.ram ∧ s.heardOnLine.line = s.line
      ∧ s.heardOnLine.arb = s.arb ∧ s.heardOnLine.presence = s.presence ∧ s.heardOnLine.mc = s.mc
      ∧ s.heardOnLine.wake = s.wake ∧ s.heardOnLine.notice = s.notice ∧ s.heardOnLine.port = s.port
      ∧ s.heardOnLine.resetLow = s.resetLow ∧ s.heardOnLine.clock = s.clock ∧ s.heardOnLine.pending = s.pending := by
  unfold State.heardOnLine; split <;> simp
@[simp] theorem heardOnLine_station (s : State) : s.heardOnLine.station = s.station := (heardOnLine_frame s).1
@[simp] theorem heardOnLine_configs (s : State) : s.heardOnLine.configs = s.configs := (heardOnLine_frame s).2.1
@[simp] theorem heardOnLine_contexts (s : State) : s.heardOnLine.contexts = s.contexts := (heardOnLine_frame s).2.2.1
@[simp] theorem heardOnLine_slots (s : State) : s.heardOnLine.slots = s.slots := (heardOnLine_frame s).2.2.2.1
@[simp] theorem heardOnLine_ram (s : State) : s.heardOnLine.ram = s.ram := (heardOnLine_frame s).2.2.2.2.1
@[simp] theorem heardOnLine_line (s : State) : s.heardOnLine.line = s.line := (heardOnLine_frame s).2.2.2.2.2.1
@[simp] theorem heardOnLine_arb (s : State) : s.heardOnLine.arb = s.arb := (heardOnLine_frame s).2.2.2.2.2.2.1
@[simp] theorem heardOnLine_presence (s : State) : s.heardOnLine.presence = s.presence := (heardOnLine_frame s).2.2.2.2.2.2.2.1
@[simp] theorem heardOnLine_mc (s : State) : s.heardOnLine.mc = s.mc := (heardOnLine_frame s).2.2.2.2.2.2.2.2.1
@[simp] theorem heardOnLine_wake (s : State) : s.heardOnLine.wake = s.wake := (heardOnLine_frame s).2.2.2.2.2.2.2.2.2.1
@[simp] theorem heardOnLine_notice (s : State) : s.heardOnLine.notice = s.notice := (heardOnLine_frame s).2.2.2.2.2.2.2.2.2.2.1
@[simp] theorem heardOnLine_port (s : State) : s.heardOnLine.port = s.port := (heardOnLine_frame s).2.2.2.2.2.2.2.2.2.2.2.1
@[simp] theorem heardOnLine_resetLow (s : State) : s.heardOnLine.resetLow = s.resetLow := (heardOnLine_frame s).2.2.2.2.2.2.2.2.2.2.2.2.1
@[simp] theorem heardOnLine_clock (s : State) : s.heardOnLine.clock = s.clock := (heardOnLine_frame s).2.2.2.2.2.2.2.2.2.2.2.2.2.1
@[simp] theorem heardOnLine_pending (s : State) : s.heardOnLine.pending = s.pending := (heardOnLine_frame s).2.2.2.2.2.2.2.2.2.2.2.2.2.2
@[simp] theorem heardOnLine_cfg (s : State) (d : ChanId) : s.heardOnLine.cfg d = s.cfg d := by simp [State.cfg]
@[simp] theorem heardOnLine_ctx (s : State) (d : ChanId) : s.heardOnLine.ctx d = s.ctx d := by simp [State.ctx]
@[simp] theorem heardOnLine_slot (s : State) (i' : SlotId) : s.heardOnLine.slot i' = s.slot i' := by simp [State.slot]
@[simp] theorem heardOnLine_entry (s : State) (a' : Station) : s.heardOnLine.entry a' = s.entry a' := by simp [State.entry]

theorem outcomeReports_frame (s : State) (o : AttemptOutcome) :
    (s.outcomeReports o).station = s.station ∧ (s.outcomeReports o).configs = s.configs ∧ (s.outcomeReports o).ram = s.ram
      ∧ (s.outcomeReports o).port = s.port ∧ (s.outcomeReports o).resetLow = s.resetLow ∧ (s.outcomeReports o).clock = s.clock
      ∧ (s.outcomeReports o).pending = s.pending := by
  unfold State.outcomeReports; split <;> simp
@[simp] theorem outcomeReports_station (s : State) (o : AttemptOutcome) : (s.outcomeReports o).station = s.station := (outcomeReports_frame s o).1
@[simp] theorem outcomeReports_configs (s : State) (o : AttemptOutcome) : (s.outcomeReports o).configs = s.configs := (outcomeReports_frame s o).2.1
@[simp] theorem outcomeReports_ram (s : State) (o : AttemptOutcome) : (s.outcomeReports o).ram = s.ram := (outcomeReports_frame s o).2.2.1
@[simp] theorem outcomeReports_port (s : State) (o : AttemptOutcome) : (s.outcomeReports o).port = s.port := (outcomeReports_frame s o).2.2.2.1
@[simp] theorem outcomeReports_resetLow (s : State) (o : AttemptOutcome) : (s.outcomeReports o).resetLow = s.resetLow := (outcomeReports_frame s o).2.2.2.2.1
@[simp] theorem outcomeReports_clock (s : State) (o : AttemptOutcome) : (s.outcomeReports o).clock = s.clock := (outcomeReports_frame s o).2.2.2.2.2.1
@[simp] theorem outcomeReports_pending (s : State) (o : AttemptOutcome) : (s.outcomeReports o).pending = s.pending := (outcomeReports_frame s o).2.2.2.2.2.2
@[simp] theorem outcomeReports_cfg (s : State) (o : AttemptOutcome) (d : ChanId) : (s.outcomeReports o).cfg d = s.cfg d := by simp [State.cfg]

theorem handOver_frame (s : State) (o : AttemptOutcome) :
    (s.handOver o).station = s.station ∧ (s.handOver o).configs = s.configs ∧ (s.handOver o).ram = s.ram
      ∧ (s.handOver o).port = s.port ∧ (s.handOver o).resetLow = s.resetLow ∧ (s.handOver o).clock = s.clock
      ∧ (s.handOver o).pending = s.pending := by
  unfold State.handOver; split <;> simp
@[simp] theorem handOver_station (s : State) (o : AttemptOutcome) : (s.handOver o).station = s.station := (handOver_frame s o).1
@[simp] theorem handOver_configs (s : State) (o : AttemptOutcome) : (s.handOver o).configs = s.configs := (handOver_frame s o).2.1
@[simp] theorem handOver_ram (s : State) (o : AttemptOutcome) : (s.handOver o).ram = s.ram := (handOver_frame s o).2.2.1
@[simp] theorem handOver_port (s : State) (o : AttemptOutcome) : (s.handOver o).port = s.port := (handOver_frame s o).2.2.2.1
@[simp] theorem handOver_resetLow (s : State) (o : AttemptOutcome) : (s.handOver o).resetLow = s.resetLow := (handOver_frame s o).2.2.2.2.1
@[simp] theorem handOver_clock (s : State) (o : AttemptOutcome) : (s.handOver o).clock = s.clock := (handOver_frame s o).2.2.2.2.2.1
@[simp] theorem handOver_pending (s : State) (o : AttemptOutcome) : (s.handOver o).pending = s.pending := (handOver_frame s o).2.2.2.2.2.2
@[simp] theorem handOver_cfg (s : State) (o : AttemptOutcome) (d : ChanId) : (s.handOver o).cfg d = s.cfg d := by simp [State.cfg]

theorem finishQuiet_frame (s : State) :
    s.finishQuiet.station = s.station ∧ s.finishQuiet.configs = s.configs ∧ s.finishQuiet.ram = s.ram
      ∧ s.finishQuiet.port = s.port ∧ s.finishQuiet.resetLow = s.resetLow ∧ s.finishQuiet.clock = s.clock
      ∧ s.finishQuiet.pending = s.pending := by
  unfold State.finishQuiet; split <;> simp
@[simp] theorem finishQuiet_station (s : State) : s.finishQuiet.station = s.station := (finishQuiet_frame s).1
@[simp] theorem finishQuiet_configs (s : State) : s.finishQuiet.configs = s.configs := (finishQuiet_frame s).2.1
@[simp] theorem finishQuiet_ram (s : State) : s.finishQuiet.ram = s.ram := (finishQuiet_frame s).2.2.1
@[simp] theorem finishQuiet_port (s : State) : s.finishQuiet.port = s.port := (finishQuiet_frame s).2.2.2.1
@[simp] theorem finishQuiet_resetLow (s : State) : s.finishQuiet.resetLow = s.resetLow := (finishQuiet_frame s).2.2.2.2.1
@[simp] theorem finishQuiet_clock (s : State) : s.finishQuiet.clock = s.clock := (finishQuiet_frame s).2.2.2.2.2.1
@[simp] theorem finishQuiet_pending (s : State) : s.finishQuiet.pending = s.pending := (finishQuiet_frame s).2.2.2.2.2.2
@[simp] theorem finishQuiet_cfg (s : State) (d : ChanId) : s.finishQuiet.cfg d = s.cfg d := by simp [State.cfg]

theorem endAttempt_frame (s : State) (o : AttemptOutcome) :
    (s.endAttempt o).station = s.station ∧ (s.endAttempt o).configs = s.configs ∧ (s.endAttempt o).ram = s.ram
      ∧ (s.endAttempt o).port = s.port ∧ (s.endAttempt o).resetLow = s.resetLow ∧ (s.endAttempt o).clock = s.clock
      ∧ (s.endAttempt o).pending = s.pending := by
  simp only [State.endAttempt]; split <;> simp
@[simp] theorem endAttempt_station (s : State) (o : AttemptOutcome) : (s.endAttempt o).station = s.station := (endAttempt_frame s o).1
@[simp] theorem endAttempt_configs (s : State) (o : AttemptOutcome) : (s.endAttempt o).configs = s.configs := (endAttempt_frame s o).2.1
@[simp] theorem endAttempt_ram (s : State) (o : AttemptOutcome) : (s.endAttempt o).ram = s.ram := (endAttempt_frame s o).2.2.1
@[simp] theorem endAttempt_port (s : State) (o : AttemptOutcome) : (s.endAttempt o).port = s.port := (endAttempt_frame s o).2.2.2.1
@[simp] theorem endAttempt_resetLow (s : State) (o : AttemptOutcome) : (s.endAttempt o).resetLow = s.resetLow := (endAttempt_frame s o).2.2.2.2.1
@[simp] theorem endAttempt_clock (s : State) (o : AttemptOutcome) : (s.endAttempt o).clock = s.clock := (endAttempt_frame s o).2.2.2.2.2.1
@[simp] theorem endAttempt_pending (s : State) (o : AttemptOutcome) : (s.endAttempt o).pending = s.pending := (endAttempt_frame s o).2.2.2.2.2.2
@[simp] theorem endAttempt_cfg (s : State) (o : AttemptOutcome) (d : ChanId) : (s.endAttempt o).cfg d = s.cfg d := by simp [State.cfg]

end Sys2Proof.Machine.State
end

