-- ==== Sys2Proof/Laws/Parts.lean ====
section
/-! SUPPORT. Operations that change offers and the wake request only leave the latch, the pointers and the other offers; no operation but a host write changes an enable. -/

namespace Sys2Proof.Machine.State

@[simp] theorem mark_stationEnables (n : NoticeUnit) (a b : Table 31 Entry) :
    (n.mark a b).stationEnables = n.stationEnables := rfl
@[simp] theorem mark_channelEnables (n : NoticeUnit) (a b : Table 31 Entry) :
    (n.mark a b).channelEnables = n.channelEnables := rfl
@[simp] theorem mark_master (n : NoticeUnit) (a b : Table 31 Entry) : (n.mark a b).master = n.master := rfl
@[simp] theorem mark_channels (n : NoticeUnit) (a b : Table 31 Entry) : (n.mark a b).channels = n.channels := rfl

theorem lookWhere_arb (s : State) (p : ChanId → Bool) :
    (s.lookWhere p).arb.latch = s.arb.latch
      ∧ (s.lookWhere p).arb.pointers = s.arb.pointers
      ∧ (s.lookWhere p).arb.beaconOffer = s.arb.beaconOffer
      ∧ (s.lookWhere p).arb.announceOffer = s.arb.announceOffer := by
  refine ⟨?_, ?_, ?_, ?_⟩
  · unfold State.lookWhere; exact foldl_keep (π := fun u => u.arb.latch) (fun t c => by split <;> simp) _ _
  · unfold State.lookWhere; exact foldl_keep (π := fun u => u.arb.pointers) (fun t c => by split <;> simp) _ _
  · unfold State.lookWhere; exact foldl_keep (π := fun u => u.arb.beaconOffer) (fun t c => by split <;> simp) _ _
  · unfold State.lookWhere; exact foldl_keep (π := fun u => u.arb.announceOffer) (fun t c => by split <;> simp) _ _
@[simp] theorem lookWhere_latch (s : State) (p : ChanId → Bool) : (s.lookWhere p).arb.latch = s.arb.latch := (lookWhere_arb s p).1
@[simp] theorem lookWhere_pointers (s : State) (p : ChanId → Bool) : (s.lookWhere p).arb.pointers = s.arb.pointers := (lookWhere_arb s p).2.1
@[simp] theorem lookWhere_beaconOffer (s : State) (p : ChanId → Bool) : (s.lookWhere p).arb.beaconOffer = s.arb.beaconOffer := (lookWhere_arb s p).2.2.1
@[simp] theorem lookWhere_announceOffer (s : State) (p : ChanId → Bool) : (s.lookWhere p).arb.announceOffer = s.arb.announceOffer := (lookWhere_arb s p).2.2.2

theorem replaceEntries_arb (s : State) (new : Table 31 Entry) :
    (s.replaceEntries new).arb.latch = s.arb.latch
      ∧ (s.replaceEntries new).arb.pointers = s.arb.pointers
      ∧ (s.replaceEntries new).arb.beaconOffer = s.arb.beaconOffer
      ∧ (s.replaceEntries new).arb.announceOffer = s.arb.announceOffer := by
  simp [State.replaceEntries]
@[simp] theorem replaceEntries_latch (s : State) (new : Table 31 Entry) : (s.replaceEntries new).arb.latch = s.arb.latch := (replaceEntries_arb s new).1
@[simp] theorem replaceEntries_pointers (s : State) (new : Table 31 Entry) : (s.replaceEntries new).arb.pointers = s.arb.pointers := (replaceEntries_arb s new).2.1
@[simp] theorem replaceEntries_beaconOffer (s : State) (new : Table 31 Entry) : (s.replaceEntries new).arb.beaconOffer = s.arb.beaconOffer := (replaceEntries_arb s new).2.2.1
@[simp] theorem replaceEntries_announceOffer (s : State) (new : Table 31 Entry) : (s.replaceEntries new).arb.announceOffer = s.arb.announceOffer := (replaceEntries_arb s new).2.2.2

theorem updateEntries_arb (s : State) (f : Station → Entry → Entry) :
    (s.updateEntries f).arb.latch = s.arb.latch
      ∧ (s.updateEntries f).arb.pointers = s.arb.pointers
      ∧ (s.updateEntries f).arb.beaconOffer = s.arb.beaconOffer
      ∧ (s.updateEntries f).arb.announceOffer = s.arb.announceOffer := by
  simp [State.updateEntries]
@[simp] theorem updateEntries_latch (s : State) (f : Station → Entry → Entry) : (s.updateEntries f).arb.latch = s.arb.latch := (updateEntries_arb s f).1
@[simp] theorem updateEntries_pointers (s : State) (f : Station → Entry → Entry) : (s.updateEntries f).arb.pointers = s.arb.pointers := (updateEntries_arb s f).2.1
@[simp] theorem updateEntries_beaconOffer (s : State) (f : Station → Entry → Entry) : (s.updateEntries f).arb.beaconOffer = s.arb.beaconOffer := (updateEntries_arb s f).2.2.1
@[simp] theorem updateEntries_announceOffer (s : State) (f : Station → Entry → Entry) : (s.updateEntries f).arb.announceOffer = s.arb.announceOffer := (updateEntries_arb s f).2.2.2

theorem updateEntry_arb (s : State) (a : Station) (f : Entry → Entry) :
    (s.updateEntry a f).arb.latch = s.arb.latch
      ∧ (s.updateEntry a f).arb.pointers = s.arb.pointers
      ∧ (s.updateEntry a f).arb.beaconOffer = s.arb.beaconOffer
      ∧ (s.updateEntry a f).arb.announceOffer = s.arb.announceOffer := by
  simp [State.updateEntry]
@[simp] theorem updateEntry_latch (s : State) (a : Station) (f : Entry → Entry) : (s.updateEntry a f).arb.latch = s.arb.latch := (updateEntry_arb s a f).1
@[simp] theorem updateEntry_pointers (s : State) (a : Station) (f : Entry → Entry) : (s.updateEntry a f).arb.pointers = s.arb.pointers := (updateEntry_arb s a f).2.1
@[simp] theorem updateEntry_beaconOffer (s : State) (a : Station) (f : Entry → Entry) : (s.updateEntry a f).arb.beaconOffer = s.arb.beaconOffer := (updateEntry_arb s a f).2.2.1
@[simp] theorem updateEntry_announceOffer (s : State) (a : Station) (f : Entry → Entry) : (s.updateEntry a f).arb.announceOffer = s.arb.announceOffer := (updateEntry_arb s a f).2.2.2

theorem stationHeard_arb (s : State) (a : Station) :
    (s.stationHeard a).arb.latch = s.arb.latch
      ∧ (s.stationHeard a).arb.pointers = s.arb.pointers
      ∧ (s.stationHeard a).arb.beaconOffer = s.arb.beaconOffer
      ∧ (s.stationHeard a).arb.announceOffer = s.arb.announceOffer := by
  simp [State.stationHeard]
@[simp] theorem stationHeard_latch (s : State) (a : Station) : (s.stationHeard a).arb.latch = s.arb.latch := (stationHeard_arb s a).1
@[simp] theorem stationHeard_pointers (s : State) (a : Station) : (s.stationHeard a).arb.pointers = s.arb.pointers := (stationHeard_arb s a).2.1
@[simp] theorem stationHeard_beaconOffer (s : State) (a : Station) : (s.stationHeard a).arb.beaconOffer = s.arb.beaconOffer := (stationHeard_arb s a).2.2.1
@[simp] theorem stationHeard_announceOffer (s : State) (a : Station) : (s.stationHeard a).arb.announceOffer = s.arb.announceOffer := (stationHeard_arb s a).2.2.2

theorem beaconHeard_arb (s : State) (a : Station) (p : List Byte) :
    (s.beaconHeard a p).arb.latch = s.arb.latch
      ∧ (s.beaconHeard a p).arb.pointers = s.arb.pointers
      ∧ (s.beaconHeard a p).arb.beaconOffer = s.arb.beaconOffer
      ∧ (s.beaconHeard a p).arb.announceOffer = s.arb.announceOffer := by
  simp [State.beaconHeard]
@[simp] theorem beaconHeard_latch (s : State) (a : Station) (p : List Byte) : (s.beaconHeard a p).arb.latch = s.arb.latch := (beaconHeard_arb s a p).1
@[simp] theorem beaconHeard_pointers (s : State) (a : Station) (p : List Byte) : (s.beaconHeard a p).arb.pointers = s.arb.pointers := (beaconHeard_arb s a p).2.1
@[simp] theorem beaconHeard_beaconOffer (s : State) (a : Station) (p : List Byte) : (s.beaconHeard a p).arb.beaconOffer = s.arb.beaconOffer := (beaconHeard_arb s a p).2.2.1
@[simp] theorem beaconHeard_announceOffer (s : State) (a : Station) (p : List Byte) : (s.beaconHeard a p).arb.announceOffer = s.arb.announceOffer := (beaconHeard_arb s a p).2.2.2

theorem announceHeard_arb (s : State) (a : Station) :
    (s.announceHeard a).arb.latch = s.arb.latch
      ∧ (s.announceHeard a).arb.pointers = s.arb.pointers
      ∧ (s.announceHeard a).arb.beaconOffer = s.arb.beaconOffer
      ∧ (s.announceHeard a).arb.announceOffer = s.arb.announceOffer := by
  simp [State.announceHeard]
@[simp] theorem announceHeard_latch (s : State) (a : Station) : (s.announceHeard a).arb.latch = s.arb.latch := (announceHeard_arb s a).1
@[simp] theorem announceHeard_pointers (s : State) (a : Station) : (s.announceHeard a).arb.pointers = s.arb.pointers := (announceHeard_arb s a).2.1
@[simp] theorem announceHeard_beaconOffer (s : State) (a : Station) : (s.announceHeard a).arb.beaconOffer = s.arb.beaconOffer := (announceHeard_arb s a).2.2.1
@[simp] theorem announceHeard_announceOffer (s : State) (a : Station) : (s.announceHeard a).arb.announceOffer = s.arb.announceOffer := (announceHeard_arb s a).2.2.2

theorem lookWaking_arb (s : State) :
    s.lookWaking.arb.latch = s.arb.latch
      ∧ s.lookWaking.arb.pointers = s.arb.pointers
      ∧ s.lookWaking.arb.beaconOffer = s.arb.beaconOffer
      ∧ s.lookWaking.arb.announceOffer = s.arb.announceOffer := by
  simp [State.lookWaking]
@[simp] theorem lookWaking_latch (s : State) : s.lookWaking.arb.latch = s.arb.latch := (lookWaking_arb s).1
@[simp] theorem lookWaking_pointers (s : State) : s.lookWaking.arb.pointers = s.arb.pointers := (lookWaking_arb s).2.1
@[simp] theorem lookWaking_beaconOffer (s : State) : s.lookWaking.arb.beaconOffer = s.arb.beaconOffer := (lookWaking_arb s).2.2.1
@[simp] theorem lookWaking_announceOffer (s : State) : s.lookWaking.arb.announceOffer = s.arb.announceOffer := (lookWaking_arb s).2.2.2

theorem presencePulse_arb (s : State) :
    s.presencePulse.arb.latch = s.arb.latch
      ∧ s.presencePulse.arb.pointers = s.arb.pointers
      ∧ s.presencePulse.arb.beaconOffer = s.arb.beaconOffer
      ∧ s.presencePulse.arb.announceOffer = s.arb.announceOffer := by
  simp [State.presencePulse]
@[simp] theorem presencePulse_latch (s : State) : s.presencePulse.arb.latch = s.arb.latch := (presencePulse_arb s).1
@[simp] theorem presencePulse_pointers (s : State) : s.presencePulse.arb.pointers = s.arb.pointers := (presencePulse_arb s).2.1
@[simp] theorem presencePulse_beaconOffer (s : State) : s.presencePulse.arb.beaconOffer = s.arb.beaconOffer := (presencePulse_arb s).2.2.1
@[simp] theorem presencePulse_announceOffer (s : State) : s.presencePulse.arb.announceOffer = s.arb.announceOffer := (presencePulse_arb s).2.2.2

theorem presenceExhausted_arb (s : State) (p : BitVec 5) :
    (s.presenceExhausted p).arb.latch = s.arb.latch
      ∧ (s.presenceExhausted p).arb.pointers = s.arb.pointers
      ∧ (s.presenceExhausted p).arb.beaconOffer = s.arb.beaconOffer
      ∧ (s.presenceExhausted p).arb.announceOffer = s.arb.announceOffer := by
  unfold State.presenceExhausted; split <;> simp
@[simp] theorem presenceExhausted_latch (s : State) (p : BitVec 5) : (s.presenceExhausted p).arb.latch = s.arb.latch := (presenceExhausted_arb s p).1
@[simp] theorem presenceExhausted_pointers (s : State) (p : BitVec 5) : (s.presenceExhausted p).arb.pointers = s.arb.pointers := (presenceExhausted_arb s p).2.1
@[simp] theorem presenceExhausted_beaconOffer (s : State) (p : BitVec 5) : (s.presenceExhausted p).arb.beaconOffer = s.arb.beaconOffer := (presenceExhausted_arb s p).2.2.1
@[simp] theorem presenceExhausted_announceOffer (s : State) (p : BitVec 5) : (s.presenceExhausted p).arb.announceOffer = s.arb.announceOffer := (presenceExhausted_arb s p).2.2.2

theorem presenceClear_arb (s : State) :
    s.presenceClear.arb.latch = s.arb.latch
      ∧ s.presenceClear.arb.pointers = s.arb.pointers
      ∧ s.presenceClear.arb.beaconOffer = s.arb.beaconOffer
      ∧ s.presenceClear.arb.announceOffer = s.arb.announceOffer := by
  simp [State.presenceClear]
@[simp] theorem presenceClear_latch (s : State) : s.presenceClear.arb.latch = s.arb.latch := (presenceClear_arb s).1
@[simp] theorem presenceClear_pointers (s : State) : s.presenceClear.arb.pointers = s.arb.pointers := (presenceClear_arb s).2.1
@[simp] theorem presenceClear_beaconOffer (s : State) : s.presenceClear.arb.beaconOffer = s.arb.beaconOffer := (presenceClear_arb s).2.2.1
@[simp] theorem presenceClear_announceOffer (s : State) : s.presenceClear.arb.announceOffer = s.arb.announceOffer := (presenceClear_arb s).2.2.2

theorem fetchBadRange_arb (s : State) (c : ChanId) :
    (s.fetchBadRange c).arb.latch = s.arb.latch
      ∧ (s.fetchBadRange c).arb.pointers = s.arb.pointers
      ∧ (s.fetchBadRange c).arb.beaconOffer = s.arb.beaconOffer
      ∧ (s.fetchBadRange c).arb.announceOffer = s.arb.announceOffer := by
  simp [State.fetchBadRange]
@[simp] theorem fetchBadRange_latch (s : State) (c : ChanId) : (s.fetchBadRange c).arb.latch = s.arb.latch := (fetchBadRange_arb s c).1
@[simp] theorem fetchBadRange_pointers (s : State) (c : ChanId) : (s.fetchBadRange c).arb.pointers = s.arb.pointers := (fetchBadRange_arb s c).2.1
@[simp] theorem fetchBadRange_beaconOffer (s : State) (c : ChanId) : (s.fetchBadRange c).arb.beaconOffer = s.arb.beaconOffer := (fetchBadRange_arb s c).2.2.1
@[simp] theorem fetchBadRange_announceOffer (s : State) (c : ChanId) : (s.fetchBadRange c).arb.announceOffer = s.arb.announceOffer := (fetchBadRange_arb s c).2.2.2

theorem fetchTooLong_arb (s : State) (c : ChanId) :
    (s.fetchTooLong c).arb.latch = s.arb.latch
      ∧ (s.fetchTooLong c).arb.pointers = s.arb.pointers
      ∧ (s.fetchTooLong c).arb.beaconOffer = s.arb.beaconOffer
      ∧ (s.fetchTooLong c).arb.announceOffer = s.arb.announceOffer := by
  simp [State.fetchTooLong]
@[simp] theorem fetchTooLong_latch (s : State) (c : ChanId) : (s.fetchTooLong c).arb.latch = s.arb.latch := (fetchTooLong_arb s c).1
@[simp] theorem fetchTooLong_pointers (s : State) (c : ChanId) : (s.fetchTooLong c).arb.pointers = s.arb.pointers := (fetchTooLong_arb s c).2.1
@[simp] theorem fetchTooLong_beaconOffer (s : State) (c : ChanId) : (s.fetchTooLong c).arb.beaconOffer = s.arb.beaconOffer := (fetchTooLong_arb s c).2.2.1
@[simp] theorem fetchTooLong_announceOffer (s : State) (c : ChanId) : (s.fetchTooLong c).arb.announceOffer = s.arb.announceOffer := (fetchTooLong_arb s c).2.2.2

theorem fetchLoop_arb (s : State) (c : ChanId) (n : Nat) :
    (s.fetchLoop c n).arb.latch = s.arb.latch
      ∧ (s.fetchLoop c n).arb.pointers = s.arb.pointers
      ∧ (s.fetchLoop c n).arb.beaconOffer = s.arb.beaconOffer
      ∧ (s.fetchLoop c n).arb.announceOffer = s.arb.announceOffer := by
  induction n generalizing s with
  | zero => simp [State.fetchLoop]
  | succ n ih => simp only [State.fetchLoop]; repeat' split
                 all_goals simp [ih]
@[simp] theorem fetchLoop_latch (s : State) (c : ChanId) (n : Nat) : (s.fetchLoop c n).arb.latch = s.arb.latch := (fetchLoop_arb s c n).1
@[simp] theorem fetchLoop_pointers (s : State) (c : ChanId) (n : Nat) : (s.fetchLoop c n).arb.pointers = s.arb.pointers := (fetchLoop_arb s c n).2.1
@[simp] theorem fetchLoop_beaconOffer (s : State) (c : ChanId) (n : Nat) : (s.fetchLoop c n).arb.beaconOffer = s.arb.beaconOffer := (fetchLoop_arb s c n).2.2.1
@[simp] theorem fetchLoop_announceOffer (s : State) (c : ChanId) (n : Nat) : (s.fetchLoop c n).arb.announceOffer = s.arb.announceOffer := (fetchLoop_arb s c n).2.2.2

theorem fetch_arb (s : State) (c : ChanId) :
    (s.fetch c).arb.latch = s.arb.latch
      ∧ (s.fetch c).arb.pointers = s.arb.pointers
      ∧ (s.fetch c).arb.beaconOffer = s.arb.beaconOffer
      ∧ (s.fetch c).arb.announceOffer = s.arb.announceOffer := by
  unfold State.fetch; split <;> simp
@[simp] theorem fetch_latch (s : State) (c : ChanId) : (s.fetch c).arb.latch = s.arb.latch := (fetch_arb s c).1
@[simp] theorem fetch_pointers (s : State) (c : ChanId) : (s.fetch c).arb.pointers = s.arb.pointers := (fetch_arb s c).2.1
@[simp] theorem fetch_beaconOffer (s : State) (c : ChanId) : (s.fetch c).arb.beaconOffer = s.arb.beaconOffer := (fetch_arb s c).2.2.1
@[simp] theorem fetch_announceOffer (s : State) (c : ChanId) : (s.fetch c).arb.announceOffer = s.arb.announceOffer := (fetch_arb s c).2.2.2

theorem completeMessage_arb (s : State) (c : ChanId) :
    (s.completeMessage c).arb.latch = s.arb.latch
      ∧ (s.completeMessage c).arb.pointers = s.arb.pointers
      ∧ (s.completeMessage c).arb.beaconOffer = s.arb.beaconOffer
      ∧ (s.completeMessage c).arb.announceOffer = s.arb.announceOffer := by
  simp only [State.completeMessage]; split <;> simp
@[simp] theorem completeMessage_latch (s : State) (c : ChanId) : (s.completeMessage c).arb.latch = s.arb.latch := (completeMessage_arb s c).1
@[simp] theorem completeMessage_pointers (s : State) (c : ChanId) : (s.completeMessage c).arb.pointers = s.arb.pointers := (completeMessage_arb s c).2.1
@[simp] theorem completeMessage_beaconOffer (s : State) (c : ChanId) : (s.completeMessage c).arb.beaconOffer = s.arb.beaconOffer := (completeMessage_arb s c).2.2.1
@[simp] theorem completeMessage_announceOffer (s : State) (c : ChanId) : (s.completeMessage c).arb.announceOffer = s.arb.announceOffer := (completeMessage_arb s c).2.2.2

theorem searchLoop_arb (s : State) (c : ChanId) (n : Nat) :
    (s.searchLoop c n).1.arb.latch = s.arb.latch
      ∧ (s.searchLoop c n).1.arb.pointers = s.arb.pointers
      ∧ (s.searchLoop c n).1.arb.beaconOffer = s.arb.beaconOffer
      ∧ (s.searchLoop c n).1.arb.announceOffer = s.arb.announceOffer := by
  induction n generalizing s with
  | zero => simp [State.searchLoop]
  | succ n ih => simp only [State.searchLoop]; repeat' split
                 all_goals simp [ih]
@[simp] theorem searchLoop_latch (s : State) (c : ChanId) (n : Nat) : (s.searchLoop c n).1.arb.latch = s.arb.latch := (searchLoop_arb s c n).1
@[simp] theorem searchLoop_pointers (s : State) (c : ChanId) (n : Nat) : (s.searchLoop c n).1.arb.pointers = s.arb.pointers := (searchLoop_arb s c n).2.1
@[simp] theorem searchLoop_beaconOffer (s : State) (c : ChanId) (n : Nat) : (s.searchLoop c n).1.arb.beaconOffer = s.arb.beaconOffer := (searchLoop_arb s c n).2.2.1
@[simp] theorem searchLoop_announceOffer (s : State) (c : ChanId) (n : Nat) : (s.searchLoop c n).1.arb.announceOffer = s.arb.announceOffer := (searchLoop_arb s c n).2.2.2

theorem search_arb (s : State) (c : ChanId) :
    (s.search c).1.arb.latch = s.arb.latch
      ∧ (s.search c).1.arb.pointers = s.arb.pointers
      ∧ (s.search c).1.arb.beaconOffer = s.arb.beaconOffer
      ∧ (s.search c).1.arb.announceOffer = s.arb.announceOffer := by
  simp [State.search]
@[simp] theorem search_latch (s : State) (c : ChanId) : (s.search c).1.arb.latch = s.arb.latch := (search_arb s c).1
@[simp] theorem search_pointers (s : State) (c : ChanId) : (s.search c).1.arb.pointers = s.arb.pointers := (search_arb s c).2.1
@[simp] theorem search_beaconOffer (s : State) (c : ChanId) : (s.search c).1.arb.beaconOffer = s.arb.beaconOffer := (search_arb s c).2.2.1
@[simp] theorem search_announceOffer (s : State) (c : ChanId) : (s.search c).1.arb.announceOffer = s.arb.announceOffer := (search_arb s c).2.2.2

theorem openAcked_arb (s : State) (c : ChanId) :
    (s.openAcked c).arb.latch = s.arb.latch
      ∧ (s.openAcked c).arb.pointers = s.arb.pointers
      ∧ (s.openAcked c).arb.beaconOffer = s.arb.beaconOffer
      ∧ (s.openAcked c).arb.announceOffer = s.arb.announceOffer := by
  simp [State.openAcked]
@[simp] theorem openAcked_latch (s : State) (c : ChanId) : (s.openAcked c).arb.latch = s.arb.latch := (openAcked_arb s c).1
@[simp] theorem openAcked_pointers (s : State) (c : ChanId) : (s.openAcked c).arb.pointers = s.arb.pointers := (openAcked_arb s c).2.1
@[simp] theorem openAcked_beaconOffer (s : State) (c : ChanId) : (s.openAcked c).arb.beaconOffer = s.arb.beaconOffer := (openAcked_arb s c).2.2.1
@[simp] theorem openAcked_announceOffer (s : State) (c : ChanId) : (s.openAcked c).arb.announceOffer = s.arb.announceOffer := (openAcked_arb s c).2.2.2

theorem dataAcked_arb (s : State) (c : ChanId) (img : Frame) :
    (s.dataAcked c img).arb.latch = s.arb.latch
      ∧ (s.dataAcked c img).arb.pointers = s.arb.pointers
      ∧ (s.dataAcked c img).arb.beaconOffer = s.arb.beaconOffer
      ∧ (s.dataAcked c img).arb.announceOffer = s.arb.announceOffer := by
  simp only [State.dataAcked]; split <;> simp
@[simp] theorem dataAcked_latch (s : State) (c : ChanId) (img : Frame) : (s.dataAcked c img).arb.latch = s.arb.latch := (dataAcked_arb s c img).1
@[simp] theorem dataAcked_pointers (s : State) (c : ChanId) (img : Frame) : (s.dataAcked c img).arb.pointers = s.arb.pointers := (dataAcked_arb s c img).2.1
@[simp] theorem dataAcked_beaconOffer (s : State) (c : ChanId) (img : Frame) : (s.dataAcked c img).arb.beaconOffer = s.arb.beaconOffer := (dataAcked_arb s c img).2.2.1
@[simp] theorem dataAcked_announceOffer (s : State) (c : ChanId) (img : Frame) : (s.dataAcked c img).arb.announceOffer = s.arb.announceOffer := (dataAcked_arb s c img).2.2.2

theorem nakAnswered_arb (s : State) (c : ChanId) :
    (s.nakAnswered c).arb.latch = s.arb.latch
      ∧ (s.nakAnswered c).arb.pointers = s.arb.pointers
      ∧ (s.nakAnswered c).arb.beaconOffer = s.arb.beaconOffer
      ∧ (s.nakAnswered c).arb.announceOffer = s.arb.announceOffer := by
  simp only [State.nakAnswered]; repeat' split
  all_goals simp
@[simp] theorem nakAnswered_latch (s : State) (c : ChanId) : (s.nakAnswered c).arb.latch = s.arb.latch := (nakAnswered_arb s c).1
@[simp] theorem nakAnswered_pointers (s : State) (c : ChanId) : (s.nakAnswered c).arb.pointers = s.arb.pointers := (nakAnswered_arb s c).2.1
@[simp] theorem nakAnswered_beaconOffer (s : State) (c : ChanId) : (s.nakAnswered c).arb.beaconOffer = s.arb.beaconOffer := (nakAnswered_arb s c).2.2.1
@[simp] theorem nakAnswered_announceOffer (s : State) (c : ChanId) : (s.nakAnswered c).arb.announceOffer = s.arb.announceOffer := (nakAnswered_arb s c).2.2.2

theorem exhaust_arb (s : State) (c : ChanId) :
    (s.exhaust c).arb.latch = s.arb.latch
      ∧ (s.exhaust c).arb.pointers = s.arb.pointers
      ∧ (s.exhaust c).arb.beaconOffer = s.arb.beaconOffer
      ∧ (s.exhaust c).arb.announceOffer = s.arb.announceOffer := by
  simp [State.exhaust]
@[simp] theorem exhaust_latch (s : State) (c : ChanId) : (s.exhaust c).arb.latch = s.arb.latch := (exhaust_arb s c).1
@[simp] theorem exhaust_pointers (s : State) (c : ChanId) : (s.exhaust c).arb.pointers = s.arb.pointers := (exhaust_arb s c).2.1
@[simp] theorem exhaust_beaconOffer (s : State) (c : ChanId) : (s.exhaust c).arb.beaconOffer = s.arb.beaconOffer := (exhaust_arb s c).2.2.1
@[simp] theorem exhaust_announceOffer (s : State) (c : ChanId) : (s.exhaust c).arb.announceOffer = s.arb.announceOffer := (exhaust_arb s c).2.2.2

theorem countRetry_arb (s : State) (c : ChanId) :
    (s.countRetry c).arb.latch = s.arb.latch
      ∧ (s.countRetry c).arb.pointers = s.arb.pointers
      ∧ (s.countRetry c).arb.beaconOffer = s.arb.beaconOffer
      ∧ (s.countRetry c).arb.announceOffer = s.arb.announceOffer := by
  unfold State.countRetry; split <;> simp
@[simp] theorem countRetry_latch (s : State) (c : ChanId) : (s.countRetry c).arb.latch = s.arb.latch := (countRetry_arb s c).1
@[simp] theorem countRetry_pointers (s : State) (c : ChanId) : (s.countRetry c).arb.pointers = s.arb.pointers := (countRetry_arb s c).2.1
@[simp] theorem countRetry_beaconOffer (s : State) (c : ChanId) : (s.countRetry c).arb.beaconOffer = s.arb.beaconOffer := (countRetry_arb s c).2.2.1
@[simp] theorem countRetry_announceOffer (s : State) (c : ChanId) : (s.countRetry c).arb.announceOffer = s.arb.announceOffer := (countRetry_arb s c).2.2.2

theorem sendOutcome_arb (s : State) (c : ChanId) (img : Frame) (o : AttemptOutcome) :
    (s.sendOutcome c img o).arb.latch = s.arb.latch
      ∧ (s.sendOutcome c img o).arb.pointers = s.arb.pointers
      ∧ (s.sendOutcome c img o).arb.beaconOffer = s.arb.beaconOffer
      ∧ (s.sendOutcome c img o).arb.announceOffer = s.arb.announceOffer := by
  unfold State.sendOutcome; repeat' split
  all_goals simp
@[simp] theorem sendOutcome_latch (s : State) (c : ChanId) (img : Frame) (o : AttemptOutcome) : (s.sendOutcome c img o).arb.latch = s.arb.latch := (sendOutcome_arb s c img o).1
@[simp] theorem sendOutcome_pointers (s : State) (c : ChanId) (img : Frame) (o : AttemptOutcome) : (s.sendOutcome c img o).arb.pointers = s.arb.pointers := (sendOutcome_arb s c img o).2.1
@[simp] theorem sendOutcome_beaconOffer (s : State) (c : ChanId) (img : Frame) (o : AttemptOutcome) : (s.sendOutcome c img o).arb.beaconOffer = s.arb.beaconOffer := (sendOutcome_arb s c img o).2.2.1
@[simp] theorem sendOutcome_announceOffer (s : State) (c : ChanId) (img : Frame) (o : AttemptOutcome) : (s.sendOutcome c img o).arb.announceOffer = s.arb.announceOffer := (sendOutcome_arb s c img o).2.2.2

theorem publishOutcome_arb (s : State) (c : ChanId) (o : AttemptOutcome) :
    (s.publishOutcome c o).arb.latch = s.arb.latch
      ∧ (s.publishOutcome c o).arb.pointers = s.arb.pointers
      ∧ (s.publishOutcome c o).arb.beaconOffer = s.arb.beaconOffer
      ∧ (s.publishOutcome c o).arb.announceOffer = s.arb.announceOffer := by
  unfold State.publishOutcome; split <;> simp
@[simp] theorem publishOutcome_latch (s : State) (c : ChanId) (o : AttemptOutcome) : (s.publishOutcome c o).arb.latch = s.arb.latch := (publishOutcome_arb s c o).1
@[simp] theorem publishOutcome_pointers (s : State) (c : ChanId) (o : AttemptOutcome) : (s.publishOutcome c o).arb.pointers = s.arb.pointers := (publishOutcome_arb s c o).2.1
@[simp] theorem publishOutcome_beaconOffer (s : State) (c : ChanId) (o : AttemptOutcome) : (s.publishOutcome c o).arb.beaconOffer = s.arb.beaconOffer := (publishOutcome_arb s c o).2.2.1
@[simp] theorem publishOutcome_announceOffer (s : State) (c : ChanId) (o : AttemptOutcome) : (s.publishOutcome c o).arb.announceOffer = s.arb.announceOffer := (publishOutcome_arb s c o).2.2.2

theorem settleHalt_arb (s : State) (c : ChanId) :
    (s.settleHalt c).arb.latch = s.arb.latch
      ∧ (s.settleHalt c).arb.pointers = s.arb.pointers
      ∧ (s.settleHalt c).arb.beaconOffer = s.arb.beaconOffer
      ∧ (s.settleHalt c).arb.announceOffer = s.arb.announceOffer := by
  unfold State.settleHalt; split <;> simp
@[simp] theorem settleHalt_latch (s : State) (c : ChanId) : (s.settleHalt c).arb.latch = s.arb.latch := (settleHalt_arb s c).1
@[simp] theorem settleHalt_pointers (s : State) (c : ChanId) : (s.settleHalt c).arb.pointers = s.arb.pointers := (settleHalt_arb s c).2.1
@[simp] theorem settleHalt_beaconOffer (s : State) (c : ChanId) : (s.settleHalt c).arb.beaconOffer = s.arb.beaconOffer := (settleHalt_arb s c).2.2.1
@[simp] theorem settleHalt_announceOffer (s : State) (c : ChanId) : (s.settleHalt c).arb.announceOffer = s.arb.announceOffer := (settleHalt_arb s c).2.2.2

theorem channelOutcome_arb (s : State) (c : ChanId) (img : Frame) (o : AttemptOutcome) :
    (s.channelOutcome c img o).arb.latch = s.arb.latch
      ∧ (s.channelOutcome c img o).arb.pointers = s.arb.pointers
      ∧ (s.channelOutcome c img o).arb.beaconOffer = s.arb.beaconOffer
      ∧ (s.channelOutcome c img o).arb.announceOffer = s.arb.announceOffer := by
  simp only [State.channelOutcome]; split <;> simp
@[simp] theorem channelOutcome_latch (s : State) (c : ChanId) (img : Frame) (o : AttemptOutcome) : (s.channelOutcome c img o).arb.latch = s.arb.latch := (channelOutcome_arb s c img o).1
@[simp] theorem channelOutcome_pointers (s : State) (c : ChanId) (img : Frame) (o : AttemptOutcome) : (s.channelOutcome c img o).arb.pointers = s.arb.pointers := (channelOutcome_arb s c img o).2.1
@[simp] theorem channelOutcome_beaconOffer (s : State) (c : ChanId) (img : Frame) (o : AttemptOutcome) : (s.channelOutcome c img o).arb.beaconOffer = s.arb.beaconOffer := (channelOutcome_arb s c img o).2.2.1
@[simp] theorem channelOutcome_announceOffer (s : State) (c : ChanId) (img : Frame) (o : AttemptOutcome) : (s.channelOutcome c img o).arb.announceOffer = s.arb.announceOffer := (channelOutcome_arb s c img o).2.2.2

theorem decideFresh_arb (s : State) (c : ChanId) (f : Frame) (k : Closes) :
    (s.decideFresh c f k).1.arb.latch = s.arb.latch
      ∧ (s.decideFresh c f k).1.arb.pointers = s.arb.pointers
      ∧ (s.decideFresh c f k).1.arb.beaconOffer = s.arb.beaconOffer
      ∧ (s.decideFresh c f k).1.arb.announceOffer = s.arb.announceOffer := by
  have h := search_arb s c
  simp only [State.decideFresh]; split <;> simp_all
@[simp] theorem decideFresh_latch (s : State) (c : ChanId) (f : Frame) (k : Closes) : (s.decideFresh c f k).1.arb.latch = s.arb.latch := (decideFresh_arb s c f k).1
@[simp] theorem decideFresh_pointers (s : State) (c : ChanId) (f : Frame) (k : Closes) : (s.decideFresh c f k).1.arb.pointers = s.arb.pointers := (decideFresh_arb s c f k).2.1
@[simp] theorem decideFresh_beaconOffer (s : State) (c : ChanId) (f : Frame) (k : Closes) : (s.decideFresh c f k).1.arb.beaconOffer = s.arb.beaconOffer := (decideFresh_arb s c f k).2.2.1
@[simp] theorem decideFresh_announceOffer (s : State) (c : ChanId) (f : Frame) (k : Closes) : (s.decideFresh c f k).1.arb.announceOffer = s.arb.announceOffer := (decideFresh_arb s c f k).2.2.2

theorem decideData_arb (s : State) (c : ChanId) (f : Frame) :
    (s.decideData c f).1.arb.latch = s.arb.latch
      ∧ (s.decideData c f).1.arb.pointers = s.arb.pointers
      ∧ (s.decideData c f).1.arb.beaconOffer = s.arb.beaconOffer
      ∧ (s.decideData c f).1.arb.announceOffer = s.arb.announceOffer := by
  simp only [State.decideData]; repeat' split
  all_goals simp
@[simp] theorem decideData_latch (s : State) (c : ChanId) (f : Frame) : (s.decideData c f).1.arb.latch = s.arb.latch := (decideData_arb s c f).1
@[simp] theorem decideData_pointers (s : State) (c : ChanId) (f : Frame) : (s.decideData c f).1.arb.pointers = s.arb.pointers := (decideData_arb s c f).2.1
@[simp] theorem decideData_beaconOffer (s : State) (c : ChanId) (f : Frame) : (s.decideData c f).1.arb.beaconOffer = s.arb.beaconOffer := (decideData_arb s c f).2.2.1
@[simp] theorem decideData_announceOffer (s : State) (c : ChanId) (f : Frame) : (s.decideData c f).1.arb.announceOffer = s.arb.announceOffer := (decideData_arb s c f).2.2.2

theorem decide_arb (s : State) (c : ChanId) (f : Frame) :
    (s.decide c f).1.arb.latch = s.arb.latch
      ∧ (s.decide c f).1.arb.pointers = s.arb.pointers
      ∧ (s.decide c f).1.arb.beaconOffer = s.arb.beaconOffer
      ∧ (s.decide c f).1.arb.announceOffer = s.arb.announceOffer := by
  simp only [State.decide]; repeat' split
  all_goals simp
@[simp] theorem decide_latch (s : State) (c : ChanId) (f : Frame) : (s.decide c f).1.arb.latch = s.arb.latch := (decide_arb s c f).1
@[simp] theorem decide_pointers (s : State) (c : ChanId) (f : Frame) : (s.decide c f).1.arb.pointers = s.arb.pointers := (decide_arb s c f).2.1
@[simp] theorem decide_beaconOffer (s : State) (c : ChanId) (f : Frame) : (s.decide c f).1.arb.beaconOffer = s.arb.beaconOffer := (decide_arb s c f).2.2.1
@[simp] theorem decide_announceOffer (s : State) (c : ChanId) (f : Frame) : (s.decide c f).1.arb.announceOffer = s.arb.announceOffer := (decide_arb s c f).2.2.2

theorem subscribed_arb (s : State) (c : ChanId) (f : Frame) :
    (s.subscribed c f).arb.latch = s.arb.latch
      ∧ (s.subscribed c f).arb.pointers = s.arb.pointers
      ∧ (s.subscribed c f).arb.beaconOffer = s.arb.beaconOffer
      ∧ (s.subscribed c f).arb.announceOffer = s.arb.announceOffer := by
  have h := search_arb s c
  simp only [State.subscribed]; repeat' split
  all_goals simp_all
@[simp] theorem subscribed_latch (s : State) (c : ChanId) (f : Frame) : (s.subscribed c f).arb.latch = s.arb.latch := (subscribed_arb s c f).1
@[simp] theorem subscribed_pointers (s : State) (c : ChanId) (f : Frame) : (s.subscribed c f).arb.pointers = s.arb.pointers := (subscribed_arb s c f).2.1
@[simp] theorem subscribed_beaconOffer (s : State) (c : ChanId) (f : Frame) : (s.subscribed c f).arb.beaconOffer = s.arb.beaconOffer := (subscribed_arb s c f).2.2.1
@[simp] theorem subscribed_announceOffer (s : State) (c : ChanId) (f : Frame) : (s.subscribed c f).arb.announceOffer = s.arb.announceOffer := (subscribed_arb s c f).2.2.2

theorem publishHeard_arb (s : State) (f : Frame) :
    (s.publishHeard f).arb.latch = s.arb.latch
      ∧ (s.publishHeard f).arb.pointers = s.arb.pointers
      ∧ (s.publishHeard f).arb.beaconOffer = s.arb.beaconOffer
      ∧ (s.publishHeard f).arb.announceOffer = s.arb.announceOffer := by
  unfold State.publishHeard; split <;> simp
@[simp] theorem publishHeard_latch (s : State) (f : Frame) : (s.publishHeard f).arb.latch = s.arb.latch := (publishHeard_arb s f).1
@[simp] theorem publishHeard_pointers (s : State) (f : Frame) : (s.publishHeard f).arb.pointers = s.arb.pointers := (publishHeard_arb s f).2.1
@[simp] theorem publishHeard_beaconOffer (s : State) (f : Frame) : (s.publishHeard f).arb.beaconOffer = s.arb.beaconOffer := (publishHeard_arb s f).2.2.1
@[simp] theorem publishHeard_announceOffer (s : State) (f : Frame) : (s.publishHeard f).arb.announceOffer = s.arb.announceOffer := (publishHeard_arb s f).2.2.2

theorem raiseDone_enables (s : State) (c : ChanId) :
    (s.raiseDone c).notice.stationEnables = s.notice.stationEnables
      ∧ (s.raiseDone c).notice.channelEnables = s.notice.channelEnables
      ∧ (s.raiseDone c).notice.master = s.notice.master := by
  exact ⟨rfl, rfl, rfl⟩
@[simp] theorem raiseDone_stationEnables (s : State) (c : ChanId) : (s.raiseDone c).notice.stationEnables = s.notice.stationEnables := (raiseDone_enables s c).1
@[simp] theorem raiseDone_channelEnables (s : State) (c : ChanId) : (s.raiseDone c).notice.channelEnables = s.notice.channelEnables := (raiseDone_enables s c).2.1
@[simp] theorem raiseDone_master (s : State) (c : ChanId) : (s.raiseDone c).notice.master = s.notice.master := (raiseDone_enables s c).2.2

theorem raiseHalted_enables (s : State) (c : ChanId) :
    (s.raiseHalted c).notice.stationEnables = s.notice.stationEnables
      ∧ (s.raiseHalted c).notice.channelEnables = s.notice.channelEnables
      ∧ (s.raiseHalted c).notice.master = s.notice.master := by
  exact ⟨rfl, rfl, rfl⟩
@[simp] theorem raiseHalted_stationEnables (s : State) (c : ChanId) : (s.raiseHalted c).notice.stationEnables = s.notice.stationEnables := (raiseHalted_enables s c).1
@[simp] theorem raiseHalted_channelEnables (s : State) (c : ChanId) : (s.raiseHalted c).notice.channelEnables = s.notice.channelEnables := (raiseHalted_enables s c).2.1
@[simp] theorem raiseHalted_master (s : State) (c : ChanId) : (s.raiseHalted c).notice.master = s.notice.master := (raiseHalted_enables s c).2.2

theorem raiseDrained_enables (s : State) (c : ChanId) :
    (s.raiseDrained c).notice.stationEnables = s.notice.stationEnables
      ∧ (s.raiseDrained c).notice.channelEnables = s.notice.channelEnables
      ∧ (s.raiseDrained c).notice.master = s.notice.master := by
  exact ⟨rfl, rfl, rfl⟩
@[simp] theorem raiseDrained_stationEnables (s : State) (c : ChanId) : (s.raiseDrained c).notice.stationEnables = s.notice.stationEnables := (raiseDrained_enables s c).1
@[simp] theorem raiseDrained_channelEnables (s : State) (c : ChanId) : (s.raiseDrained c).notice.channelEnables = s.notice.channelEnables := (raiseDrained_enables s c).2.1
@[simp] theorem raiseDrained_master (s : State) (c : ChanId) : (s.raiseDrained c).notice.master = s.notice.master := (raiseDrained_enables s c).2.2

theorem raiseDrop_enables (s : State) (c : ChanId) :
    (s.raiseDrop c).notice.stationEnables = s.notice.stationEnables
      ∧ (s.raiseDrop c).notice.channelEnables = s.notice.channelEnables
      ∧ (s.raiseDrop c).notice.master = s.notice.master := by
  exact ⟨rfl, rfl, rfl⟩
@[simp] theorem raiseDrop_stationEnables (s : State) (c : ChanId) : (s.raiseDrop c).notice.stationEnables = s.notice.stationEnables := (raiseDrop_enables s c).1
@[simp] theorem raiseDrop_channelEnables (s : State) (c : ChanId) : (s.raiseDrop c).notice.channelEnables = s.notice.channelEnables := (raiseDrop_enables s c).2.1
@[simp] theorem raiseDrop_master (s : State) (c : ChanId) : (s.raiseDrop c).notice.master = s.notice.master := (raiseDrop_enables s c).2.2

theorem replaceEntries_enables (s : State) (new : Table 31 Entry) :
    (s.replaceEntries new).notice.stationEnables = s.notice.stationEnables
      ∧ (s.replaceEntries new).notice.channelEnables = s.notice.channelEnables
      ∧ (s.replaceEntries new).notice.master = s.notice.master := by
  simp [State.replaceEntries]
@[simp] theorem replaceEntries_stationEnables (s : State) (new : Table 31 Entry) : (s.replaceEntries new).notice.stationEnables = s.notice.stationEnables := (replaceEntries_enables s new).1
@[simp] theorem replaceEntries_channelEnables (s : State) (new : Table 31 Entry) : (s.replaceEntries new).notice.channelEnables = s.notice.channelEnables := (replaceEntries_enables s new).2.1
@[simp] theorem replaceEntries_master (s : State) (new : Table 31 Entry) : (s.replaceEntries new).notice.master = s.notice.master := (replaceEntries_enables s new).2.2

theorem updateEntries_enables (s : State) (f : Station → Entry → Entry) :
    (s.updateEntries f).notice.stationEnables = s.notice.stationEnables
      ∧ (s.updateEntries f).notice.channelEnables = s.notice.channelEnables
      ∧ (s.updateEntries f).notice.master = s.notice.master := by
  simp [State.updateEntries]
@[simp] theorem updateEntries_stationEnables (s : State) (f : Station → Entry → Entry) : (s.updateEntries f).notice.stationEnables = s.notice.stationEnables := (updateEntries_enables s f).1
@[simp] theorem updateEntries_channelEnables (s : State) (f : Station → Entry → Entry) : (s.updateEntries f).notice.channelEnables = s.notice.channelEnables := (updateEntries_enables s f).2.1
@[simp] theorem updateEntries_master (s : State) (f : Station → Entry → Entry) : (s.updateEntries f).notice.master = s.notice.master := (updateEntries_enables s f).2.2

theorem updateEntry_enables (s : State) (a : Station) (f : Entry → Entry) :
    (s.updateEntry a f).notice.stationEnables = s.notice.stationEnables
      ∧ (s.updateEntry a f).notice.channelEnables = s.notice.channelEnables
      ∧ (s.updateEntry a f).notice.master = s.notice.master := by
  simp [State.updateEntry]
@[simp] theorem updateEntry_stationEnables (s : State) (a : Station) (f : Entry → Entry) : (s.updateEntry a f).notice.stationEnables = s.notice.stationEnables := (updateEntry_enables s a f).1
@[simp] theorem updateEntry_channelEnables (s : State) (a : Station) (f : Entry → Entry) : (s.updateEntry a f).notice.channelEnables = s.notice.channelEnables := (updateEntry_enables s a f).2.1
@[simp] theorem updateEntry_master (s : State) (a : Station) (f : Entry → Entry) : (s.updateEntry a f).notice.master = s.notice.master := (updateEntry_enables s a f).2.2

theorem stationHeard_enables (s : State) (a : Station) :
    (s.stationHeard a).notice.stationEnables = s.notice.stationEnables
      ∧ (s.stationHeard a).notice.channelEnables = s.notice.channelEnables
      ∧ (s.stationHeard a).notice.master = s.notice.master := by
  simp [State.stationHeard]
@[simp] theorem stationHeard_stationEnables (s : State) (a : Station) : (s.stationHeard a).notice.stationEnables = s.notice.stationEnables := (stationHeard_enables s a).1
@[simp] theorem stationHeard_channelEnables (s : State) (a : Station) : (s.stationHeard a).notice.channelEnables = s.notice.channelEnables := (stationHeard_enables s a).2.1
@[simp] theorem stationHeard_master (s : State) (a : Station) : (s.stationHeard a).notice.master = s.notice.master := (stationHeard_enables s a).2.2

theorem beaconHeard_enables (s : State) (a : Station) (p : List Byte) :
    (s.beaconHeard a p).notice.stationEnables = s.notice.stationEnables
      ∧ (s.beaconHeard a p).notice.channelEnables = s.notice.channelEnables
      ∧ (s.beaconHeard a p).notice.master = s.notice.master := by
  simp [State.beaconHeard]
@[simp] theorem beaconHeard_stationEnables (s : State) (a : Station) (p : List Byte) : (s.beaconHeard a p).notice.stationEnables = s.notice.stationEnables := (beaconHeard_enables s a p).1
@[simp] theorem beaconHeard_channelEnables (s : State) (a : Station) (p : List Byte) : (s.beaconHeard a p).notice.channelEnables = s.notice.channelEnables := (beaconHeard_enables s a p).2.1
@[simp] theorem beaconHeard_master (s : State) (a : Station) (p : List Byte) : (s.beaconHeard a p).notice.master = s.notice.master := (beaconHeard_enables s a p).2.2

theorem announceHeard_enables (s : State) (a : Station) :
    (s.announceHeard a).notice.stationEnables = s.notice.stationEnables
      ∧ (s.announceHeard a).notice.channelEnables = s.notice.channelEnables
      ∧ (s.announceHeard a).notice.master = s.notice.master := by
  simp [State.announceHeard]
@[simp] theorem announceHeard_stationEnables (s : State) (a : Station) : (s.announceHeard a).notice.stationEnables = s.notice.stationEnables := (announceHeard_enables s a).1
@[simp] theorem announceHeard_channelEnables (s : State) (a : Station) : (s.announceHeard a).notice.channelEnables = s.notice.channelEnables := (announceHeard_enables s a).2.1
@[simp] theorem announceHeard_master (s : State) (a : Station) : (s.announceHeard a).notice.master = s.notice.master := (announceHeard_enables s a).2.2

theorem presencePulse_enables (s : State) :
    s.presencePulse.notice.stationEnables = s.notice.stationEnables
      ∧ s.presencePulse.notice.channelEnables = s.notice.channelEnables
      ∧ s.presencePulse.notice.master = s.notice.master := by
  simp [State.presencePulse]
@[simp] theorem presencePulse_stationEnables (s : State) : s.presencePulse.notice.stationEnables = s.notice.stationEnables := (presencePulse_enables s).1
@[simp] theorem presencePulse_channelEnables (s : State) : s.presencePulse.notice.channelEnables = s.notice.channelEnables := (presencePulse_enables s).2.1
@[simp] theorem presencePulse_master (s : State) : s.presencePulse.notice.master = s.notice.master := (presencePulse_enables s).2.2

theorem presenceExhausted_enables (s : State) (p : BitVec 5) :
    (s.presenceExhausted p).notice.stationEnables = s.notice.stationEnables
      ∧ (s.presenceExhausted p).notice.channelEnables = s.notice.channelEnables
      ∧ (s.presenceExhausted p).notice.master = s.notice.master := by
  unfold State.presenceExhausted; split <;> simp
@[simp] theorem presenceExhausted_stationEnables (s : State) (p : BitVec 5) : (s.presenceExhausted p).notice.stationEnables = s.notice.stationEnables := (presenceExhausted_enables s p).1
@[simp] theorem presenceExhausted_channelEnables (s : State) (p : BitVec 5) : (s.presenceExhausted p).notice.channelEnables = s.notice.channelEnables := (presenceExhausted_enables s p).2.1
@[simp] theorem presenceExhausted_master (s : State) (p : BitVec 5) : (s.presenceExhausted p).notice.master = s.notice.master := (presenceExhausted_enables s p).2.2

theorem presenceClear_enables (s : State) :
    s.presenceClear.notice.stationEnables = s.notice.stationEnables
      ∧ s.presenceClear.notice.channelEnables = s.notice.channelEnables
      ∧ s.presenceClear.notice.master = s.notice.master := by
  simp [State.presenceClear]
@[simp] theorem presenceClear_stationEnables (s : State) : s.presenceClear.notice.stationEnables = s.notice.stationEnables := (presenceClear_enables s).1
@[simp] theorem presenceClear_channelEnables (s : State) : s.presenceClear.notice.channelEnables = s.notice.channelEnables := (presenceClear_enables s).2.1
@[simp] theorem presenceClear_master (s : State) : s.presenceClear.notice.master = s.notice.master := (presenceClear_enables s).2.2

theorem writeBack_enables (s : State) (c : ChanId) (i : SlotId) (st : Status) (n : Nat) (e : Option Bool) :
    (s.writeBack c i st n e).notice.stationEnables = s.notice.stationEnables
      ∧ (s.writeBack c i st n e).notice.channelEnables = s.notice.channelEnables
      ∧ (s.writeBack c i st n e).notice.master = s.notice.master := by
  simp only [State.writeBack]; split <;> simp
@[simp] theorem writeBack_stationEnables (s : State) (c : ChanId) (i : SlotId) (st : Status) (n : Nat) (e : Option Bool) : (s.writeBack c i st n e).notice.stationEnables = s.notice.stationEnables := (writeBack_enables s c i st n e).1
@[simp] theorem writeBack_channelEnables (s : State) (c : ChanId) (i : SlotId) (st : Status) (n : Nat) (e : Option Bool) : (s.writeBack c i st n e).notice.channelEnables = s.notice.channelEnables := (writeBack_enables s c i st n e).2.1
@[simp] theorem writeBack_master (s : State) (c : ChanId) (i : SlotId) (st : Status) (n : Nat) (e : Option Bool) : (s.writeBack c i st n e).notice.master = s.notice.master := (writeBack_enables s c i st n e).2.2

theorem writeBackList_enables (s : State) (c : ChanId) (st : Status) (n : SlotCopy → Nat) (l : List SlotCopy) :
    (s.writeBackList c st n l).notice.stationEnables = s.notice.stationEnables
      ∧ (s.writeBackList c st n l).notice.channelEnables = s.notice.channelEnables
      ∧ (s.writeBackList c st n l).notice.master = s.notice.master := by
  induction l generalizing s with
  | nil => simp [State.writeBackList]
  | cons d l ih => simp [State.writeBackList, ih]
@[simp] theorem writeBackList_stationEnables (s : State) (c : ChanId) (st : Status) (n : SlotCopy → Nat) (l : List SlotCopy) : (s.writeBackList c st n l).notice.stationEnables = s.notice.stationEnables := (writeBackList_enables s c st n l).1
@[simp] theorem writeBackList_channelEnables (s : State) (c : ChanId) (st : Status) (n : SlotCopy → Nat) (l : List SlotCopy) : (s.writeBackList c st n l).notice.channelEnables = s.notice.channelEnables := (writeBackList_enables s c st n l).2.1
@[simp] theorem writeBackList_master (s : State) (c : ChanId) (st : Status) (n : SlotCopy → Nat) (l : List SlotCopy) : (s.writeBackList c st n l).notice.master = s.notice.master := (writeBackList_enables s c st n l).2.2

theorem fetchBadRange_enables (s : State) (c : ChanId) :
    (s.fetchBadRange c).notice.stationEnables = s.notice.stationEnables
      ∧ (s.fetchBadRange c).notice.channelEnables = s.notice.channelEnables
      ∧ (s.fetchBadRange c).notice.master = s.notice.master := by
  simp [State.fetchBadRange]
@[simp] theorem fetchBadRange_stationEnables (s : State) (c : ChanId) : (s.fetchBadRange c).notice.stationEnables = s.notice.stationEnables := (fetchBadRange_enables s c).1
@[simp] theorem fetchBadRange_channelEnables (s : State) (c : ChanId) : (s.fetchBadRange c).notice.channelEnables = s.notice.channelEnables := (fetchBadRange_enables s c).2.1
@[simp] theorem fetchBadRange_master (s : State) (c : ChanId) : (s.fetchBadRange c).notice.master = s.notice.master := (fetchBadRange_enables s c).2.2

theorem fetchTooLong_enables (s : State) (c : ChanId) :
    (s.fetchTooLong c).notice.stationEnables = s.notice.stationEnables
      ∧ (s.fetchTooLong c).notice.channelEnables = s.notice.channelEnables
      ∧ (s.fetchTooLong c).notice.master = s.notice.master := by
  simp [State.fetchTooLong]
@[simp] theorem fetchTooLong_stationEnables (s : State) (c : ChanId) : (s.fetchTooLong c).notice.stationEnables = s.notice.stationEnables := (fetchTooLong_enables s c).1
@[simp] theorem fetchTooLong_channelEnables (s : State) (c : ChanId) : (s.fetchTooLong c).notice.channelEnables = s.notice.channelEnables := (fetchTooLong_enables s c).2.1
@[simp] theorem fetchTooLong_master (s : State) (c : ChanId) : (s.fetchTooLong c).notice.master = s.notice.master := (fetchTooLong_enables s c).2.2

theorem fetchDry_enables (s : State) (c : ChanId) :
    (s.fetchDry c).notice.stationEnables = s.notice.stationEnables
      ∧ (s.fetchDry c).notice.channelEnables = s.notice.channelEnables
      ∧ (s.fetchDry c).notice.master = s.notice.master := by
  unfold State.fetchDry; split <;> simp
@[simp] theorem fetchDry_stationEnables (s : State) (c : ChanId) : (s.fetchDry c).notice.stationEnables = s.notice.stationEnables := (fetchDry_enables s c).1
@[simp] theorem fetchDry_channelEnables (s : State) (c : ChanId) : (s.fetchDry c).notice.channelEnables = s.notice.channelEnables := (fetchDry_enables s c).2.1
@[simp] theorem fetchDry_master (s : State) (c : ChanId) : (s.fetchDry c).notice.master = s.notice.master := (fetchDry_enables s c).2.2

theorem fetchLoop_enables (s : State) (c : ChanId) (n : Nat) :
    (s.fetchLoop c n).notice.stationEnables = s.notice.stationEnables
      ∧ (s.fetchLoop c n).notice.channelEnables = s.notice.channelEnables
      ∧ (s.fetchLoop c n).notice.master = s.notice.master := by
  induction n generalizing s with
  | zero => simp [State.fetchLoop]
  | succ n ih => simp only [State.fetchLoop]; repeat' split
                 all_goals simp [ih]
@[simp] theorem fetchLoop_stationEnables (s : State) (c : ChanId) (n : Nat) : (s.fetchLoop c n).notice.stationEnables = s.notice.stationEnables := (fetchLoop_enables s c n).1
@[simp] theorem fetchLoop_channelEnables (s : State) (c : ChanId) (n : Nat) : (s.fetchLoop c n).notice.channelEnables = s.notice.channelEnables := (fetchLoop_enables s c n).2.1
@[simp] theorem fetchLoop_master (s : State) (c : ChanId) (n : Nat) : (s.fetchLoop c n).notice.master = s.notice.master := (fetchLoop_enables s c n).2.2

theorem fetch_enables (s : State) (c : ChanId) :
    (s.fetch c).notice.stationEnables = s.notice.stationEnables
      ∧ (s.fetch c).notice.channelEnables = s.notice.channelEnables
      ∧ (s.fetch c).notice.master = s.notice.master := by
  unfold State.fetch; split <;> simp
@[simp] theorem fetch_stationEnables (s : State) (c : ChanId) : (s.fetch c).notice.stationEnables = s.notice.stationEnables := (fetch_enables s c).1
@[simp] theorem fetch_channelEnables (s : State) (c : ChanId) : (s.fetch c).notice.channelEnables = s.notice.channelEnables := (fetch_enables s c).2.1
@[simp] theorem fetch_master (s : State) (c : ChanId) : (s.fetch c).notice.master = s.notice.master := (fetch_enables s c).2.2

theorem completeMessage_enables (s : State) (c : ChanId) :
    (s.completeMessage c).notice.stationEnables = s.notice.stationEnables
      ∧ (s.completeMessage c).notice.channelEnables = s.notice.channelEnables
      ∧ (s.completeMessage c).notice.master = s.notice.master := by
  simp only [State.completeMessage]; split <;> simp
@[simp] theorem completeMessage_stationEnables (s : State) (c : ChanId) : (s.completeMessage c).notice.stationEnables = s.notice.stationEnables := (completeMessage_enables s c).1
@[simp] theorem completeMessage_channelEnables (s : State) (c : ChanId) : (s.completeMessage c).notice.channelEnables = s.notice.channelEnables := (completeMessage_enables s c).2.1
@[simp] theorem completeMessage_master (s : State) (c : ChanId) : (s.completeMessage c).notice.master = s.notice.master := (completeMessage_enables s c).2.2

theorem abortWalk_enables (s : State) (c : ChanId) (i : SlotId) (n : Nat) :
    (s.abortWalk c i n).1.notice.stationEnables = s.notice.stationEnables
      ∧ (s.abortWalk c i n).1.notice.channelEnables = s.notice.channelEnables
      ∧ (s.abortWalk c i n).1.notice.master = s.notice.master := by
  induction n generalizing s i with
  | zero => simp [State.abortWalk]
  | succ n ih => simp only [State.abortWalk]; split <;> simp [ih]
@[simp] theorem abortWalk_stationEnables (s : State) (c : ChanId) (i : SlotId) (n : Nat) : (s.abortWalk c i n).1.notice.stationEnables = s.notice.stationEnables := (abortWalk_enables s c i n).1
@[simp] theorem abortWalk_channelEnables (s : State) (c : ChanId) (i : SlotId) (n : Nat) : (s.abortWalk c i n).1.notice.channelEnables = s.notice.channelEnables := (abortWalk_enables s c i n).2.1
@[simp] theorem abortWalk_master (s : State) (c : ChanId) (i : SlotId) (n : Nat) : (s.abortWalk c i n).1.notice.master = s.notice.master := (abortWalk_enables s c i n).2.2

theorem searchLoop_enables (s : State) (c : ChanId) (n : Nat) :
    (s.searchLoop c n).1.notice.stationEnables = s.notice.stationEnables
      ∧ (s.searchLoop c n).1.notice.channelEnables = s.notice.channelEnables
      ∧ (s.searchLoop c n).1.notice.master = s.notice.master := by
  induction n generalizing s with
  | zero => simp [State.searchLoop]
  | succ n ih => simp only [State.searchLoop]; repeat' split
                 all_goals simp [ih]
@[simp] theorem searchLoop_stationEnables (s : State) (c : ChanId) (n : Nat) : (s.searchLoop c n).1.notice.stationEnables = s.notice.stationEnables := (searchLoop_enables s c n).1
@[simp] theorem searchLoop_channelEnables (s : State) (c : ChanId) (n : Nat) : (s.searchLoop c n).1.notice.channelEnables = s.notice.channelEnables := (searchLoop_enables s c n).2.1
@[simp] theorem searchLoop_master (s : State) (c : ChanId) (n : Nat) : (s.searchLoop c n).1.notice.master = s.notice.master := (searchLoop_enables s c n).2.2

theorem search_enables (s : State) (c : ChanId) :
    (s.search c).1.notice.stationEnables = s.notice.stationEnables
      ∧ (s.search c).1.notice.channelEnables = s.notice.channelEnables
      ∧ (s.search c).1.notice.master = s.notice.master := by
  simp [State.search]
@[simp] theorem search_stationEnables (s : State) (c : ChanId) : (s.search c).1.notice.stationEnables = s.notice.stationEnables := (search_enables s c).1
@[simp] theorem search_channelEnables (s : State) (c : ChanId) : (s.search c).1.notice.channelEnables = s.notice.channelEnables := (search_enables s c).2.1
@[simp] theorem search_master (s : State) (c : ChanId) : (s.search c).1.notice.master = s.notice.master := (search_enables s c).2.2

theorem openAcked_enables (s : State) (c : ChanId) :
    (s.openAcked c).notice.stationEnables = s.notice.stationEnables
      ∧ (s.openAcked c).notice.channelEnables = s.notice.channelEnables
      ∧ (s.openAcked c).notice.master = s.notice.master := by
  simp [State.openAcked]
@[simp] theorem openAcked_stationEnables (s : State) (c : ChanId) : (s.openAcked c).notice.stationEnables = s.notice.stationEnables := (openAcked_enables s c).1
@[simp] theorem openAcked_channelEnables (s : State) (c : ChanId) : (s.openAcked c).notice.channelEnables = s.notice.channelEnables := (openAcked_enables s c).2.1
@[simp] theorem openAcked_master (s : State) (c : ChanId) : (s.openAcked c).notice.master = s.notice.master := (openAcked_enables s c).2.2

theorem dataAcked_enables (s : State) (c : ChanId) (img : Frame) :
    (s.dataAcked c img).notice.stationEnables = s.notice.stationEnables
      ∧ (s.dataAcked c img).notice.channelEnables = s.notice.channelEnables
      ∧ (s.dataAcked c img).notice.master = s.notice.master := by
  simp only [State.dataAcked]; split <;> simp
@[simp] theorem dataAcked_stationEnables (s : State) (c : ChanId) (img : Frame) : (s.dataAcked c img).notice.stationEnables = s.notice.stationEnables := (dataAcked_enables s c img).1
@[simp] theorem dataAcked_channelEnables (s : State) (c : ChanId) (img : Frame) : (s.dataAcked c img).notice.channelEnables = s.notice.channelEnables := (dataAcked_enables s c img).2.1
@[simp] theorem dataAcked_master (s : State) (c : ChanId) (img : Frame) : (s.dataAcked c img).notice.master = s.notice.master := (dataAcked_enables s c img).2.2

theorem nakAnswered_enables (s : State) (c : ChanId) :
    (s.nakAnswered c).notice.stationEnables = s.notice.stationEnables
      ∧ (s.nakAnswered c).notice.channelEnables = s.notice.channelEnables
      ∧ (s.nakAnswered c).notice.master = s.notice.master := by
  simp only [State.nakAnswered]; repeat' split
  all_goals simp
@[simp] theorem nakAnswered_stationEnables (s : State) (c : ChanId) : (s.nakAnswered c).notice.stationEnables = s.notice.stationEnables := (nakAnswered_enables s c).1
@[simp] theorem nakAnswered_channelEnables (s : State) (c : ChanId) : (s.nakAnswered c).notice.channelEnables = s.notice.channelEnables := (nakAnswered_enables s c).2.1
@[simp] theorem nakAnswered_master (s : State) (c : ChanId) : (s.nakAnswered c).notice.master = s.notice.master := (nakAnswered_enables s c).2.2

theorem exhaust_enables (s : State) (c : ChanId) :
    (s.exhaust c).notice.stationEnables = s.notice.stationEnables
      ∧ (s.exhaust c).notice.channelEnables = s.notice.channelEnables
      ∧ (s.exhaust c).notice.master = s.notice.master := by
  simp [State.exhaust]
@[simp] theorem exhaust_stationEnables (s : State) (c : ChanId) : (s.exhaust c).notice.stationEnables = s.notice.stationEnables := (exhaust_enables s c).1
@[simp] theorem exhaust_channelEnables (s : State) (c : ChanId) : (s.exhaust c).notice.channelEnables = s.notice.channelEnables := (exhaust_enables s c).2.1
@[simp] theorem exhaust_master (s : State) (c : ChanId) : (s.exhaust c).notice.master = s.notice.master := (exhaust_enables s c).2.2

theorem countRetry_enables (s : State) (c : ChanId) :
    (s.countRetry c).notice.stationEnables = s.notice.stationEnables
      ∧ (s.countRetry c).notice.channelEnables = s.notice.channelEnables
      ∧ (s.countRetry c).notice.master = s.notice.master := by
  unfold State.countRetry; split <;> simp
@[simp] theorem countRetry_stationEnables (s : State) (c : ChanId) : (s.countRetry c).notice.stationEnables = s.notice.stationEnables := (countRetry_enables s c).1
@[simp] theorem countRetry_channelEnables (s : State) (c : ChanId) : (s.countRetry c).notice.channelEnables = s.notice.channelEnables := (countRetry_enables s c).2.1
@[simp] theorem countRetry_master (s : State) (c : ChanId) : (s.countRetry c).notice.master = s.notice.master := (countRetry_enables s c).2.2

theorem sendOutcome_enables (s : State) (c : ChanId) (img : Frame) (o : AttemptOutcome) :
    (s.sendOutcome c img o).notice.stationEnables = s.notice.stationEnables
      ∧ (s.sendOutcome c img o).notice.channelEnables = s.notice.channelEnables
      ∧ (s.sendOutcome c img o).notice.master = s.notice.master := by
  unfold State.sendOutcome; repeat' split
  all_goals simp
@[simp] theorem sendOutcome_stationEnables (s : State) (c : ChanId) (img : Frame) (o : AttemptOutcome) : (s.sendOutcome c img o).notice.stationEnables = s.notice.stationEnables := (sendOutcome_enables s c img o).1
@[simp] theorem sendOutcome_channelEnables (s : State) (c : ChanId) (img : Frame) (o : AttemptOutcome) : (s.sendOutcome c img o).notice.channelEnables = s.notice.channelEnables := (sendOutcome_enables s c img o).2.1
@[simp] theorem sendOutcome_master (s : State) (c : ChanId) (img : Frame) (o : AttemptOutcome) : (s.sendOutcome c img o).notice.master = s.notice.master := (sendOutcome_enables s c img o).2.2

theorem publishOutcome_enables (s : State) (c : ChanId) (o : AttemptOutcome) :
    (s.publishOutcome c o).notice.stationEnables = s.notice.stationEnables
      ∧ (s.publishOutcome c o).notice.channelEnables = s.notice.channelEnables
      ∧ (s.publishOutcome c o).notice.master = s.notice.master := by
  unfold State.publishOutcome; split <;> simp
@[simp] theorem publishOutcome_stationEnables (s : State) (c : ChanId) (o : AttemptOutcome) : (s.publishOutcome c o).notice.stationEnables = s.notice.stationEnables := (publishOutcome_enables s c o).1
@[simp] theorem publishOutcome_channelEnables (s : State) (c : ChanId) (o : AttemptOutcome) : (s.publishOutcome c o).notice.channelEnables = s.notice.channelEnables := (publishOutcome_enables s c o).2.1
@[simp] theorem publishOutcome_master (s : State) (c : ChanId) (o : AttemptOutcome) : (s.publishOutcome c o).notice.master = s.notice.master := (publishOutcome_enables s c o).2.2

theorem settleHalt_enables (s : State) (c : ChanId) :
    (s.settleHalt c).notice.stationEnables = s.notice.stationEnables
      ∧ (s.settleHalt c).notice.channelEnables = s.notice.channelEnables
      ∧ (s.settleHalt c).notice.master = s.notice.master := by
  unfold State.settleHalt; split <;> simp
@[simp] theorem settleHalt_stationEnables (s : State) (c : ChanId) : (s.settleHalt c).notice.stationEnables = s.notice.stationEnables := (settleHalt_enables s c).1
@[simp] theorem settleHalt_channelEnables (s : State) (c : ChanId) : (s.settleHalt c).notice.channelEnables = s.notice.channelEnables := (settleHalt_enables s c).2.1
@[simp] theorem settleHalt_master (s : State) (c : ChanId) : (s.settleHalt c).notice.master = s.notice.master := (settleHalt_enables s c).2.2

theorem channelOutcome_enables (s : State) (c : ChanId) (img : Frame) (o : AttemptOutcome) :
    (s.channelOutcome c img o).notice.stationEnables = s.notice.stationEnables
      ∧ (s.channelOutcome c img o).notice.channelEnables = s.notice.channelEnables
      ∧ (s.channelOutcome c img o).notice.master = s.notice.master := by
  simp only [State.channelOutcome]; split <;> simp
@[simp] theorem channelOutcome_stationEnables (s : State) (c : ChanId) (img : Frame) (o : AttemptOutcome) : (s.channelOutcome c img o).notice.stationEnables = s.notice.stationEnables := (channelOutcome_enables s c img o).1
@[simp] theorem channelOutcome_channelEnables (s : State) (c : ChanId) (img : Frame) (o : AttemptOutcome) : (s.channelOutcome c img o).notice.channelEnables = s.notice.channelEnables := (channelOutcome_enables s c img o).2.1
@[simp] theorem channelOutcome_master (s : State) (c : ChanId) (img : Frame) (o : AttemptOutcome) : (s.channelOutcome c img o).notice.master = s.notice.master := (channelOutcome_enables s c img o).2.2

theorem closeCurrent_enables (s : State) (c : ChanId) (k : SlotCopy) (st : Status) (e : Bool) :
    (s.closeCurrent c k st e).notice.stationEnables = s.notice.stationEnables
      ∧ (s.closeCurrent c k st e).notice.channelEnables = s.notice.channelEnables
      ∧ (s.closeCurrent c k st e).notice.master = s.notice.master := by
  simp [State.closeCurrent]
@[simp] theorem closeCurrent_stationEnables (s : State) (c : ChanId) (k : SlotCopy) (st : Status) (e : Bool) : (s.closeCurrent c k st e).notice.stationEnables = s.notice.stationEnables := (closeCurrent_enables s c k st e).1
@[simp] theorem closeCurrent_channelEnables (s : State) (c : ChanId) (k : SlotCopy) (st : Status) (e : Bool) : (s.closeCurrent c k st e).notice.channelEnables = s.notice.channelEnables := (closeCurrent_enables s c k st e).2.1
@[simp] theorem closeCurrent_master (s : State) (c : ChanId) (k : SlotCopy) (st : Status) (e : Bool) : (s.closeCurrent c k st e).notice.master = s.notice.master := (closeCurrent_enables s c k st e).2.2

theorem cut_enables (s : State) (c : ChanId) :
    (s.cut c).notice.stationEnables = s.notice.stationEnables
      ∧ (s.cut c).notice.channelEnables = s.notice.channelEnables
      ∧ (s.cut c).notice.master = s.notice.master := by
  unfold State.cut; split <;> simp
@[simp] theorem cut_stationEnables (s : State) (c : ChanId) : (s.cut c).notice.stationEnables = s.notice.stationEnables := (cut_enables s c).1
@[simp] theorem cut_channelEnables (s : State) (c : ChanId) : (s.cut c).notice.channelEnables = s.notice.channelEnables := (cut_enables s c).2.1
@[simp] theorem cut_master (s : State) (c : ChanId) : (s.cut c).notice.master = s.notice.master := (cut_enables s c).2.2

theorem lackOfSpace_enables (s : State) (c : ChanId) :
    (s.lackOfSpace c).notice.stationEnables = s.notice.stationEnables
      ∧ (s.lackOfSpace c).notice.channelEnables = s.notice.channelEnables
      ∧ (s.lackOfSpace c).notice.master = s.notice.master := by
  unfold State.lackOfSpace; split <;> simp
@[simp] theorem lackOfSpace_stationEnables (s : State) (c : ChanId) : (s.lackOfSpace c).notice.stationEnables = s.notice.stationEnables := (lackOfSpace_enables s c).1
@[simp] theorem lackOfSpace_channelEnables (s : State) (c : ChanId) : (s.lackOfSpace c).notice.channelEnables = s.notice.channelEnables := (lackOfSpace_enables s c).2.1
@[simp] theorem lackOfSpace_master (s : State) (c : ChanId) : (s.lackOfSpace c).notice.master = s.notice.master := (lackOfSpace_enables s c).2.2

theorem decideFresh_enables (s : State) (c : ChanId) (f : Frame) (k : Closes) :
    (s.decideFresh c f k).1.notice.stationEnables = s.notice.stationEnables
      ∧ (s.decideFresh c f k).1.notice.channelEnables = s.notice.channelEnables
      ∧ (s.decideFresh c f k).1.notice.master = s.notice.master := by
  have h := search_enables s c
  simp only [State.decideFresh]; split <;> simp_all
@[simp] theorem decideFresh_stationEnables (s : State) (c : ChanId) (f : Frame) (k : Closes) : (s.decideFresh c f k).1.notice.stationEnables = s.notice.stationEnables := (decideFresh_enables s c f k).1
@[simp] theorem decideFresh_channelEnables (s : State) (c : ChanId) (f : Frame) (k : Closes) : (s.decideFresh c f k).1.notice.channelEnables = s.notice.channelEnables := (decideFresh_enables s c f k).2.1
@[simp] theorem decideFresh_master (s : State) (c : ChanId) (f : Frame) (k : Closes) : (s.decideFresh c f k).1.notice.master = s.notice.master := (decideFresh_enables s c f k).2.2

theorem decideData_enables (s : State) (c : ChanId) (f : Frame) :
    (s.decideData c f).1.notice.stationEnables = s.notice.stationEnables
      ∧ (s.decideData c f).1.notice.channelEnables = s.notice.channelEnables
      ∧ (s.decideData c f).1.notice.master = s.notice.master := by
  simp only [State.decideData]; repeat' split
  all_goals simp
@[simp] theorem decideData_stationEnables (s : State) (c : ChanId) (f : Frame) : (s.decideData c f).1.notice.stationEnables = s.notice.stationEnables := (decideData_enables s c f).1
@[simp] theorem decideData_channelEnables (s : State) (c : ChanId) (f : Frame) : (s.decideData c f).1.notice.channelEnables = s.notice.channelEnables := (decideData_enables s c f).2.1
@[simp] theorem decideData_master (s : State) (c : ChanId) (f : Frame) : (s.decideData c f).1.notice.master = s.notice.master := (decideData_enables s c f).2.2

theorem decide_enables (s : State) (c : ChanId) (f : Frame) :
    (s.decide c f).1.notice.stationEnables = s.notice.stationEnables
      ∧ (s.decide c f).1.notice.channelEnables = s.notice.channelEnables
      ∧ (s.decide c f).1.notice.master = s.notice.master := by
  simp only [State.decide]; repeat' split
  all_goals simp
@[simp] theorem decide_stationEnables (s : State) (c : ChanId) (f : Frame) : (s.decide c f).1.notice.stationEnables = s.notice.stationEnables := (decide_enables s c f).1
@[simp] theorem decide_channelEnables (s : State) (c : ChanId) (f : Frame) : (s.decide c f).1.notice.channelEnables = s.notice.channelEnables := (decide_enables s c f).2.1
@[simp] theorem decide_master (s : State) (c : ChanId) (f : Frame) : (s.decide c f).1.notice.master = s.notice.master := (decide_enables s c f).2.2

theorem commitTarget_enables (s : State) (c : ChanId) (w : StoreWork) :
    (s.commitTarget c w).notice.stationEnables = s.notice.stationEnables
      ∧ (s.commitTarget c w).notice.channelEnables = s.notice.channelEnables
      ∧ (s.commitTarget c w).notice.master = s.notice.master := by
  simp only [State.commitTarget]; repeat' split
  all_goals simp
@[simp] theorem commitTarget_stationEnables (s : State) (c : ChanId) (w : StoreWork) : (s.commitTarget c w).notice.stationEnables = s.notice.stationEnables := (commitTarget_enables s c w).1
@[simp] theorem commitTarget_channelEnables (s : State) (c : ChanId) (w : StoreWork) : (s.commitTarget c w).notice.channelEnables = s.notice.channelEnables := (commitTarget_enables s c w).2.1
@[simp] theorem commitTarget_master (s : State) (c : ChanId) (w : StoreWork) : (s.commitTarget c w).notice.master = s.notice.master := (commitTarget_enables s c w).2.2

theorem completeTaken_enables (s : State) (c : ChanId) (sum : Option Word) :
    (s.completeTaken c sum).notice.stationEnables = s.notice.stationEnables
      ∧ (s.completeTaken c sum).notice.channelEnables = s.notice.channelEnables
      ∧ (s.completeTaken c sum).notice.master = s.notice.master := by
  simp only [State.completeTaken]; split <;> simp
@[simp] theorem completeTaken_stationEnables (s : State) (c : ChanId) (sum : Option Word) : (s.completeTaken c sum).notice.stationEnables = s.notice.stationEnables := (completeTaken_enables s c sum).1
@[simp] theorem completeTaken_channelEnables (s : State) (c : ChanId) (sum : Option Word) : (s.completeTaken c sum).notice.channelEnables = s.notice.channelEnables := (completeTaken_enables s c sum).2.1
@[simp] theorem completeTaken_master (s : State) (c : ChanId) (sum : Option Word) : (s.completeTaken c sum).notice.master = s.notice.master := (completeTaken_enables s c sum).2.2

theorem commitStore_enables (s : State) (c : ChanId) (w : StoreWork) :
    (s.commitStore c w).notice.stationEnables = s.notice.stationEnables
      ∧ (s.commitStore c w).notice.channelEnables = s.notice.channelEnables
      ∧ (s.commitStore c w).notice.master = s.notice.master := by
  simp only [State.commitStore]; split <;> simp
@[simp] theorem commitStore_stationEnables (s : State) (c : ChanId) (w : StoreWork) : (s.commitStore c w).notice.stationEnables = s.notice.stationEnables := (commitStore_enables s c w).1
@[simp] theorem commitStore_channelEnables (s : State) (c : ChanId) (w : StoreWork) : (s.commitStore c w).notice.channelEnables = s.notice.channelEnables := (commitStore_enables s c w).2.1
@[simp] theorem commitStore_master (s : State) (c : ChanId) (w : StoreWork) : (s.commitStore c w).notice.master = s.notice.master := (commitStore_enables s c w).2.2

theorem commit_enables (s : State) (c : ChanId) :
    (s.commit c).notice.stationEnables = s.notice.stationEnables
      ∧ (s.commit c).notice.channelEnables = s.notice.channelEnables
      ∧ (s.commit c).notice.master = s.notice.master := by
  simp only [State.commit]; repeat' split
  all_goals simp
@[simp] theorem commit_stationEnables (s : State) (c : ChanId) : (s.commit c).notice.stationEnables = s.notice.stationEnables := (commit_enables s c).1
@[simp] theorem commit_channelEnables (s : State) (c : ChanId) : (s.commit c).notice.channelEnables = s.notice.channelEnables := (commit_enables s c).2.1
@[simp] theorem commit_master (s : State) (c : ChanId) : (s.commit c).notice.master = s.notice.master := (commit_enables s c).2.2

theorem cutAll_enables (s : State) :
    s.cutAll.notice.stationEnables = s.notice.stationEnables
      ∧ s.cutAll.notice.channelEnables = s.notice.channelEnables
      ∧ s.cutAll.notice.master = s.notice.master := by
  refine ⟨?_, ?_, ?_⟩
  · unfold State.cutAll State.forChannels
    exact foldl_keep (π := fun u => u.notice.stationEnables)
      (f := fun (t : State) (c : ChanId) => if (t.cfg c).kind = .take then t.cut c else t)
      (fun t c => by split <;> simp) s chanList
  · unfold State.cutAll State.forChannels
    exact foldl_keep (π := fun u => u.notice.channelEnables)
      (f := fun (t : State) (c : ChanId) => if (t.cfg c).kind = .take then t.cut c else t)
      (fun t c => by split <;> simp) s chanList
  · unfold State.cutAll State.forChannels
    exact foldl_keep (π := fun u => u.notice.master)
      (f := fun (t : State) (c : ChanId) => if (t.cfg c).kind = .take then t.cut c else t)
      (fun t c => by split <;> simp) s chanList
@[simp] theorem cutAll_stationEnables (s : State) : s.cutAll.notice.stationEnables = s.notice.stationEnables := (cutAll_enables s).1
@[simp] theorem cutAll_channelEnables (s : State) : s.cutAll.notice.channelEnables = s.notice.channelEnables := (cutAll_enables s).2.1
@[simp] theorem cutAll_master (s : State) : s.cutAll.notice.master = s.notice.master := (cutAll_enables s).2.2

theorem dropFrame_enables (s : State) (c : ChanId) :
    (s.dropFrame c).notice.stationEnables = s.notice.stationEnables
      ∧ (s.dropFrame c).notice.channelEnables = s.notice.channelEnables
      ∧ (s.dropFrame c).notice.master = s.notice.master := by
  simp [State.dropFrame]
@[simp] theorem dropFrame_stationEnables (s : State) (c : ChanId) : (s.dropFrame c).notice.stationEnables = s.notice.stationEnables := (dropFrame_enables s c).1
@[simp] theorem dropFrame_channelEnables (s : State) (c : ChanId) : (s.dropFrame c).notice.channelEnables = s.notice.channelEnables := (dropFrame_enables s c).2.1
@[simp] theorem dropFrame_master (s : State) (c : ChanId) : (s.dropFrame c).notice.master = s.notice.master := (dropFrame_enables s c).2.2

theorem storePublished_enables (s : State) (c : ChanId) (k : SlotCopy) (p : List Byte) :
    (s.storePublished c k p).notice.stationEnables = s.notice.stationEnables
      ∧ (s.storePublished c k p).notice.channelEnables = s.notice.channelEnables
      ∧ (s.storePublished c k p).notice.master = s.notice.master := by
  simp [State.storePublished]
@[simp] theorem storePublished_stationEnables (s : State) (c : ChanId) (k : SlotCopy) (p : List Byte) : (s.storePublished c k p).notice.stationEnables = s.notice.stationEnables := (storePublished_enables s c k p).1
@[simp] theorem storePublished_channelEnables (s : State) (c : ChanId) (k : SlotCopy) (p : List Byte) : (s.storePublished c k p).notice.channelEnables = s.notice.channelEnables := (storePublished_enables s c k p).2.1
@[simp] theorem storePublished_master (s : State) (c : ChanId) (k : SlotCopy) (p : List Byte) : (s.storePublished c k p).notice.master = s.notice.master := (storePublished_enables s c k p).2.2

theorem subscribed_enables (s : State) (c : ChanId) (f : Frame) :
    (s.subscribed c f).notice.stationEnables = s.notice.stationEnables
      ∧ (s.subscribed c f).notice.channelEnables = s.notice.channelEnables
      ∧ (s.subscribed c f).notice.master = s.notice.master := by
  have h := search_enables s c
  simp only [State.subscribed]; repeat' split
  all_goals simp_all
@[simp] theorem subscribed_stationEnables (s : State) (c : ChanId) (f : Frame) : (s.subscribed c f).notice.stationEnables = s.notice.stationEnables := (subscribed_enables s c f).1
@[simp] theorem subscribed_channelEnables (s : State) (c : ChanId) (f : Frame) : (s.subscribed c f).notice.channelEnables = s.notice.channelEnables := (subscribed_enables s c f).2.1
@[simp] theorem subscribed_master (s : State) (c : ChanId) (f : Frame) : (s.subscribed c f).notice.master = s.notice.master := (subscribed_enables s c f).2.2

theorem publishHeard_enables (s : State) (f : Frame) :
    (s.publishHeard f).notice.stationEnables = s.notice.stationEnables
      ∧ (s.publishHeard f).notice.channelEnables = s.notice.channelEnables
      ∧ (s.publishHeard f).notice.master = s.notice.master := by
  unfold State.publishHeard; split <;> simp
@[simp] theorem publishHeard_stationEnables (s : State) (f : Frame) : (s.publishHeard f).notice.stationEnables = s.notice.stationEnables := (publishHeard_enables s f).1
@[simp] theorem publishHeard_channelEnables (s : State) (f : Frame) : (s.publishHeard f).notice.channelEnables = s.notice.channelEnables := (publishHeard_enables s f).2.1
@[simp] theorem publishHeard_master (s : State) (f : Frame) : (s.publishHeard f).notice.master = s.notice.master := (publishHeard_enables s f).2.2

theorem abandonLatch_enables (s : State) :
    s.abandonLatch.notice.stationEnables = s.notice.stationEnables
      ∧ s.abandonLatch.notice.channelEnables = s.notice.channelEnables
      ∧ s.abandonLatch.notice.master = s.notice.master := by
  simp only [State.abandonLatch]; repeat' split
  all_goals simp
@[simp] theorem abandonLatch_stationEnables (s : State) : s.abandonLatch.notice.stationEnables = s.notice.stationEnables := (abandonLatch_enables s).1
@[simp] theorem abandonLatch_channelEnables (s : State) : s.abandonLatch.notice.channelEnables = s.notice.channelEnables := (abandonLatch_enables s).2.1
@[simp] theorem abandonLatch_master (s : State) : s.abandonLatch.notice.master = s.notice.master := (abandonLatch_enables s).2.2

theorem withdraw_enables (s : State) :
    s.withdraw.notice.stationEnables = s.notice.stationEnables
      ∧ s.withdraw.notice.channelEnables = s.notice.channelEnables
      ∧ s.withdraw.notice.master = s.notice.master := by
  simp [State.withdraw]
@[simp] theorem withdraw_stationEnables (s : State) : s.withdraw.notice.stationEnables = s.notice.stationEnables := (withdraw_enables s).1
@[simp] theorem withdraw_channelEnables (s : State) : s.withdraw.notice.channelEnables = s.notice.channelEnables := (withdraw_enables s).2.1
@[simp] theorem withdraw_master (s : State) : s.withdraw.notice.master = s.notice.master := (withdraw_enables s).2.2

theorem enterRestart_enables (s : State) (k : EntryCause) :
    (s.enterRestart k).notice.stationEnables = s.notice.stationEnables
      ∧ (s.enterRestart k).notice.channelEnables = s.notice.channelEnables
      ∧ (s.enterRestart k).notice.master = s.notice.master := by
  simp [State.enterRestart]
@[simp] theorem enterRestart_stationEnables (s : State) (k : EntryCause) : (s.enterRestart k).notice.stationEnables = s.notice.stationEnables := (enterRestart_enables s k).1
@[simp] theorem enterRestart_channelEnables (s : State) (k : EntryCause) : (s.enterRestart k).notice.channelEnables = s.notice.channelEnables := (enterRestart_enables s k).2.1
@[simp] theorem enterRestart_master (s : State) (k : EntryCause) : (s.enterRestart k).notice.master = s.notice.master := (enterRestart_enables s k).2.2

theorem enterSafe_enables (s : State) (k : SafeFault) :
    (s.enterSafe k).notice.stationEnables = s.notice.stationEnables
      ∧ (s.enterSafe k).notice.channelEnables = s.notice.channelEnables
      ∧ (s.enterSafe k).notice.master = s.notice.master := by
  simp [State.enterSafe]
@[simp] theorem enterSafe_stationEnables (s : State) (k : SafeFault) : (s.enterSafe k).notice.stationEnables = s.notice.stationEnables := (enterSafe_enables s k).1
@[simp] theorem enterSafe_channelEnables (s : State) (k : SafeFault) : (s.enterSafe k).notice.channelEnables = s.notice.channelEnables := (enterSafe_enables s k).2.1
@[simp] theorem enterSafe_master (s : State) (k : SafeFault) : (s.enterSafe k).notice.master = s.notice.master := (enterSafe_enables s k).2.2

theorem enterSleep_enables (s : State) (k : EntryCause) :
    (s.enterSleep k).notice.stationEnables = s.notice.stationEnables
      ∧ (s.enterSleep k).notice.channelEnables = s.notice.channelEnables
      ∧ (s.enterSleep k).notice.master = s.notice.master := by
  simp [State.enterSleep]
@[simp] theorem enterSleep_stationEnables (s : State) (k : EntryCause) : (s.enterSleep k).notice.stationEnables = s.notice.stationEnables := (enterSleep_enables s k).1
@[simp] theorem enterSleep_channelEnables (s : State) (k : EntryCause) : (s.enterSleep k).notice.channelEnables = s.notice.channelEnables := (enterSleep_enables s k).2.1
@[simp] theorem enterSleep_master (s : State) (k : EntryCause) : (s.enterSleep k).notice.master = s.notice.master := (enterSleep_enables s k).2.2

theorem enterSleepFromSafe_enables (s : State) (k : EntryCause) :
    (s.enterSleepFromSafe k).notice.stationEnables = s.notice.stationEnables
      ∧ (s.enterSleepFromSafe k).notice.channelEnables = s.notice.channelEnables
      ∧ (s.enterSleepFromSafe k).notice.master = s.notice.master := by
  simp [State.enterSleepFromSafe]
@[simp] theorem enterSleepFromSafe_stationEnables (s : State) (k : EntryCause) : (s.enterSleepFromSafe k).notice.stationEnables = s.notice.stationEnables := (enterSleepFromSafe_enables s k).1
@[simp] theorem enterSleepFromSafe_channelEnables (s : State) (k : EntryCause) : (s.enterSleepFromSafe k).notice.channelEnables = s.notice.channelEnables := (enterSleepFromSafe_enables s k).2.1
@[simp] theorem enterSleepFromSafe_master (s : State) (k : EntryCause) : (s.enterSleepFromSafe k).notice.master = s.notice.master := (enterSleepFromSafe_enables s k).2.2

theorem enterListen_enables (s : State) :
    s.enterListen.notice.stationEnables = s.notice.stationEnables
      ∧ s.enterListen.notice.channelEnables = s.notice.channelEnables
      ∧ s.enterListen.notice.master = s.notice.master := by
  simp [State.enterListen]
@[simp] theorem enterListen_stationEnables (s : State) : s.enterListen.notice.stationEnables = s.notice.stationEnables := (enterListen_enables s).1
@[simp] theorem enterListen_channelEnables (s : State) : s.enterListen.notice.channelEnables = s.notice.channelEnables := (enterListen_enables s).2.1
@[simp] theorem enterListen_master (s : State) : s.enterListen.notice.master = s.notice.master := (enterListen_enables s).2.2

theorem enterActive_enables (s : State) :
    s.enterActive.notice.stationEnables = s.notice.stationEnables
      ∧ s.enterActive.notice.channelEnables = s.notice.channelEnables
      ∧ s.enterActive.notice.master = s.notice.master := by
  simp [State.enterActive]
@[simp] theorem enterActive_stationEnables (s : State) : s.enterActive.notice.stationEnables = s.notice.stationEnables := (enterActive_enables s).1
@[simp] theorem enterActive_channelEnables (s : State) : s.enterActive.notice.channelEnables = s.notice.channelEnables := (enterActive_enables s).2.1
@[simp] theorem enterActive_master (s : State) : s.enterActive.notice.master = s.notice.master := (enterActive_enables s).2.2

theorem escalate_enables (s : State) :
    s.escalate.notice.stationEnables = s.notice.stationEnables
      ∧ s.escalate.notice.channelEnables = s.notice.channelEnables
      ∧ s.escalate.notice.master = s.notice.master := by
  unfold State.escalate; split <;> simp
@[simp] theorem escalate_stationEnables (s : State) : s.escalate.notice.stationEnables = s.notice.stationEnables := (escalate_enables s).1
@[simp] theorem escalate_channelEnables (s : State) : s.escalate.notice.channelEnables = s.notice.channelEnables := (escalate_enables s).2.1
@[simp] theorem escalate_master (s : State) : s.escalate.notice.master = s.notice.master := (escalate_enables s).2.2

theorem reportRise_enables (s : State) (n : Nat) :
    (s.reportRise n).notice.stationEnables = s.notice.stationEnables
      ∧ (s.reportRise n).notice.channelEnables = s.notice.channelEnables
      ∧ (s.reportRise n).notice.master = s.notice.master := by
  simp only [State.reportRise]; repeat' split
  all_goals simp
@[simp] theorem reportRise_stationEnables (s : State) (n : Nat) : (s.reportRise n).notice.stationEnables = s.notice.stationEnables := (reportRise_enables s n).1
@[simp] theorem reportRise_channelEnables (s : State) (n : Nat) : (s.reportRise n).notice.channelEnables = s.notice.channelEnables := (reportRise_enables s n).2.1
@[simp] theorem reportRise_master (s : State) (n : Nat) : (s.reportRise n).notice.master = s.notice.master := (reportRise_enables s n).2.2

theorem reportClash_enables (s : State) :
    s.reportClash.notice.stationEnables = s.notice.stationEnables
      ∧ s.reportClash.notice.channelEnables = s.notice.channelEnables
      ∧ s.reportClash.notice.master = s.notice.master := by
  unfold State.reportClash; split <;> simp
@[simp] theorem reportClash_stationEnables (s : State) : s.reportClash.notice.stationEnables = s.notice.stationEnables := (reportClash_enables s).1
@[simp] theorem reportClash_channelEnables (s : State) : s.reportClash.notice.channelEnables = s.notice.channelEnables := (reportClash_enables s).2.1
@[simp] theorem reportClash_master (s : State) : s.reportClash.notice.master = s.notice.master := (reportClash_enables s).2.2

theorem wakeEvent_enables (s : State) :
    s.wakeEvent.notice.stationEnables = s.notice.stationEnables
      ∧ s.wakeEvent.notice.channelEnables = s.notice.channelEnables
      ∧ s.wakeEvent.notice.master = s.notice.master := by
  unfold State.wakeEvent; repeat' split
  all_goals simp
@[simp] theorem wakeEvent_stationEnables (s : State) : s.wakeEvent.notice.stationEnables = s.notice.stationEnables := (wakeEvent_enables s).1
@[simp] theorem wakeEvent_channelEnables (s : State) : s.wakeEvent.notice.channelEnables = s.notice.channelEnables := (wakeEvent_enables s).2.1
@[simp] theorem wakeEvent_master (s : State) : s.wakeEvent.notice.master = s.notice.master := (wakeEvent_enables s).2.2

theorem ownerOutcome_enables (s : State) (a : Attempt) (o : AttemptOutcome) :
    (s.ownerOutcome a o).notice.stationEnables = s.notice.stationEnables
      ∧ (s.ownerOutcome a o).notice.channelEnables = s.notice.channelEnables
      ∧ (s.ownerOutcome a o).notice.master = s.notice.master := by
  unfold State.ownerOutcome; repeat' split
  all_goals simp
@[simp] theorem ownerOutcome_stationEnables (s : State) (a : Attempt) (o : AttemptOutcome) : (s.ownerOutcome a o).notice.stationEnables = s.notice.stationEnables := (ownerOutcome_enables s a o).1
@[simp] theorem ownerOutcome_channelEnables (s : State) (a : Attempt) (o : AttemptOutcome) : (s.ownerOutcome a o).notice.channelEnables = s.notice.channelEnables := (ownerOutcome_enables s a o).2.1
@[simp] theorem ownerOutcome_master (s : State) (a : Attempt) (o : AttemptOutcome) : (s.ownerOutcome a o).notice.master = s.notice.master := (ownerOutcome_enables s a o).2.2

theorem outcomeReports_enables (s : State) (o : AttemptOutcome) :
    (s.outcomeReports o).notice.stationEnables = s.notice.stationEnables
      ∧ (s.outcomeReports o).notice.channelEnables = s.notice.channelEnables
      ∧ (s.outcomeReports o).notice.master = s.notice.master := by
  unfold State.outcomeReports; split <;> simp
@[simp] theorem outcomeReports_stationEnables (s : State) (o : AttemptOutcome) : (s.outcomeReports o).notice.stationEnables = s.notice.stationEnables := (outcomeReports_enables s o).1
@[simp] theorem outcomeReports_channelEnables (s : State) (o : AttemptOutcome) : (s.outcomeReports o).notice.channelEnables = s.notice.channelEnables := (outcomeReports_enables s o).2.1
@[simp] theorem outcomeReports_master (s : State) (o : AttemptOutcome) : (s.outcomeReports o).notice.master = s.notice.master := (outcomeReports_enables s o).2.2

theorem handOver_enables (s : State) (o : AttemptOutcome) :
    (s.handOver o).notice.stationEnables = s.notice.stationEnables
      ∧ (s.handOver o).notice.channelEnables = s.notice.channelEnables
      ∧ (s.handOver o).notice.master = s.notice.master := by
  unfold State.handOver; split <;> simp
@[simp] theorem handOver_stationEnables (s : State) (o : AttemptOutcome) : (s.handOver o).notice.stationEnables = s.notice.stationEnables := (handOver_enables s o).1
@[simp] theorem handOver_channelEnables (s : State) (o : AttemptOutcome) : (s.handOver o).notice.channelEnables = s.notice.channelEnables := (handOver_enables s o).2.1
@[simp] theorem handOver_master (s : State) (o : AttemptOutcome) : (s.handOver o).notice.master = s.notice.master := (handOver_enables s o).2.2

theorem finishQuiet_enables (s : State) :
    s.finishQuiet.notice.stationEnables = s.notice.stationEnables
      ∧ s.finishQuiet.notice.channelEnables = s.notice.channelEnables
      ∧ s.finishQuiet.notice.master = s.notice.master := by
  unfold State.finishQuiet; split <;> simp
@[simp] theorem finishQuiet_stationEnables (s : State) : s.finishQuiet.notice.stationEnables = s.notice.stationEnables := (finishQuiet_enables s).1
@[simp] theorem finishQuiet_channelEnables (s : State) : s.finishQuiet.notice.channelEnables = s.notice.channelEnables := (finishQuiet_enables s).2.1
@[simp] theorem finishQuiet_master (s : State) : s.finishQuiet.notice.master = s.notice.master := (finishQuiet_enables s).2.2

theorem endAttempt_enables (s : State) (o : AttemptOutcome) :
    (s.endAttempt o).notice.stationEnables = s.notice.stationEnables
      ∧ (s.endAttempt o).notice.channelEnables = s.notice.channelEnables
      ∧ (s.endAttempt o).notice.master = s.notice.master := by
  simp only [State.endAttempt]; split <;> simp
@[simp] theorem endAttempt_stationEnables (s : State) (o : AttemptOutcome) : (s.endAttempt o).notice.stationEnables = s.notice.stationEnables := (endAttempt_enables s o).1
@[simp] theorem endAttempt_channelEnables (s : State) (o : AttemptOutcome) : (s.endAttempt o).notice.channelEnables = s.notice.channelEnables := (endAttempt_enables s o).2.1
@[simp] theorem endAttempt_master (s : State) (o : AttemptOutcome) : (s.endAttempt o).notice.master = s.notice.master := (endAttempt_enables s o).2.2

end Sys2Proof.Machine.State
end

