-- ==== Sys2Proof/Laws/Modes.lean ====
section
/-! SUPPORT. What the shared operations of the modes do, said once: the cut of a TAKE channel, the end of an attempt by
ABANDONED, the withdrawal, and the entries to RESTART, SAFE and SLEEP. -/

namespace Sys2Proof.Machine.State

/-! ### ABANDONED (R35, R89, R122) -/

/-- ABANDONED changes nothing at a channel but for a deferred HALT and the look at the offer. -/
theorem channelOutcome_abandoned (s : State) (c : ChanId) (img : Frame) :
    s.channelOutcome c img .abandoned = s.settleHalt c := by
  unfold channelOutcome
  cases (s.cfg c).kind <;> rfl

@[simp] theorem settleHalt_slots (s : State) (c : ChanId) : (s.settleHalt c).slots = s.slots := by
  unfold settleHalt; split <;> simp

@[simp] theorem settleHalt_presence' (s : State) (c : ChanId) : (s.settleHalt c).presence = s.presence := by
  unfold settleHalt; split <;> simp

/-- The deferred HALT touches the context of its own channel only. -/
theorem settleHalt_ctx_ne (s : State) {c d : ChanId} (h : d ≠ c) : (s.settleHalt c).ctx d = s.ctx d := by
  unfold settleHalt
  split
  · exact enterHalted_ctx_ne s _ h
  · simp

/-- The deferred HALT keeps what a context holds beside state, cause, timers and flag. -/
theorem settleHalt_acceptance (s : State) (c d : ChanId) :
    ((s.settleHalt c).ctx d).acceptance = (s.ctx d).acceptance := by
  by_cases h : d = c
  · subst h; unfold settleHalt; split <;> simp
  · rw [settleHalt_ctx_ne s h]

/-- The deferred HALT keeps a current descriptor. -/
theorem settleHalt_current (s : State) (c d : ChanId) : ((s.settleHalt c).ctx d).current = (s.ctx d).current := by
  by_cases h : d = c
  · subst h; unfold settleHalt; split <;> simp
  · rw [settleHalt_ctx_ne s h]

/-- What an ABANDONED attempt leaves. -/
theorem abandonLatch_spec (s : State) :
    s.abandonLatch.arb.latch = none ∧ s.abandonLatch.arb.pointers = s.arb.pointers
      ∧ s.abandonLatch.arb.beaconOffer = s.arb.beaconOffer ∧ s.abandonLatch.arb.announceOffer = s.arb.announceOffer
      ∧ s.abandonLatch.presence = s.presence ∧ s.abandonLatch.slots = s.slots
      ∧ (∀ d, (s.abandonLatch.ctx d).current = (s.ctx d).current)
      ∧ ∀ d, s.ownsLatch d = false → s.abandonLatch.ctx d = s.ctx d := by
  unfold abandonLatch
  split
  · rename_i h; simp [h]
  · rename_i a h
    dsimp only
    split
    · rename_i c img ho hf
      rw [channelOutcome_abandoned]
      refine ⟨by simp, by simp, by simp, by simp, by simp, by simp, ?_, ?_⟩
      · intro d; rw [settleHalt_current]; simp
      · intro d hd
        have : d ≠ c := by
          intro e
          subst e
          simp [ownsLatch, h, ho] at hd
        rw [settleHalt_ctx_ne _ this]; simp
    · simp

/-! ### Cuts (R114, R116) -/

/-- A write-back touches its own slot only. -/
theorem writeBack_slot_ne (s : State) (c : ChanId) {i j : SlotId} (st : Status) (n : Nat) (e : Option Bool) (h : j ≠ i) :
    (s.writeBack c i st n e).slot j = s.slot j := by
  have hr : ∀ t : State, (t.raiseDone c).slot j = t.slot j := fun t => rfl
  unfold writeBack
  dsimp only
  split
  · rw [hr]; exact modSlot_slot_ne s _ h
  · exact modSlot_slot_ne s _ h

theorem holdAfter_ctx_ne (s : State) {c d : ChanId} (b : Bool) (h : d ≠ c) : (s.holdAfter c b).ctx d = s.ctx d := by
  unfold holdAfter
  split
  · exact modCtx_ctx_ne s _ h
  · rfl

theorem closeCurrent_ctx_ne (s : State) {c d : ChanId} (k : SlotCopy) (st : Status) (e : Bool) (h : d ≠ c) :
    (s.closeCurrent c k st e).ctx d = s.ctx d := by
  unfold closeCurrent
  dsimp only
  rw [holdAfter_ctx_ne _ _ h]; simp

/-- A cut touches the context of its own channel only. -/
theorem cut_ctx_ne (s : State) {c d : ChanId} (h : d ≠ c) : (s.cut c).ctx d = s.ctx d := by
  unfold cut
  split
  · rw [modCtx_ctx_ne _ _ h, closeCurrent_ctx_ne _ _ _ _ h]
  · rfl

/-- After a cut there is no current descriptor. -/
@[simp] theorem cut_current (s : State) (c : ChanId) : ((s.cut c).ctx c).current = none := by
  unfold cut
  split
  · simp [Context.endMessage]
  · assumption

/-- A cut keeps the acceptance record. -/
theorem cut_acceptance (s : State) (c d : ChanId) : ((s.cut c).ctx d).acceptance = (s.ctx d).acceptance := by
  by_cases h : d = c
  · subst h
    unfold cut
    split
    · simp only [modCtx_ctx_same, Context.endMessage, closeCurrent]
      unfold holdAfter
      split <;> simp
    · rfl
  · rw [cut_ctx_ne s h]

/-- A cut writes back the current descriptor's slot only. -/
theorem cut_slot (s : State) (c : ChanId) (i : SlotId) (h : ((s.ctx c).current.map (·.slot)) ≠ some i) :
    (s.cut c).slot i = s.slot i := by
  unfold cut
  split
  · rename_i d hd
    have hne : i ≠ d.slot := by
      intro e
      apply h
      rw [hd, e]; rfl
    simp only [modCtx_slot, closeCurrent]
    have hh : ∀ (t : State) (b : Bool), (t.holdAfter c b).slot i = t.slot i := by
      intro t b; unfold holdAfter; split <;> simp
    rw [hh]
    exact writeBack_slot_ne s c _ _ _ hne
  · rfl

/-- A context that holds no acceptance record. -/
theorem context_without_acceptance {x : Context} (h : x.acceptance = none) : { x with acceptance := none } = x := by
  cases x; cases h; rfl

/-- A cut of an open message: its context, its slot and its DONE flag (R114, R115). -/
theorem cut_open (s : State) (c : ChanId) (d : SlotCopy) (h : (s.ctx c).current = some d) :
    { (s.cut c).ctx c with acceptance := none } =
        (s.ctx c).withdrawn ((s.slot d.slot).notify && (s.slot d.slot).hold)
      ∧ (s.cut c).slot d.slot = (s.slot d.slot).cutBy (s.ctx c)
      ∧ (s.cut c).notice.channels.get c =
          { s.notice.channels.get c with done := (s.notice.channels.get c).done || (s.slot d.slot).notify } := by
  have hs : ∀ (t : State) (b : Bool) (i : SlotId), (t.holdAfter c b).slot i = t.slot i := by
    intro t b i; unfold holdAfter; split <;> simp
  have hn : ∀ (t : State) (b : Bool), (t.holdAfter c b).notice = t.notice := by
    intro t b; unfold holdAfter; split <;> simp
  have hw : ∀ i, (s.writeBack c d.slot .cut i (some true)).ctx c = s.ctx c := fun i => by simp
  have hcut : s.cut c = (s.closeCurrent c d .cut true).modCtx c Context.endMessage := by
    unfold cut; rw [h]
  refine ⟨?_, ?_, ?_⟩
  · rw [hcut, modCtx_ctx_same]
    unfold closeCurrent holdAfter
    dsimp only
    rw [hw]
    unfold Slot.holds Context.withdrawn Context.endMessage
    split <;> simp_all [ChainAcc.cleared]
  · rw [hcut]
    simp only [modCtx_slot, closeCurrent, hs]
    unfold writeBack
    dsimp only
    split
    · have hr : ∀ t : State, (t.raiseDone c).slot d.slot = t.slot d.slot := fun t => rfl
      rw [hr, modSlot_slot_same]; rfl
    · rw [modSlot_slot_same]; rfl
  · rw [hcut]
    simp only [modCtx_notice, closeCurrent, hn]
    unfold writeBack raiseDone modChanFlags
    dsimp only
    split <;> rename_i hd <;> simp [hd]

/-- A cut sets no flag of another channel. -/
theorem cut_flags_ne (s : State) {c e : ChanId} (h : e ≠ c) :
    (s.cut c).notice.channels.get e = s.notice.channels.get e := by
  have hn : ∀ (t : State) (b : Bool), (t.holdAfter c b).notice = t.notice := by
    intro t b; unfold holdAfter; split <;> simp
  unfold cut
  split
  · simp only [modCtx_notice, closeCurrent, hn]
    unfold writeBack raiseDone modChanFlags
    dsimp only
    split
    · exact Table.get_set_ne _ _ h
    · rfl
  · rfl

/-- A cut touches no station flag and no changed mark. -/
theorem cut_stationFlags (s : State) (c : ChanId) :
    (s.cut c).notice.station = s.notice.station ∧ (s.cut c).notice.marks = s.notice.marks := by
  have hn : ∀ (t : State) (b : Bool), (t.holdAfter c b).notice = t.notice := by
    intro t b; unfold holdAfter; split <;> simp
  unfold cut
  split
  · simp only [modCtx_notice, closeCurrent, hn]
    unfold writeBack raiseDone modChanFlags
    dsimp only
    split <;> exact ⟨rfl, rfl⟩
  · exact ⟨rfl, rfl⟩

/-- A cut without an open message is none. -/
theorem cut_none (s : State) (c : ChanId) (h : (s.ctx c).current = none) : s.cut c = s := by
  unfold cut; rw [h]

/-- The cuts of a withdrawal, over a list of channels. -/
abbrev cutList (l : List ChanId) (s : State) : State :=
  l.foldl (fun (t : State) (c : ChanId) => if (t.cfg c).kind = .take then t.cut c else t) s

/-- What the cuts of a withdrawal leave, over a list of channels without repetition. -/
theorem cutList_spec (l : List ChanId) (hl : l.Nodup) (s : State) :
    (cutList l s).configs = s.configs
      ∧ (∀ c, ((cutList l s).ctx c).acceptance = (s.ctx c).acceptance)
      ∧ (∀ c, c ∈ l → (s.cfg c).kind = .take → ((cutList l s).ctx c).current = none)
      ∧ (∀ c, (c ∉ l ∨ (s.cfg c).kind ≠ .take) → (cutList l s).ctx c = s.ctx c)
      ∧ (∀ i, (∀ c, (s.cfg c).kind = .take → ((s.ctx c).current.map (·.slot)) ≠ some i) →
          (cutList l s).slot i = s.slot i) := by
  induction l generalizing s with
  | nil => simp
  | cons a l ih =>
    have hd := List.nodup_cons.1 hl
    unfold cutList
    dsimp only [List.foldl_cons]
    by_cases ha : (s.cfg a).kind = .take
    · rw [if_pos ha]
      obtain ⟨h1, h2, h3, h4, h5⟩ := ih hd.2 (s.cut a)
      refine ⟨by rw [h1]; simp, ?_, ?_, ?_, ?_⟩
      · intro c; rw [h2 c, cut_acceptance]
      · intro c hc hk
        rcases List.mem_cons.1 hc with rfl | hc
        · rw [h4 c (Or.inl hd.1)]; simp
        · exact h3 c hc (by simpa using hk)
      · intro c hc
        have hca : c ≠ a := by
          rintro rfl
          rcases hc with hc | hc
          · exact hc List.mem_cons_self
          · exact hc ha
        rw [h4 c (hc.imp (fun h hm => h (List.mem_cons_of_mem _ hm)) (fun h => by simpa using h)), cut_ctx_ne s hca]
      · intro i hi
        rw [h5 i, cut_slot s a i (hi a ha)]
        intro c hk
        by_cases hca : c = a
        · subst hca; simp
        · rw [cut_ctx_ne s hca]; exact hi c (by simpa using hk)
    · rw [if_neg ha]
      obtain ⟨h1, h2, h3, h4, h5⟩ := ih hd.2 s
      refine ⟨h1, h2, ?_, ?_, h5⟩
      · intro c hc hk
        rcases List.mem_cons.1 hc with rfl | hc
        · exact absurd hk ha
        · exact h3 c hc hk
      · intro c hc
        rcases hc with hc | hc
        · exact h4 c (Or.inl fun hm => hc (List.mem_cons_of_mem _ hm))
        · exact h4 c (Or.inr hc)

/-- The flags after the cuts of a withdrawal: those of the channels without an open message, the station's and the marks. -/
theorem cutList_flags (l : List ChanId) (s : State) :
    (∀ c, (s.cfg c).kind ≠ .take ∨ (s.ctx c).current = none ∨ c ∉ l →
        (cutList l s).notice.channels.get c = s.notice.channels.get c)
      ∧ (cutList l s).notice.station = s.notice.station ∧ (cutList l s).notice.marks = s.notice.marks := by
  induction l generalizing s with
  | nil => simp
  | cons a l ih =>
    unfold cutList
    dsimp only [List.foldl_cons]
    by_cases ha : (s.cfg a).kind = .take
    · rw [if_pos ha]
      obtain ⟨h1, h2, h3⟩ := ih (s.cut a)
      refine ⟨?_, h2.trans (cut_stationFlags s a).1, h3.trans (cut_stationFlags s a).2⟩
      intro c hc
      by_cases hca : c = a
      · subst hca
        have hn : (s.ctx c).current = none := by
          rcases hc with hc | hc | hc
          · exact absurd ha hc
          · exact hc
          · exact absurd List.mem_cons_self hc
        rw [h1 c (Or.inr (Or.inl (by simp))), cut_none s c hn]
      · rw [h1 c, cut_flags_ne s hca]
        rcases hc with hc | hc | hc
        · exact Or.inl (by simpa using hc)
        · exact Or.inr (Or.inl (by rw [cut_ctx_ne s hca]; exact hc))
        · exact Or.inr (Or.inr fun hm => hc (List.mem_cons_of_mem _ hm))
    · rw [if_neg ha]
      obtain ⟨h1, h2, h3⟩ := ih s
      refine ⟨?_, h2, h3⟩
      intro c hc
      rcases hc with hc | hc | hc
      · exact h1 c (Or.inl hc)
      · exact h1 c (Or.inr (Or.inl hc))
      · exact h1 c (Or.inr (Or.inr fun hm => hc (List.mem_cons_of_mem _ hm)))

/-- A channel without an open message after the cuts of a withdrawal. -/
theorem cutList_idle (l : List ChanId) (s : State) (c : ChanId) (h : (s.ctx c).current = none) :
    (cutList l s).ctx c = s.ctx c := by
  induction l generalizing s with
  | nil => rfl
  | cons a l ih =>
    unfold cutList
    dsimp only [List.foldl_cons]
    split
    · by_cases hca : c = a
      · subst hca; rw [cut_none s c h]; exact ih s h
      · have := ih (s.cut a) (by rw [cut_ctx_ne s hca]; exact h)
        rw [cut_ctx_ne s hca] at this
        exact this
    · exact ih s h

/-- The channels after the cuts of a withdrawal, over a list without repetition: an open message whose slot no other channel
fills is cut as R114 gives. -/
theorem cutList_open (l : List ChanId) (hl : l.Nodup) (s : State) (c : ChanId) (d : SlotCopy) (hc : c ∈ l)
    (hk : (s.cfg c).kind = .take) (ho : (s.ctx c).current = some d)
    (hu : ∀ e, e ≠ c → (s.cfg e).kind = .take → ((s.ctx e).current.map (·.slot)) ≠ some d.slot) :
    { (cutList l s).ctx c with acceptance := none } =
        (s.ctx c).withdrawn ((s.slot d.slot).notify && (s.slot d.slot).hold)
      ∧ (cutList l s).slot d.slot = (s.slot d.slot).cutBy (s.ctx c)
      ∧ (cutList l s).notice.channels.get c =
          { s.notice.channels.get c with done := (s.notice.channels.get c).done || (s.slot d.slot).notify } := by
  induction l generalizing s with
  | nil => cases hc
  | cons a l ih =>
    have hd := List.nodup_cons.1 hl
    unfold cutList
    dsimp only [List.foldl_cons]
    by_cases hca : c = a
    · subst hca
      rw [if_pos hk]
      obtain ⟨e1, e2, e3⟩ := cut_open s c d ho
      obtain ⟨-, -, -, h4, h5⟩ := cutList_spec l hd.2 (s.cut c)
      refine ⟨?_, ?_, ?_⟩
      · rw [h4 c (Or.inl hd.1)]; exact e1
      · rw [h5 d.slot, e2]
        intro e he
        by_cases hec : e = c
        · subst hec; simp
        · rw [cut_ctx_ne s hec]; exact hu e hec (by simpa using he)
      · rw [(cutList_flags l (s.cut c)).1 c (Or.inr (Or.inr hd.1)), e3]
    · have hcl : c ∈ l := by
        rcases List.mem_cons.1 hc with h | h
        · exact absurd h hca
        · exact h
      by_cases ha : (s.cfg a).kind = .take
      · rw [if_pos ha]
        have hx : (s.cut a).ctx c = s.ctx c := cut_ctx_ne s hca
        have hs : (s.cut a).slot d.slot = s.slot d.slot := cut_slot s a _ (hu a (fun e => hca e.symm) ha)
        have := ih hd.2 (s.cut a) hcl (by simpa using hk) (by rw [hx]; exact ho) (by
          intro e he hek
          by_cases hea : e = a
          · subst hea; simp
          · rw [cut_ctx_ne s hea]; exact hu e he (by simpa using hek))
        rw [hx, hs, cut_flags_ne s hca] at this
        exact this
      · rw [if_neg ha]
        exact ih hd.2 s hcl hk ho hu

/-! ### Withdrawal and the entries (R154, R153, R157, R171) -/

/-- The Presence Table after it is cleared (R138). -/
theorem presenceClear_presence (s : State) :
    s.presenceClear.presence.settle = none
      ∧ ∀ a, s.presenceClear.entry a = if (s.entry a).state = .self then s.entry a else Entry.absent := by
  unfold presenceClear updateEntries replaceEntries
  constructor
  · simp [withEntries]
  · intro a
    by_cases h : (s.presence.entries.get a).state = .self <;> simp [entry, withEntries, h]

/-- The notices after the table is cleared (R138, R139). -/
theorem presenceClear_notice (s : State) :
    (∀ c, s.presenceClear.notice.channels.get c = s.notice.channels.get c)
      ∧ (∀ a, s.presenceClear.notice.marks.get a = true ↔ s.notice.marks.get a = true ∨ (s.entry a).clears)
      ∧ (s.presenceClear.notice.station.peers = true ↔ s.notice.station.peers = true ∨ ∃ a, (s.entry a).clears)
      ∧ s.presenceClear.notice.station.refused = s.notice.station.refused
      ∧ s.presenceClear.notice.station.warn = s.notice.station.warn := by
  have hm : ∀ a : Station,
      ((s.presence.entries.get a).changed
        ((s.presence.entries.mapIdx fun _ e => if e.state = .self then e else Entry.absent).get a)) = true
        ↔ (s.entry a).clears := by
    intro a
    show _ ↔ (s.presence.entries.get a).clears
    rw [Table.get_mapIdx]
    generalize s.presence.entries.get a = e
    unfold Entry.changed Entry.clears Entry.absent
    cases hst : e.state <;> simp [hst]
  unfold presenceClear updateEntries replaceEntries
  have hl : ∀ (t : State) (p : ChanId → Bool), (t.lookWhere p).notice = t.notice := fun t p => by simp
  rw [hl]
  refine ⟨fun c => rfl, fun a => ?_, ?_, rfl, rfl⟩
  · show (Table.mapIdx _ _).get a = true ↔ _
    rw [Table.get_mapIdx, Bool.or_eq_true, hm]
  · show (_ || stationList.any _) = true ↔ _
    rw [Bool.or_eq_true, List.any_eq_true]
    refine or_congr Iff.rfl ⟨fun ⟨a, _, h⟩ => ⟨a, (hm a).1 h⟩, fun ⟨a, h⟩ => ⟨a, List.mem_finRange a, (hm a).2 h⟩⟩

/-- The flags after an ABANDONED attempt: only its owner's may be set, by a deferred HALT. -/
theorem abandonLatch_flags (s : State) :
    (∀ d, s.ownsLatch d = false → s.abandonLatch.notice.channels.get d = s.notice.channels.get d)
      ∧ s.abandonLatch.notice.marks = s.notice.marks ∧ s.abandonLatch.notice.station = s.notice.station := by
  unfold abandonLatch
  split
  · exact ⟨fun _ _ => rfl, rfl, rfl⟩
  · rename_i a h
    dsimp only
    split
    · rename_i c img ho hf
      rw [channelOutcome_abandoned]
      unfold settleHalt
      refine ⟨fun d hd => ?_, ?_, ?_⟩
      · have : d ≠ c := by
          intro e
          subst e
          simp [ownsLatch, h, ho] at hd
        split
        · rw [enterHalted_notice]; exact Table.get_set_ne _ _ this
        · rfl
      all_goals split <;> rfl
    · exact ⟨fun _ _ => rfl, rfl, rfl⟩

/-- A withdrawal leaves what R154 says. -/
theorem withdraw_spec (s : State) : Withdrawn s s.withdraw := by
  let s1 := s.dropPendingSleep.stopBeacon
  obtain ⟨a1, a2, a3, a4, a5, a6, a7, a8⟩ := abandonLatch_spec s1
  obtain ⟨f1, f2, f3⟩ := abandonLatch_flags s1
  let s2 := s1.abandonLatch
  let s3 := s2.discardAcceptances
  obtain ⟨c1, c2, c3, c4, c5⟩ := cutList_spec chanList (List.nodup_finRange 16) s3
  obtain ⟨g1, g2, g3⟩ := cutList_flags chanList s3
  have e4 : s3.cutAll = cutList chanList s3 := by unfold cutAll forChannels; rfl
  have p := presenceClear_presence s3.cutAll
  obtain ⟨n1, n2, n3, n4, n5⟩ := presenceClear_notice s3.cutAll
  have hs : s.withdraw = s3.cutAll.presenceClear := rfl
  have hcfg : ∀ c, s3.cfg c = s.cfg c := fun c => by simp [s3, s2, s1]
  have hcur : ∀ c, (s3.ctx c).current = (s.ctx c).current := fun c => by
    show (s2.discardAcceptances.ctx c).current = _
    rw [discardAcceptances_ctx]
    exact (a7 c).trans rfl
  have hctx : ∀ c, s.ownsLatch c = false → s3.ctx c = { s.ctx c with acceptance := none } := fun c ho => by
    show (s2.discardAcceptances).ctx c = _
    rw [discardAcceptances_ctx, a8 c ho]; rfl
  have hfl : ∀ c, s.ownsLatch c = false → s3.notice.channels.get c = s.notice.channels.get c := fun c ho => f1 c ho
  have hslot : ∀ i, s3.slot i = s.slot i := fun i => by
    show s2.discardAcceptances.slot i = _
    have : s2.slots = s.slots := by rw [a6]; rfl
    simp [slot, this]
  have hent : ∀ a, s3.cutAll.entry a = s.entry a := by
    intro a
    have : s3.cutAll.presence = s.presence := by
      rw [cutAll_presence]; show s2.presence = s.presence; rw [a5]; rfl
    show s3.cutAll.presence.entries.get a = _
    rw [this]; rfl
  have hst : s3.cutAll.notice.station = s.notice.station := by rw [e4, g2]; exact f3
  have hmk : s3.cutAll.notice.marks = s.notice.marks := by rw [e4, g3]; exact f2
  refine
    { latch := ?_, beaconOffer := ?_, announceOffer := ?_, pointers := ?_, beaconTimer := ?_, settle := ?_, entries := ?_
      acceptances := ?_, taking := ?_, others := ?_, cuts := ?_, marks := ?_, peers := ?_, refused := ?_, warn := ?_
      slots := ?_, ram := ?_, station := ?_, configs := ?_
      stationEnables := ?_, channelEnables := ?_, master := ?_, pending := ?_ }
  · rw [hs]; simp only [presenceClear_latch, cutAll_arb]; exact a1
  · rw [hs]; simp only [presenceClear_beaconOffer, cutAll_arb]; exact a3
  · rw [hs]; simp only [presenceClear_announceOffer, cutAll_arb]; exact a4
  · rw [hs]; simp only [presenceClear_pointers, cutAll_arb]; exact a2
  · rw [hs]; simp [s3, s2, s1]
  · rw [hs]; exact p.1
  · intro a; rw [hs, p.2 a, hent]
  · intro c
    rw [hs, presenceClear_ctx, e4, c2 c]
    simp [s3]
  · intro c hk
    rw [hs, presenceClear_ctx, e4]
    exact c3 c (List.mem_finRange c) (by rw [hcfg]; exact hk)
  · intro c hk ho
    rw [hs, presenceClear_ctx, n1 c, e4, ← hctx c ho, ← hfl c ho]
    rcases hk with hk | hk
    · exact ⟨c4 c (Or.inr (by rw [hcfg]; exact hk)), g1 c (Or.inl (by rw [hcfg]; exact hk))⟩
    · refine ⟨?_, g1 c (Or.inr (Or.inl (by rw [hcur]; exact hk)))⟩
      by_cases ht : (s3.cfg c).kind = .take
      · have := cutList_idle chanList s3 c (by rw [hcur]; exact hk)
        exact this
      · exact c4 c (Or.inr ht)
  · intro c d hk ho hd hu
    obtain ⟨o1, o2, o3⟩ := cutList_open chanList (List.nodup_finRange 16) s3 c d (List.mem_finRange c) (by rw [hcfg]; exact hk)
      (by rw [hcur]; exact hd) (by intro e he hek; rw [hcur]; exact hu e he (by rw [← hcfg]; exact hek))
    rw [hs, presenceClear_ctx, presenceClear_slot, n1 c, e4, o2, o3, hslot, hctx c ho, hfl c ho]
    rw [hslot, hctx c ho] at o1
    refine ⟨?_, rfl, rfl⟩
    have hacc : ((cutList chanList s3).ctx c).acceptance = none := by rw [c2 c]; simp [s3]
    rw [context_without_acceptance hacc] at o1
    exact o1
  · intro a; rw [hs, n2 a, hmk, hent]
  · rw [hs, n3, hst]; simp only [hent]
  · rw [hs, n4, hst]
  · rw [hs, n5, hst]
  · intro i hi
    rw [hs, presenceClear_slot, e4, c5 i, hslot]
    intro c hk
    rw [hcur]
    exact hi c (by rw [← hcfg]; exact hk)
  all_goals rw [hs]; simp [s3, s2, s1]

/-- A withdrawal changes no field of the Mode Controller but the pending sleep. -/
theorem withdraw_mc (s : State) : s.withdraw.mc = { s.mc with pendingSleep := .none } := by
  simp [withdraw]

/-- The entry to RESTART leaves what R153 says, whatever state the withdrawal has reached. -/
theorem restartFields {s t : State} (cause : EntryCause) (h : Withdrawn s t)
    (hm : t.mc = { s.mc with pendingSleep := .none }) :
    Restarted s
      ({ t with
          mc :=
            { t.mc with
              mode := .restart, entryCause := cause, safeFault := .none, listenTimer := none
              restartTimer := some Config.restartDelay, safeTimer := none }
          line := .reset
          wake := t.wake.turnIdle } : State).raiseMode cause := by
  exact
    { latch := h.latch, beaconOffer := h.beaconOffer, announceOffer := h.announceOffer, pointers := h.pointers
      beaconTimer := h.beaconTimer, settle := h.settle, entries := h.entries, acceptances := h.acceptances
      taking := h.taking, others := h.others, cuts := h.cuts, marks := h.marks, peers := h.peers, refused := h.refused
      warn := h.warn, slots := h.slots, ram := h.ram, station := h.station, configs := h.configs
      stationEnables := h.stationEnables, channelEnables := h.channelEnables, master := h.master, pending := h.pending
      mc := by
        show ({ t.mc with
          mode := .restart, entryCause := cause, safeFault := .none, listenTimer := none
          restartTimer := some Config.restartDelay, safeTimer := none } : ModeController) = _
        rw [hm]; rfl
      line := rfl, detector := rfl, modeNotice := rfl }

/-- The entry to RESTART leaves what R153 says. -/
theorem enterRestart_spec (s : State) (cause : EntryCause) : Restarted s (s.enterRestart cause) cause :=
  restartFields cause (withdraw_spec s) (withdraw_mc s)

/-- The entry to SAFE leaves what R157 says, whatever state the withdrawal has reached. -/
theorem safeFields {s t : State} (fault : SafeFault) (h : Withdrawn s t)
    (hm : t.mc = { s.mc with pendingSleep := .none }) :
    SafeEntered s
      ({ t with
          mc :=
            { t.mc with
              mode := .safe, entryCause := fault.cause, safeFault := fault, limp := true, listenTimer := none
              safeTimer := startTimer t.station.safeMs }
          line := t.line.doze
          wake := t.wake.turnOn } : State).raiseMode fault := by
  exact
    { latch := h.latch, beaconOffer := h.beaconOffer, announceOffer := h.announceOffer, pointers := h.pointers
      beaconTimer := h.beaconTimer, settle := h.settle, entries := h.entries, acceptances := h.acceptances
      taking := h.taking, others := h.others, cuts := h.cuts, marks := h.marks, peers := h.peers, refused := h.refused
      warn := h.warn, slots := h.slots, ram := h.ram, station := h.station, configs := h.configs
      stationEnables := h.stationEnables, channelEnables := h.channelEnables, master := h.master, pending := h.pending
      mc := by
        show ({ t.mc with
          mode := .safe, entryCause := fault.cause, safeFault := fault, limp := true, listenTimer := none
          safeTimer := startTimer t.station.safeMs } : ModeController) = _
        rw [hm, h.station]; rfl
      lineState := rfl, detector := rfl, modeNotice := rfl }

/-- The entry to SAFE leaves what R157 says. -/
theorem enterSafe_spec (s : State) (fault : SafeFault) : SafeEntered s (s.enterSafe fault) fault :=
  safeFields fault (withdraw_spec s) (withdraw_mc s)

/-- The entry to SLEEP from ACTIVE leaves what R171 says. -/
theorem enterSleep_spec (s : State) (cause : EntryCause) : FallenAsleep s (s.enterSleep cause) cause := by
  let s1 := s.dropPendingSleep.stopBeacon
  obtain ⟨a1, a2, a3, a4, a5, a6, _, a8⟩ := abandonLatch_spec s1
  have hmc : s1.abandonLatch.mc = { s.mc with pendingSleep := .none } := by simp [s1]
  have hctx : ∀ c, (s.enterSleep cause).ctx c = { s1.abandonLatch.ctx c with acceptance := none } :=
    fun c => discardAcceptances_ctx _ c
  exact
    { mc := by
        show ({ s1.abandonLatch.mc with mode := .sleep, entryCause := cause } : ModeController) = _
        rw [hmc]
      latch := a1, beaconOffer := a3, announceOffer := a4, pointers := a2
      beaconTimer := by simp [enterSleep, raiseMode]
      presence := a5
      contexts := fun c hc => by rw [hctx, a8 c hc]; rfl
      acceptances := fun c => by rw [hctx]
      lineState := rfl, detector := rfl, modeNotice := rfl
      slots := a6
      ram := by simp, station := by simp, configs := by simp, pending := by simp }

end Sys2Proof.Machine.State
end

