-- ==== Sys2Proof/WellFormed.lean ====
section
/-! DEFINITION. Which commands are well formed: the operands a row can have. Every other operand is bounded by its type. -/

namespace Sys2Proof

/-- The command codes that name a command (R184). -/
def namedCommandCodes : List Byte := [0x01, 0x02, 0x03, 0x04, 0x10, 0x11, 0x12, 0x13, 0x20, 0x21, 0x22]

/-- Register addresses whose byte writes have a row of their own: the own address, the station flags, the changed marks and
the channel flags (R184). -/
def hasOwnRow (addr : Word) : Bool :=
  let a := addr.toNat
  a == 0 || a == 0x30 || (0x34 ≤ a && a ≤ 0x37) || (0x40 ≤ a && a ≤ 0x4F)

/-- Whether a command's operands are ones its row can have: an unknown command code names no command, a register write has
no row of its own, a slot is written whole, a format error has a bad header, and a frame that reaches its end has a good header and
all its bytes. -/
def Instr.wellFormed : Instr → Bool
  | .unknownCommand code => !namedCommandCodes.contains code
  | .registerWrite addr _ => !hasOwnRow addr
  | .formatError h0 h1 h2 h3 => !headerGood h0 h1 h2 h3
  | .descriptorWrite _ bytes => bytes.length == 8
  | .frameEnd bytes => (Frame.ofBytes bytes).isSome
  | .join | .softReset | .sleep _ | .wake | .start _ | .halt _ | .clear _ | .kick _ | .resume | .clearRestarts
  | .clearLimp | .ownAddressWrite _ | .clearDone _ | .clearNoticeFlags _ _ | .clearChangedMarks _ _
  | .bufferWrite _ _ | .bufferRead _ _ | .descriptorRead _ _ | .reset | .wakePinAccepted _
  | .pick _ | .framingError _ | .responseByteEnd | .responseBitError | .windowClose _ | .windowOutOfPlace
  | .clashResponseSeen | .idleGapComplete | .resyncEnd | .dominantRunHalfMs | .heldErrorCounted | .wakePulseHeard
  | .lineStuck | .arbitrationLost | .bitError _ | .wakeCollision | .ownFrameEnd | .pulseSent _ | .backoffExpiry _
  | .pacingExpiry _ | .beaconTimerExpiry | .wakeSettleExpiry | .presenceTimeout _ | .listenTimerExpiry
  | .restartTimerExpiry | .safeTimerExpiry | .startBitBegins | .clashWatchDisarmed | .transactionEnd => true

end Sys2Proof
end

