-- ==== Sys2Proof/Laws/PerInstr.lean ====
section
/-! SUPPORT. The per-command law CommandForm: which operands make a command well formed, said for every row. -/

namespace Sys2Proof.Laws.CommandForm

/-- A command is well formed exactly when its operands are ones its row can have: an unknown code names no command, a register
write has no row of its own, the header of a format error is bad, a frame at its end has a good header and all its bytes, a slot
is written with all eight; the operands of every other row are bounded by their types. -/
def Statement (i : Instr) : Prop :=
  i.wellFormed = true ↔
    (∀ code, i = .unknownCommand code → code ∉ namedCommandCodes)
      ∧ (∀ addr v, i = .registerWrite addr v → hasOwnRow addr = false)
      ∧ (∀ h0 h1 h2 h3, i = .formatError h0 h1 h2 h3 → headerGood h0 h1 h2 h3 = false)
      ∧ (∀ bytes, i = .frameEnd bytes → ∃ f, Frame.ofBytes bytes = some f)
      ∧ ∀ index bytes, i = .descriptorWrite index bytes → bytes.length = 8

/-- A command with none of the five operand conditions is well formed as it stands. -/
theorem of_plain {i : Instr} (w : i.wellFormed = true) (a : ∀ code, i ≠ .unknownCommand code)
    (b : ∀ addr v, i ≠ .registerWrite addr v) (c : ∀ h0 h1 h2 h3, i ≠ .formatError h0 h1 h2 h3)
    (d : ∀ bytes, i ≠ .frameEnd bytes) (k : ∀ index bytes, i ≠ .descriptorWrite index bytes) : Statement i :=
  ⟨fun _ => ⟨fun x e => absurd e (a x), fun x y e => absurd e (b x y), fun x y z t e => absurd e (c x y z t),
    fun x e => absurd e (d x), fun x y e => absurd e (k x y)⟩, fun _ => w⟩

theorem join : Statement .join :=
  of_plain rfl nofun nofun nofun nofun nofun

theorem softReset : Statement .softReset :=
  of_plain rfl nofun nofun nofun nofun nofun

theorem sleep (arg : Byte) : Statement (.sleep arg) :=
  of_plain rfl nofun nofun nofun nofun nofun

theorem wake : Statement .wake :=
  of_plain rfl nofun nofun nofun nofun nofun

theorem start (arg : Byte) : Statement (.start arg) :=
  of_plain rfl nofun nofun nofun nofun nofun

theorem halt (arg : Byte) : Statement (.halt arg) :=
  of_plain rfl nofun nofun nofun nofun nofun

theorem clear (arg : Byte) : Statement (.clear arg) :=
  of_plain rfl nofun nofun nofun nofun nofun

theorem kick (arg : Byte) : Statement (.kick arg) :=
  of_plain rfl nofun nofun nofun nofun nofun

theorem resume : Statement .resume :=
  of_plain rfl nofun nofun nofun nofun nofun

theorem clearRestarts : Statement .clearRestarts :=
  of_plain rfl nofun nofun nofun nofun nofun

theorem clearLimp : Statement .clearLimp :=
  of_plain rfl nofun nofun nofun nofun nofun

theorem unknownCommand (code : Byte) : Statement (.unknownCommand code) :=
  ⟨fun w => ⟨fun _ e => by cases e; simpa [Instr.wellFormed] using w, nofun, nofun, nofun, nofun⟩,
    fun h => by simpa [Instr.wellFormed] using h.1 code rfl⟩

theorem registerWrite (addr : Word) (value : Byte) : Statement (.registerWrite addr value) :=
  ⟨fun w => ⟨nofun, fun _ _ e => by cases e; simpa [Instr.wellFormed] using w, nofun, nofun, nofun⟩,
    fun h => by simpa [Instr.wellFormed] using h.2.1 addr value rfl⟩

theorem ownAddressWrite (value : Byte) : Statement (.ownAddressWrite value) :=
  of_plain rfl nofun nofun nofun nofun nofun

theorem clearDone (c : ChanId) : Statement (.clearDone c) :=
  of_plain rfl nofun nofun nofun nofun nofun

theorem clearNoticeFlags (reg : FlagRegister) (mask : Byte) : Statement (.clearNoticeFlags reg mask) :=
  of_plain rfl nofun nofun nofun nofun nofun

theorem clearChangedMarks (index : Fin 4) (mask : Byte) : Statement (.clearChangedMarks index mask) :=
  of_plain rfl nofun nofun nofun nofun nofun

theorem bufferWrite (offset : Word) (value : Byte) : Statement (.bufferWrite offset value) :=
  of_plain rfl nofun nofun nofun nofun nofun

theorem bufferRead (offset : Word) (place : Nat) : Statement (.bufferRead offset place) :=
  of_plain rfl nofun nofun nofun nofun nofun

theorem descriptorWrite (index : Byte) (bytes : List Byte) : Statement (.descriptorWrite index bytes) :=
  ⟨fun w => ⟨nofun, nofun, nofun, nofun, fun _ _ e => by cases e; simpa [Instr.wellFormed] using w⟩,
    fun h => by simpa [Instr.wellFormed] using h.2.2.2.2 index bytes rfl⟩

theorem descriptorRead (index : Byte) (place : Nat) : Statement (.descriptorRead index place) :=
  of_plain rfl nofun nofun nofun nofun nofun

theorem reset : Statement .reset :=
  of_plain rfl nofun nofun nofun nofun nofun

theorem wakePinAccepted (pin : PinEvent) : Statement (.wakePinAccepted pin) :=
  of_plain rfl nofun nofun nofun nofun nofun

theorem pick (atOnce : Bool) : Statement (.pick atOnce) :=
  of_plain rfl nofun nofun nofun nofun nofun

theorem formatError (h0 h1 h2 h3 : Byte) : Statement (.formatError h0 h1 h2 h3) :=
  ⟨fun w => ⟨nofun, nofun, fun _ _ _ _ e => by cases e; simpa [Instr.wellFormed] using w, nofun, nofun⟩,
    fun h => by simpa [Instr.wellFormed] using h.2.2.1 h0 h1 h2 h3 rfl⟩

theorem framingError (kind : FramingFault) : Statement (.framingError kind) :=
  of_plain rfl nofun nofun nofun nofun nofun

theorem frameEnd (bytes : List Byte) : Statement (.frameEnd bytes) :=
  ⟨fun w => ⟨nofun, nofun, nofun, fun _ e => by cases e; exact Option.isSome_iff_exists.1 w, nofun⟩,
    fun h => Option.isSome_iff_exists.2 (h.2.2.2.1 bytes rfl)⟩

theorem responseByteEnd : Statement .responseByteEnd :=
  of_plain rfl nofun nofun nofun nofun nofun

theorem responseBitError : Statement .responseBitError :=
  of_plain rfl nofun nofun nofun nofun nofun

theorem windowClose (read : Option Byte) : Statement (.windowClose read) :=
  of_plain rfl nofun nofun nofun nofun nofun

theorem windowOutOfPlace : Statement .windowOutOfPlace :=
  of_plain rfl nofun nofun nofun nofun nofun

theorem clashResponseSeen : Statement .clashResponseSeen :=
  of_plain rfl nofun nofun nofun nofun nofun

theorem idleGapComplete : Statement .idleGapComplete :=
  of_plain rfl nofun nofun nofun nofun nofun

theorem resyncEnd : Statement .resyncEnd :=
  of_plain rfl nofun nofun nofun nofun nofun

theorem dominantRunHalfMs : Statement .dominantRunHalfMs :=
  of_plain rfl nofun nofun nofun nofun nofun

theorem heldErrorCounted : Statement .heldErrorCounted :=
  of_plain rfl nofun nofun nofun nofun nofun

theorem wakePulseHeard : Statement .wakePulseHeard :=
  of_plain rfl nofun nofun nofun nofun nofun

theorem lineStuck : Statement .lineStuck :=
  of_plain rfl nofun nofun nofun nofun nofun

theorem arbitrationLost : Statement .arbitrationLost :=
  of_plain rfl nofun nofun nofun nofun nofun

theorem bitError (fault : ReadBackFault) : Statement (.bitError fault) :=
  of_plain rfl nofun nofun nofun nofun nofun

theorem wakeCollision : Statement .wakeCollision :=
  of_plain rfl nofun nofun nofun nofun nofun

theorem ownFrameEnd : Statement .ownFrameEnd :=
  of_plain rfl nofun nofun nofun nofun nofun

theorem pulseSent (held : Bool) : Statement (.pulseSent held) :=
  of_plain rfl nofun nofun nofun nofun nofun

theorem backoffExpiry (c : ChanId) : Statement (.backoffExpiry c) :=
  of_plain rfl nofun nofun nofun nofun nofun

theorem pacingExpiry (c : ChanId) : Statement (.pacingExpiry c) :=
  of_plain rfl nofun nofun nofun nofun nofun

theorem beaconTimerExpiry : Statement .beaconTimerExpiry :=
  of_plain rfl nofun nofun nofun nofun nofun

theorem wakeSettleExpiry : Statement .wakeSettleExpiry :=
  of_plain rfl nofun nofun nofun nofun nofun

theorem presenceTimeout (a : Station) : Statement (.presenceTimeout a) :=
  of_plain rfl nofun nofun nofun nofun nofun

theorem listenTimerExpiry : Statement .listenTimerExpiry :=
  of_plain rfl nofun nofun nofun nofun nofun

theorem restartTimerExpiry : Statement .restartTimerExpiry :=
  of_plain rfl nofun nofun nofun nofun nofun

theorem safeTimerExpiry : Statement .safeTimerExpiry :=
  of_plain rfl nofun nofun nofun nofun nofun

theorem startBitBegins : Statement .startBitBegins :=
  of_plain rfl nofun nofun nofun nofun nofun

theorem clashWatchDisarmed : Statement .clashWatchDisarmed :=
  of_plain rfl nofun nofun nofun nofun nofun

theorem transactionEnd : Statement .transactionEnd :=
  of_plain rfl nofun nofun nofun nofun nofun

end Sys2Proof.Laws.CommandForm
end

