-- ==== Sys2Proof/Laws/Rings.lean ====
section
/-! SUPPORT. What the operations of one channel can do: the write-back as one equation, the ends of a space search, the steps of
a fetch, and that an operation on channel `c` leaves every other channel and every station flag. -/

namespace Sys2Proof.Machine

/-- An operation of one channel: contexts and flags of the others, the station flags and the changed marks are as before. -/
structure Local (s t : State) (c : ChanId) : Prop where
  ctx : ∀ d, d ≠ c → t.ctx d = s.ctx d
  flags : ∀ d, d ≠ c → t.notice.channels.get d = s.notice.channels.get d
  station : t.notice.station = s.notice.station
  marks : t.notice.marks = s.notice.marks

namespace Local

theorem refl (s : State) (c : ChanId) : Local s s c := ⟨fun _ _ => rfl, fun _ _ => rfl, rfl, rfl⟩

theorem trans {s t u : State} {c : ChanId} (h : Local s t c) (k : Local t u c) : Local s u c :=
  ⟨fun d hd => (k.ctx d hd).trans (h.ctx d hd), fun d hd => (k.flags d hd).trans (h.flags d hd),
    k.station.trans h.station, k.marks.trans h.marks⟩

/-- An operation that leaves contexts and notices is local to every channel. -/
theorem of_same {s t : State} (c : ChanId) (h : t.contexts = s.contexts) (k : t.notice = s.notice) : Local s t c :=
  ⟨fun d _ => by simp [State.ctx, h], fun d _ => by rw [k], by rw [k], by rw [k]⟩

theorem modCtx (s : State) (c : ChanId) (f : Context → Context) : Local s (s.modCtx c f) c :=
  ⟨fun _ hd => State.modCtx_ctx_ne s f hd, fun _ _ => rfl, rfl, rfl⟩

theorem modChanFlags (s : State) (c : ChanId) (f : ChanFlags → ChanFlags) : Local s (s.modChanFlags c f) c :=
  ⟨fun _ _ => rfl, fun _ hd => Table.get_set_ne _ _ hd, rfl, rfl⟩

theorem modArb {s t : State} {c : ChanId} (h : Local s t c) (f : Arbiter → Arbiter) : Local s (t.modArb f) c :=
  ⟨h.ctx, h.flags, h.station, h.marks⟩

theorem thenCtx {s t : State} {c : ChanId} (h : Local s t c) (f : Context → Context) : Local s (t.modCtx c f) c :=
  h.trans (.modCtx t c f)

end Local

namespace State

/-! ### Write-backs (R57, R71) -/

/-- A write-back as one record: the slot's result fields, and DONE when its notify mark is set. -/
theorem writeBack_eq (s : State) (c : ChanId) (i : SlotId) (st : Status) (n : Nat) (e : Option Bool) :
    s.writeBack c i st n e =
      { s with
        slots :=
          s.slots.set i
            { s.slot i with
              valid := false, status := st.code, count := BitVec.ofNat 12 n, msgNo := (s.ctx c).msgNo
              endMark := e.getD (s.slot i).endMark }
        notice :=
          if (s.slot i).notify = true then
            { s.notice with channels := s.notice.channels.set c { s.notice.channels.get c with done := true } }
          else s.notice } := by
  by_cases h : (s.slot i).notify = true
  · rw [if_pos h]; unfold writeBack; dsimp only; rw [if_pos h]; rfl
  · rw [if_neg h]; unfold writeBack; dsimp only; rw [if_neg h]; rfl

theorem writeBack_local (s : State) (c : ChanId) (i : SlotId) (st : Status) (n : Nat) (e : Option Bool) :
    Local s (s.writeBack c i st n e) c := by
  rw [writeBack_eq]
  refine ⟨fun d _ => rfl, fun d hd => ?_, ?_, ?_⟩ <;> dsimp only <;> split <;> first | rfl | exact Table.get_set_ne _ _ hd

theorem writeBackList_local (c : ChanId) (st : Status) (n : SlotCopy → Nat) (l : List SlotCopy) (s : State) :
    Local s (s.writeBackList c st n l) c := by
  induction l generalizing s with
  | nil => exact .refl s c
  | cons d l ih => exact (writeBack_local s c d.slot st (n d) none).trans (ih _)

theorem enterHalted_local (s : State) (c : ChanId) (cause : HaltCause) : Local s (s.enterHalted c cause) c := by
  unfold enterHalted raiseHalted
  exact (Local.trans (.modCtx s c _) (.modChanFlags _ c _)).modArb _

/-! ### Fetching (R62 to R65) -/

theorem fetchDry_local (s : State) (c : ChanId) : Local s (s.fetchDry c) c := by
  unfold fetchDry raiseDrained
  split
  · exact (Local.modCtx s c _).trans (.modChanFlags _ c _)
  · exact .refl s c

theorem fetchBadRange_local (s : State) (c : ChanId) : Local s (s.fetchBadRange c) c := by
  unfold fetchBadRange
  exact (((writeBackList_local c _ _ _ s).trans (writeBack_local _ c _ _ _ _)).trans (.modCtx _ c _)).trans
    (enterHalted_local _ c _)

theorem fetchTooLong_local (s : State) (c : ChanId) : Local s (s.fetchTooLong c) c := by
  unfold fetchTooLong
  exact ((writeBackList_local c _ _ _ s).trans (.modCtx _ c _)).trans (enterHalted_local _ c _)

theorem fetchLoop_local (c : ChanId) (n : Nat) (s : State) : Local s (s.fetchLoop c n) c := by
  induction n generalizing s with
  | zero => exact .refl s c
  | succ n ih =>
    unfold fetchLoop
    dsimp only
    split
    · exact .modCtx s c _
    · split
      · exact fetchTooLong_local s c
      · split
        · exact fetchDry_local s c
        · split
          · exact fetchBadRange_local s c
          · split
            · exact (Local.modCtx s c _).trans (fetchTooLong_local _ c)
            · exact (Local.modCtx s c _).trans (ih _)

theorem fetch_local (s : State) (c : ChanId) : Local s (s.fetch c) c := by
  unfold fetch
  split
  · exact .refl s c
  · exact fetchLoop_local c 65 s

/-- A fetch whose need is met reads nothing: it brings a channel from DRAINED to RUNNING (R62, R63). -/
theorem fetch_met (s : State) (c : ChanId) (h : (s.ctx c).haltReq = false) (m : needMet (s.cfg c) (s.ctx c) = true) :
    s.fetch c = s.fetchMet c := by
  unfold fetch
  rw [if_neg (by simp [h])]
  unfold fetchLoop
  dsimp only
  rw [if_pos m]

/-- A fetch that finds an invalid slot stops there (R63). -/
theorem fetch_dry (s : State) (c : ChanId) (h : (s.ctx c).haltReq = false) (m : needMet (s.cfg c) (s.ctx c) = false)
    (w : (s.ctx c).fetched = [] ∨ (s.ctx c).walker ≠ (s.ctx c).msgStart) (v : (s.slot (s.ctx c).walker).valid = false) :
    s.fetch c = s.fetchDry c := by
  have : ¬ ((s.ctx c).fetched ≠ [] ∧ (s.ctx c).walker = (s.ctx c).msgStart) := by tauto
  unfold fetch
  rw [if_neg (by simp [h])]
  unfold fetchLoop
  dsimp only
  rw [if_neg (by simp [m]), if_neg this, if_pos v]

/-- One more slot on the fetched list of a channel, and the walker on the next one (R63). -/
def fetchOne (s : State) (c : ChanId) : State :=
  s.modCtx c fun y =>
    { y with
      fetched := y.fetched ++ [(s.slot (s.ctx c).walker).copy (s.ctx c).walker]
      walker := (s.cfg c).next (s.ctx c).walker }

/-- A round of a fetch that reads a valid slot with its need unmet goes by the slot: out of range, over the largest publication,
or on (R63 to R65). -/
theorem fetchLoop_reads (s : State) (c : ChanId) (n : Nat) (m : needMet (s.cfg c) (s.ctx c) = false)
    (w : (s.ctx c).fetched = [] ∨ (s.ctx c).walker ≠ (s.ctx c).msgStart) (v : (s.slot (s.ctx c).walker).valid = true) :
    s.fetchLoop c (n + 1) =
      if (s.slot (s.ctx c).walker).outOfRange then s.fetchBadRange c
      else if (s.cfg c).kind = .publish ∧ (s.cfg c).maxPayload < listBytes ((s.fetchOne c).ctx c).fetched then
        (s.fetchOne c).fetchTooLong c
      else (s.fetchOne c).fetchLoop c n := by
  have : ¬ ((s.ctx c).fetched ≠ [] ∧ (s.ctx c).walker = (s.ctx c).msgStart) := by tauto
  rw [fetchLoop]
  dsimp only
  rw [if_neg (by simp [m]), if_neg this, if_neg (by simp [v])]
  unfold fetchOne
  rfl

/-- A round of a fetch with the need met is its last (R63). -/
theorem fetchLoop_met (s : State) (c : ChanId) (n : Nat) (m : needMet (s.cfg c) (s.ctx c) = true) :
    s.fetchLoop c (n + 1) = s.fetchMet c := by
  unfold fetchLoop
  dsimp only
  rw [if_pos m]

/-- A round of a fetch that has come round the ring with the need unmet is its last (R65). -/
theorem fetchLoop_round (s : State) (c : ChanId) (n : Nat) (m : needMet (s.cfg c) (s.ctx c) = false)
    (w : (s.ctx c).fetched ≠ []) (r : (s.ctx c).walker = (s.ctx c).msgStart) :
    s.fetchLoop c (n + 1) = s.fetchTooLong c := by
  unfold fetchLoop
  dsimp only
  rw [if_neg (by simp [m]), if_pos ⟨w, r⟩]

/-! ### Space searches (R69) -/

theorem searchLoop_local (c : ChanId) (n : Nat) (s : State) : Local s (s.searchLoop c n).1 c := by
  induction n generalizing s with
  | zero => exact .refl s c
  | succ n ih =>
    unfold searchLoop
    dsimp only
    split
    · exact .refl s c
    · split
      · exact .refl s c
      · split
        · exact ((writeBack_local s c _ _ _ _).trans (.modCtx _ c _)).trans (enterHalted_local _ c _)
        · split
          · exact ((writeBack_local s c _ _ _ _).trans (.modCtx _ c _)).trans (ih _)
          · exact .refl s c

theorem search_local (s : State) (c : ChanId) : Local s (s.search c).1 c := searchLoop_local c _ s

/-- A search that stops at an invalid slot ends with no space (R69, case 1). -/
theorem search_invalid (s : State) (c : ChanId) (h : (s.slot (s.ctx c).walker).valid = false) :
    s.search c = (s, .noSpace) := by
  unfold search
  cases (s.cfg c).ringLength.toNat with
  | zero => rfl
  | succ n =>
    unfold searchLoop
    dsimp only
    rw [if_pos h, ite_self]

/-- A search that finds its first slot past the end of Buffer RAM (R69, case 2). -/
theorem search_badRange (s : State) (c : ChanId) (h : 1 ≤ (s.cfg c).ringLength.toNat)
    (k : (s.ctx c).current.map (·.slot) ≠ some (s.ctx c).walker) (v : (s.slot (s.ctx c).walker).valid = true)
    (o : (s.slot (s.ctx c).walker).outOfRange = true) :
    s.search c =
      (((s.writeBack c (s.ctx c).walker .badRange 0 (some false)).stepWalker c).enterHalted c .descError, .badRange) := by
  unfold search
  obtain ⟨n, hn⟩ : ∃ n, (s.cfg c).ringLength.toNat = n + 1 := ⟨_, (Nat.sub_add_cancel h).symm⟩
  rw [hn]
  unfold searchLoop
  dsimp only
  rw [if_neg k, if_neg (by simp [v]), if_pos o]

/-- A search whose first slot serves (R69, case 4). -/
theorem search_found (s : State) (c : ChanId) (h : 1 ≤ (s.cfg c).ringLength.toNat)
    (k : (s.ctx c).current.map (·.slot) ≠ some (s.ctx c).walker) (v : (s.slot (s.ctx c).walker).valid = true)
    (o : (s.slot (s.ctx c).walker).outOfRange = false)
    (l : (s.cfg c).maxPayload ≤ (s.slot (s.ctx c).walker).length.toNat) :
    s.search c = (s, .found ((s.slot (s.ctx c).walker).copy (s.ctx c).walker)) := by
  unfold search
  obtain ⟨n, hn⟩ : ∃ n, (s.cfg c).ringLength.toNat = n + 1 := ⟨_, (Nat.sub_add_cancel h).symm⟩
  rw [hn]
  unfold searchLoop
  dsimp only
  rw [if_neg k, if_neg (by simp [v]), if_neg (by simp [o]), if_neg (by omega)]

/-! ### TAKE and SUBSCRIBE channels -/

theorem holdAfter_local (s : State) (c : ChanId) (b : Bool) : Local s (s.holdAfter c b) c := by
  unfold holdAfter
  split
  · exact .modCtx s c _
  · exact .refl s c

theorem closeCurrent_local (s : State) (c : ChanId) (d : SlotCopy) (st : Status) (e : Bool) :
    Local s (s.closeCurrent c d st e) c :=
  (writeBack_local s c _ _ _ _).trans (holdAfter_local _ c _)

theorem cut_local (s : State) (c : ChanId) : Local s (s.cut c) c := by
  unfold cut
  split
  · exact (closeCurrent_local s c _ _ _).trans (.modCtx _ c _)
  · exact .refl s c

theorem lackOfSpace_local (s : State) (c : ChanId) : Local s (s.lackOfSpace c) c := by
  unfold lackOfSpace raiseDrained
  split
  · exact .refl s c
  · exact (Local.modCtx s c _).trans (.modChanFlags _ c _)

theorem accept_local (s : State) (c : ChanId) (f : AcceptForm) : Local s (s.accept c f).1 c := by
  unfold accept
  dsimp only
  exact .modCtx s c _

theorem decideFresh_local (s : State) (c : ChanId) (f : Frame) (k : Closes) : Local s (s.decideFresh c f k).1 c := by
  unfold decideFresh
  have h := search_local s c
  split <;> rename_i t _ e <;> rw [e] at h
  · exact h.trans (accept_local _ c _)
  · exact h.trans (lackOfSpace_local _ c)
  · exact h

theorem decideData_local (s : State) (c : ChanId) (f : Frame) : Local s (s.decideData c f).1 c := by
  unfold decideData
  dsimp only
  split
  · exact decideFresh_local s c f _
  · split
    · exact .refl s c
    · split
      · exact accept_local s c _
      · exact decideFresh_local s c f _

/-- The response decision touches the addressed channel alone (R98). -/
theorem decide_local (s : State) (c : ChanId) (f : Frame) : Local s (s.decide c f).1 c := by
  unfold decide
  dsimp only
  split
  · exact .refl s c
  · split
    · exact .refl s c
    · split
      · exact .refl s c
      · exact .refl s c
      · exact .refl s c
      · exact .refl s c
      · split
        · exact accept_local s c _
        · exact .refl s c
      · split
        · exact accept_local s c _
        · split
          · exact accept_local s c _
          · exact decideData_local s c f

theorem commitTarget_local (s : State) (c : ChanId) (w : StoreWork) : Local s (s.commitTarget c w) c := by
  unfold commitTarget
  dsimp only
  have h : Local s
      (match w.closes with
        | .cut => s.cut c
        | .done =>
          match (s.ctx c).current with
          | some d => (s.closeCurrent c d .done false).modCtx c fun x => { x with current := none, bytesUsed := 0 }
          | none => s
        | .nothing => s) c := by
    split
    · exact cut_local s c
    · split
      · exact (closeCurrent_local s c _ _ _).trans (.modCtx _ c _)
      · exact .refl s c
    · exact .refl s c
  split
  · exact (h.trans (.modCtx _ c _)).trans (.modCtx _ c _)
  · exact h

theorem commitBytes_local (s : State) (c : ChanId) (w : StoreWork) : Local s (s.commitBytes c w) c := by
  unfold commitBytes
  dsimp only
  split
  · exact (Local.of_same c rfl rfl : Local s (s.store _ _) c).trans (.modCtx _ c _)
  · exact .modCtx s c _

theorem completeTaken_local (s : State) (c : ChanId) (m : Option Word) : Local s (s.completeTaken c m) c := by
  unfold completeTaken
  dsimp only
  split
  · exact (closeCurrent_local s c _ _ _).trans (.modCtx _ c _)
  · exact .refl s c

theorem commitStore_local (s : State) (c : ChanId) (w : StoreWork) : Local s (s.commitStore c w) c := by
  unfold commitStore
  dsimp only
  split
  · exact ((commitTarget_local s c w).trans (commitBytes_local _ c w)).trans (completeTaken_local _ c _)
  · exact (commitTarget_local s c w).trans (commitBytes_local _ c w)

/-- The commit of an acceptance record touches its channel alone (R109 to R113). -/
theorem commit_local (s : State) (c : ChanId) : Local s (s.commit c) c := by
  unfold commit
  split
  · exact .refl s c
  · dsimp only
    split
    · unfold commitWithdrawn
      split <;> exact (Local.modCtx s c _).thenCtx _
    · split
      · exact (Local.modCtx s c _).trans (commitStore_local _ c _)
      · exact ((Local.modCtx s c _).trans (cut_local _ c)).trans (.modCtx _ c _)
      · exact (Local.modCtx s c _).trans (.modCtx _ c _)

theorem dropFrame_local (s : State) (c : ChanId) : Local s (s.dropFrame c) c := by
  unfold dropFrame raiseDrop
  exact (Local.modCtx s c _).trans (.modChanFlags _ c _)

theorem storePublished_local (s : State) (c : ChanId) (d : SlotCopy) (p : List Byte) : Local s (s.storePublished c d p) c := by
  unfold storePublished stepWalker
  exact (((Local.of_same c rfl rfl : Local s (s.store d.offset p) c).trans (writeBack_local _ c _ _ _ _)).trans
    (.modCtx _ c _)).trans (.modCtx _ c _)

/-- A publication touches the matching channel alone (R126 to R128). -/
theorem subscribed_local (s : State) (c : ChanId) (f : Frame) : Local s (s.subscribed c f) c := by
  unfold subscribed
  split
  · exact .refl s c
  · split
    · exact dropFrame_local s c
    · have h := search_local s c
      split <;> rename_i t _ e <;> rw [e] at h
      · exact h.trans (storePublished_local _ c _ _)
      · exact h.trans (dropFrame_local _ c)
      · exact h.trans (dropFrame_local _ c)

/-! ### Outcomes at SEND and PUBLISH channels -/

theorem completeMessage_local (s : State) (c : ChanId) : Local s (s.completeMessage c) c := by
  unfold completeMessage
  dsimp only
  split
  · exact ((writeBackList_local c _ _ _ s).trans (.modCtx _ c _)).trans (fetch_local _ c)
  · exact (writeBackList_local c _ _ _ s).trans (.modCtx _ c _)

theorem publishOutcome_local (s : State) (c : ChanId) (o : AttemptOutcome) : Local s (s.publishOutcome c o) c := by
  unfold publishOutcome
  split
  · exact (Local.modCtx s c _).trans (completeMessage_local _ c)
  all_goals exact .refl s c

theorem nakAnswered_local (s : State) (c : ChanId) : Local s (s.nakAnswered c) c := by
  unfold nakAnswered
  dsimp only
  split
  · exact .modCtx s c _
  · split
    · exact .modCtx s c _
    · exact enterHalted_local s c _

theorem openAcked_local (s : State) (c : ChanId) : Local s (s.openAcked c) c :=
  (Local.modCtx s c _).trans (fetch_local _ c)

theorem dataAcked_local (s : State) (c : ChanId) (img : Frame) : Local s (s.dataAcked c img) c := by
  unfold dataAcked advance
  dsimp only
  split
  · exact (Local.modCtx s c _).trans (completeMessage_local _ c)
  · exact (Local.modCtx s c _).trans (fetch_local _ c)

theorem settleHalt_local (s : State) (c : ChanId) : Local s (s.settleHalt c) c := by
  unfold settleHalt
  split
  · exact enterHalted_local s c _
  · exact .of_same c rfl rfl

end State

end Sys2Proof.Machine
end

