-- ==== Sys2Proof/Laws/Walks.lean ====
section
/-! SUPPORT. What a walk of a ring can do, in the words of Safety: the write-backs of a list, a fetch (R62 to R65), the completion
of a sent message (R67), and a space search (R69), each once for any number of slots. -/

namespace Sys2Proof.Machine

namespace State

/-! ### Write-backs of a list (R57) -/

theorem writeBack_slot (s : State) (c : ChanId) (i j : SlotId) (st : Status) (n : Nat) (e : Option Bool) :
    (s.writeBack c i st n e).slot j =
      if j = i then
        { s.slot i with
          valid := false, status := st.code, count := BitVec.ofNat 12 n, msgNo := (s.ctx c).msgNo
          endMark := e.getD (s.slot i).endMark }
      else s.slot j := by
  rw [writeBack_eq]
  exact Table.get_set _ _ _ _

theorem writeBack_flags (s : State) (c : ChanId) (i : SlotId) (st : Status) (n : Nat) (e : Option Bool) :
    (s.writeBack c i st n e).notice.channels.get c =
      { s.notice.channels.get c with done := (s.notice.channels.get c).done || (s.slot i).notify } := by
  rw [writeBack_eq]
  by_cases h : (s.slot i).notify = true
  · simp [h]
  · simp [h]

/-- The write-back of a slot leaves every notify and hold mark. -/
theorem writeBack_marks (s : State) (c : ChanId) (i j : SlotId) (st : Status) (n : Nat) (e : Option Bool) :
    ((s.writeBack c i st n e).slot j).notify = (s.slot j).notify ∧ ((s.writeBack c i st n e).slot j).hold = (s.slot j).hold := by
  rw [writeBack_slot]
  split
  · rename_i h; subst h; exact ⟨rfl, rfl⟩
  · exact ⟨rfl, rfl⟩

/-- The write-backs of a list leave the slots outside it. -/
theorem writeBackList_slot_ne (c : ChanId) (st : Status) (n : SlotCopy → Nat) (l : List SlotCopy) (s : State) (j : SlotId)
    (h : ∀ k ∈ l, k.slot ≠ j) : (s.writeBackList c st n l).slot j = s.slot j := by
  induction l generalizing s with
  | nil => rfl
  | cons d l ih =>
    refine (ih _ fun k m => h k (.tail _ m)).trans ?_
    rw [writeBack_slot, if_neg fun e => h d (.head _) e.symm]

/-- A slot of a list ends with the fields of the write-backs, where each entry of the slot has the same count. -/
theorem writeBackList_slot (c : ChanId) (st : Status) (n : SlotCopy → Nat) (l : List SlotCopy) (s : State) (j : SlotId) (m : Nat)
    (h : ∃ k ∈ l, k.slot = j) (u : ∀ k ∈ l, k.slot = j → n k = m) :
    (s.writeBackList c st n l).slot j =
      { s.slot j with
        valid := false, status := st.code, count := BitVec.ofNat 12 m, msgNo := (s.ctx c).msgNo } := by
  induction l generalizing s with
  | nil => obtain ⟨_, k, _⟩ := h; cases k
  | cons d l ih =>
    by_cases t : ∃ k ∈ l, k.slot = j
    · refine (ih (s.writeBack c d.slot st (n d) none) t fun k hk => u k (.tail _ hk)).trans ?_
      rw [writeBack_slot, writeBack_eq]
      split
      · rename_i e; subst e; rfl
      · rfl
    · have e : d.slot = j := by
        obtain ⟨k, hk, e⟩ := h
        cases hk with
        | head => exact e
        | tail _ hk => exact absurd ⟨k, hk, e⟩ t
      refine (writeBackList_slot_ne c st n l _ j fun k hk e => t ⟨k, hk, e⟩).trans ?_
      rw [writeBack_slot, if_pos e.symm, u d (.head _) e]
      subst e
      rfl

theorem writeBackList_flags (c : ChanId) (st : Status) (n : SlotCopy → Nat) (l : List SlotCopy) (s : State) :
    (s.writeBackList c st n l).notice.channels.get c =
      { s.notice.channels.get c with
        done := (s.notice.channels.get c).done || l.any fun k => (s.slot k.slot).notify } := by
  induction l generalizing s with
  | nil => simp [writeBackList]
  | cons d l ih =>
    refine (ih _).trans ?_
    simp only [writeBack_flags, (writeBack_marks s c d.slot _ st (n d) none).1, List.any_cons, Bool.or_assoc]

end State

/-- An operation that touches one channel's context and flags, the Descriptor Table, and that channel's offer, which it may
withdraw. -/
def Ringed (s t : State) (c : ChanId) : Prop :=
  ∃ x w f a, (a = s.arb ∨ a = { s.arb with offers := s.arb.offers.set c false })
    ∧ t =
      { s with
        contexts := s.contexts.set c x, slots := w, arb := a
        notice := { s.notice with channels := s.notice.channels.set c f } }

namespace Ringed

theorem refl (s : State) (c : ChanId) : Ringed s s c :=
  ⟨s.ctx c, s.slots, s.notice.channels.get c, s.arb, .inl rfl, by simp [State.ctx]⟩

theorem trans {s t u : State} {c : ChanId} (h : Ringed s t c) (k : Ringed t u c) : Ringed s u c := by
  obtain ⟨x, w, f, a, ha, rfl⟩ := h
  obtain ⟨y, v, g, b, hb, rfl⟩ := k
  refine ⟨y, v, g, b, ?_, by simp⟩
  rcases ha with rfl | rfl <;> rcases hb with rfl | rfl <;> simp

theorem modCtx (s : State) (c : ChanId) (f : Context → Context) : Ringed s (s.modCtx c f) c :=
  ⟨f (s.ctx c), s.slots, s.notice.channels.get c, s.arb, .inl rfl, by simp [State.modCtx]⟩

theorem modChanFlags (s : State) (c : ChanId) (f : ChanFlags → ChanFlags) : Ringed s (s.modChanFlags c f) c :=
  ⟨s.ctx c, s.slots, f (s.notice.channels.get c), s.arb, .inl rfl,
    by simp [State.modChanFlags, State.modNotice, State.ctx]⟩

theorem of_slots {s t : State} {c : ChanId} {w : Table 64 Slot} {f : ChanFlags}
    (h : t = { s with slots := w, notice := { s.notice with channels := s.notice.channels.set c f } }) : Ringed s t c :=
  ⟨s.ctx c, w, f, s.arb, .inl rfl, by rw [h, State.ctx, Table.set_get]⟩

theorem writeBack (s : State) (c : ChanId) (i : SlotId) (st : Status) (n : Nat) (e : Option Bool) :
    Ringed s (s.writeBack c i st n e) c := by
  rw [State.writeBack_eq]
  split
  · exact of_slots rfl
  · exact of_slots (f := s.notice.channels.get c) (by rw [Table.set_get])

theorem writeBackList (c : ChanId) (st : Status) (n : SlotCopy → Nat) (l : List SlotCopy) (s : State) :
    Ringed s (s.writeBackList c st n l) c := by
  induction l generalizing s with
  | nil => exact .refl s c
  | cons d l ih => exact (writeBack s c d.slot st (n d) none).trans (ih _)

theorem enterHalted (s : State) (c : ChanId) (cause : HaltCause) : Ringed s (s.enterHalted c cause) c :=
  ⟨_, s.slots, _, _, .inr rfl, rfl⟩

theorem fetchLoop (c : ChanId) (n : Nat) (s : State) : Ringed s (s.fetchLoop c n) c := by
  have long (t : State) : Ringed t (t.fetchTooLong c) c := by
    unfold State.fetchTooLong
    exact ((writeBackList c _ _ _ t).trans (.modCtx _ c _)).trans (.enterHalted _ c _)
  induction n generalizing s with
  | zero => exact .refl s c
  | succ n ih =>
    unfold State.fetchLoop
    dsimp only
    split
    · exact .modCtx s c _
    · split
      · exact long s
      · split
        · unfold State.fetchDry State.raiseDrained
          split
          · exact (Ringed.modCtx s c _).trans (.modChanFlags _ c _)
          · exact .refl s c
        · split
          · unfold State.fetchBadRange
            exact (((writeBackList c _ _ _ s).trans (.writeBack _ c _ _ _ _)).trans (.modCtx _ c _)).trans (.enterHalted _ c _)
          · split
            · exact (Ringed.modCtx s c _).trans (long _)
            · exact (Ringed.modCtx s c _).trans (ih _)

/-- A fetch touches its channel's context and flags, the Descriptor Table, and its offer (R62 to R65). -/
theorem fetch (s : State) (c : ChanId) : Ringed s (s.fetch c) c := by
  unfold State.fetch
  split
  · exact .refl s c
  · exact fetchLoop c 65 s

/-- After such an operation a look at the offer gives the same as on the state with its own offer as before (R79, R120). -/
theorem look {s t : State} {c : ChanId} (h : Ringed s t c) : t.look c = (s.withRing t c).look c := by
  obtain ⟨x, w, f, a, ha, rfl⟩ := h
  have hx : ({ s with
      contexts := s.contexts.set c x, slots := w, arb := a
      notice := { s.notice with channels := s.notice.channels.set c f } } : State).ctx c = x := by simp [State.ctx]
  have hf : (s.notice.channels.set c f).get c = f := by simp
  unfold State.look State.withRing
  rw [hx, hf]
  rcases ha with rfl | rfl
  · rfl
  · simp only [State.modArb, Table.set_set]
    rfl

end Ringed

/-! ### What the words of Safety depend on -/

/-- Two states agree on what a walk of a channel's ring reads: its configuration, the Descriptor Table and its flags. -/
structure SameRing (s t : State) (c : ChanId) : Prop where
  cfg : s.cfg c = t.cfg c
  slots : s.slots = t.slots
  flags : s.notice.channels.get c = t.notice.channels.get c

namespace SameRing

theorem slot {s t : State} {c : ChanId} (h : SameRing s t c) (i : SlotId) : s.slot i = t.slot i := by
  simp only [State.slot, h.slots]

theorem listAfter {s t : State} {c : ChanId} (h : SameRing s t c) (x : Context) (n : Nat) :
    s.listAfter c x n = t.listAfter c x n := by
  simp only [State.listAfter, h.cfg, h.slot]

theorem fetchAdds {s t : State} {c : ChanId} (h : SameRing s t c) (x : Context) (n : Nat) :
    s.FetchAdds c x n ↔ t.FetchAdds c x n := by
  simp only [State.FetchAdds, h.cfg, h.slot, h.listAfter]

end SameRing

/-- What an operation has left of a channel is the same from any state that agrees on its ring, and to any that agrees on its
context too. -/
theorem FetchRests.congr {s s' t t' : State} {c : ChanId} {y : Context} {d : Bool} (h : FetchRests s t c y d)
    (a : SameRing s s' c) (b : SameRing t t' c) (e : t.ctx c = t'.ctx c) : FetchRests s' t' c y d :=
  ⟨e ▸ h.ctx, by rw [← b.slots, ← a.slots]; exact h.slots, by rw [← b.flags, ← a.flags]; exact h.flags⟩

theorem FetchFails.congr {s s' t t' : State} {c : ChanId} {x : Context} {l : List SlotCopy} {st : BitVec 4} {j : Option SlotId}
    {i : SlotId} (h : FetchFails s t c x l st j i) (a : SameRing s s' c) (b : SameRing t t' c) (e : t.ctx c = t'.ctx c) :
    FetchFails s' t' c x l st j i :=
  ⟨e ▸ h.ctx, fun k q => by rw [← b.slot, ← a.slot]; exact h.fault k q,
    fun k m q => by rw [← b.slot, ← a.slot]; exact h.message k m q,
    fun k q m => by rw [← b.slot, ← a.slot]; exact h.others k q m,
    by rw [← b.flags, ← a.flags]; simp only [← a.slot]; exact h.flags⟩

theorem FetchGives.congr {s s' t t' : State} {c : ChanId} {x : Context} (h : FetchGives s t c x) (a : SameRing s s' c)
    (b : SameRing t t' c) (e : t.ctx c = t'.ctx c) : FetchGives s' t' c x := by
  obtain ⟨h1, h2, h3, h4, h5, h6⟩ := h
  simp only [a.fetchAdds, a.listAfter, a.cfg, a.slot] at h2 h3 h4 h5 h6
  exact
    ⟨fun q => (h1 q).congr a b e, fun q n k d m => (h2 q n k d m).congr a b e,
      fun q n k d m w v => (h3 q n k d m w v).congr a b e, fun q n k d m w v o => (h4 q n k d m w v o).congr a b e,
      fun q n k d m w v => (h5 q n k d m w v).congr a b e, fun q n k d m w v o p z => (h6 q n k d m w v o p z).congr a b e⟩

namespace State

/-! ### Fetching (R62 to R65) -/

/-- A fetch with `n` slots added. -/
def added (s : State) (c : ChanId) (n : Nat) : State :=
  s.modCtx c fun x => { x with fetched := s.listAfter c (s.ctx c) n, walker := (s.cfg c).after (s.ctx c).walker n }

theorem added_ctx (s : State) (c : ChanId) (n : Nat) :
    (s.added c n).ctx c =
      { s.ctx c with fetched := s.listAfter c (s.ctx c) n, walker := (s.cfg c).after (s.ctx c).walker n } := by
  simp [added]

theorem listAfter_zero (s : State) (c : ChanId) (x : Context) : s.listAfter c x 0 = x.fetched := by simp [listAfter]

theorem listAfter_succ (s : State) (c : ChanId) (x : Context) (n : Nat) :
    s.listAfter c x (n + 1) =
      s.listAfter c x n
        ++ [(s.slot ((s.cfg c).after x.walker n)).copy ((s.cfg c).after x.walker n)] := by
  simp [listAfter, List.range_succ]

theorem added_zero (s : State) (c : ChanId) : s.added c 0 = s := by
  unfold added
  rw [listAfter_zero]
  show ({ s with contexts := s.contexts.set c (s.contexts.get c) } : State) = s
  rw [Table.set_get]

theorem fetchOne_added (s : State) (c : ChanId) (n : Nat) : (s.added c n).fetchOne c = s.added c (n + 1) := by
  unfold fetchOne
  rw [added_ctx]
  unfold added
  rw [listAfter_succ]
  simp only [modCtx, ctx, Table.get_set_same, Table.set_set]
  rfl

/-- A fetch goes on from the slots it adds. -/
theorem fetchLoop_adds (s : State) (c : ChanId) (m n : Nat) (h : s.FetchAdds c (s.ctx c) n) :
    s.fetchLoop c (m + n) = (s.added c n).fetchLoop c m := by
  induction n generalizing m with
  | zero => rw [added_zero]; rfl
  | succ n ih =>
    obtain ⟨need, round, valid, range, size⟩ := h n (Nat.lt_succ_self n)
    have e := added_ctx s c n
    rw [show m + (n + 1) = (m + 1) + n by omega, ih (m + 1) fun k hk => h k (Nat.lt_succ_of_lt hk)]
    rw [fetchLoop_reads _ c m (by rw [e]; exact need) (by rw [e]; exact round) (by rw [e]; exact valid), fetchOne_added]
    have nr : ((s.added c n).slot ((s.added c n).ctx c).walker).outOfRange = false := by
      rw [e]; exact decide_eq_false (by simp only [Config.ramSize]; exact Nat.not_lt.2 range)
    have ns : ¬ (((s.added c n).cfg c).kind = .publish
        ∧ ((s.added c n).cfg c).maxPayload < listBytes ((s.added c (n + 1)).ctx c).fetched) := by
      rw [added_ctx]; exact fun k => absurd (size k.1) (Nat.not_le.2 k.2)
    rw [if_neg (by simp [nr]), if_neg ns]

/-- A round of a fetch that finds an invalid slot is its last (R63). -/
theorem fetchLoop_dry (s : State) (c : ChanId) (n : Nat) (m : needMet (s.cfg c) (s.ctx c) = false)
    (w : (s.ctx c).fetched = [] ∨ (s.ctx c).walker ≠ (s.ctx c).msgStart) (v : (s.slot (s.ctx c).walker).valid = false) :
    s.fetchLoop c (n + 1) = s.fetchDry c := by
  have : ¬ ((s.ctx c).fetched ≠ [] ∧ (s.ctx c).walker = (s.ctx c).msgStart) := by tauto
  unfold fetchLoop
  dsimp only
  rw [if_neg (by simp [m]), if_neg this, if_pos v]

theorem fetchTooLong_fails (s : State) (c : ChanId) :
    FetchFails s (s.fetchTooLong c) c (s.ctx c) (s.ctx c).fetched 8 none (s.ctx c).walker := by
  have e : ((s.writeBackList c .tooLong (fun _ => 0) (s.ctx c).fetched).ctx c) = s.ctx c := by simp [ctx]
  refine ⟨?_, nofun, fun k hk _ => ?_, fun j _ hj => ?_, ?_⟩
  · simp [fetchTooLong, Context.dropMessage, Context.haltedBy, ChainAcc.cleared, e]
  · simp only [fetchTooLong, enterHalted_slot, modCtx_slot]
    exact writeBackList_slot c _ _ _ s _ 0 ⟨k, hk, rfl⟩ fun _ _ _ => rfl
  · simp only [fetchTooLong, enterHalted_slot, modCtx_slot]
    exact writeBackList_slot_ne c _ _ _ s j hj
  · simp [fetchTooLong, writeBackList_flags]

theorem fetchBadRange_fails (s : State) (c : ChanId) :
    FetchFails s (s.fetchBadRange c) c (s.ctx c) (s.ctx c).fetched 7 (some (s.ctx c).walker) ((s.cfg c).next (s.ctx c).walker) := by
  have e (i : SlotId) : (((s.writeBackList c .aborted (fun _ => 0) (s.ctx c).fetched).writeBack c i .badRange 0 none).ctx c) = s.ctx c := by
    simp [ctx]
  have n (j : SlotId) (l : List SlotCopy) :
      ((s.writeBackList c .aborted (fun _ => 0) l).slot j).notify = (s.slot j).notify := by
    by_cases h : ∃ k ∈ l, k.slot = j
    · rw [writeBackList_slot c _ _ _ s j 0 h fun _ _ _ => rfl]
    · rw [writeBackList_slot_ne c _ _ _ s j fun k hk r => h ⟨k, hk, r⟩]
  refine ⟨?_, fun j hj => ?_, fun k hk hj => ?_, fun j hj ho => ?_, ?_⟩
  · simp [fetchBadRange, Context.dropMessage, Context.haltedBy, ChainAcc.cleared, e]
  · cases hj
    simp only [fetchBadRange, enterHalted_slot, modCtx_slot, writeBack_slot, if_true, ctx, writeBackList_contexts]
    by_cases h : ∃ k ∈ (s.contexts.get c).fetched, k.slot = (s.contexts.get c).walker
    · rw [writeBackList_slot c _ _ _ s _ 0 h fun _ _ _ => rfl]
      rfl
    · rw [writeBackList_slot_ne c _ _ _ s _ fun k hk r => h ⟨k, hk, r⟩]
      rfl
  · simp only [fetchBadRange, enterHalted_slot, modCtx_slot, writeBack_slot]
    rw [if_neg fun r => hj (by rw [r])]
    exact writeBackList_slot c _ _ _ s _ 0 ⟨k, hk, rfl⟩ fun _ _ _ => rfl
  · simp only [fetchBadRange, enterHalted_slot, modCtx_slot, writeBack_slot]
    rw [if_neg fun r => hj (by rw [r])]
    exact writeBackList_slot_ne c _ _ _ s j ho
  · simp [fetchBadRange, writeBack_flags, writeBackList_flags, n]

/-- What a fetch leaves of its channel (R62 to R65). -/
theorem fetch_gives (s : State) (c : ChanId) : FetchGives s (s.fetch c) c (s.ctx c) := by
  have run (n : Nat) (h : (s.ctx c).haltReq = false) (le : n ≤ 64) (a : s.FetchAdds c (s.ctx c) n) :
      s.fetch c = (s.added c n).fetchLoop c ((64 - n) + 1) := by
    unfold fetch
    rw [if_neg (by simp [h]), ← fetchLoop_adds s c _ n a]
    congr 1
    omega
  constructor
  · intro h
    unfold fetch
    rw [if_pos h]
    exact ⟨rfl, rfl, by simp⟩
  · intro h n le a m
    rw [run n h le a, fetchLoop_met _ c _ (by rw [added_ctx]; exact m)]
    refine ⟨?_, rfl, ?_⟩
    · simp [fetchMet, added_ctx]
    · simp [fetchMet, added]
  · intro h n le a m w v
    rw [run n h le a, fetchLoop_dry _ c _ (by rw [added_ctx]; exact m) (by rw [added_ctx]; exact w) (by rw [added_ctx]; exact v)]
    unfold fetchDry
    by_cases r : (s.ctx c).state = .running
    · rw [if_pos (by rw [added_ctx]; exact r)]
      refine ⟨?_, rfl, ?_⟩
      · simp [added_ctx, r]
      · simp [added, r, raiseDrained]
    · rw [if_neg (by rw [added_ctx]; exact r)]
      refine ⟨?_, rfl, ?_⟩
      · simp [added_ctx, r]
      · simp [added, r]
  · intro h n le a m w d v o
    rw [run n h le a, fetchLoop_reads _ c _ (by rw [added_ctx]; exact m) (by rw [added_ctx]; exact w) (by rw [added_ctx]; exact v)]
    rw [if_pos (by rw [added_ctx]; exact decide_eq_true o)]
    have f := fetchBadRange_fails (s.added c n) c
    rw [added_ctx] at f
    exact ⟨f.ctx, f.fault, f.message, f.others, f.flags⟩
  · intro h n le a m w r
    rw [run n h le a, fetchLoop_round _ c _ (by rw [added_ctx]; exact m) (by rw [added_ctx]; exact w) (by rw [added_ctx]; exact r)]
    have f := fetchTooLong_fails (s.added c n) c
    rw [added_ctx] at f
    rw [← r]
    exact ⟨f.ctx, f.fault, f.message, f.others, f.flags⟩
  · intro h n le a m w d v o p z
    rw [run n h le a, fetchLoop_reads _ c _ (by rw [added_ctx]; exact m) (by rw [added_ctx]; exact w) (by rw [added_ctx]; exact v)]
    rw [if_neg (by rw [added_ctx]; exact fun e => absurd o (Nat.not_le.2 (of_decide_eq_true e))), fetchOne_added,
      if_pos ⟨p, by rw [added_ctx]; exact z⟩]
    have f := fetchTooLong_fails (s.added c (n + 1)) c
    rw [added_ctx] at f
    exact ⟨f.ctx, f.fault, f.message, f.others, f.flags⟩

/-! ### The completion of a sent message (R67) -/

/-- The write-backs of a message whose entries are slots of their own. -/
theorem writeBackList_done (s : State) (c : ChanId) (h : ((s.ctx c).fetched.map fun k => k.slot).Nodup) :
    MessageDone s (s.writeBackList c .done (fun d => d.length.toNat) (s.ctx c).fetched) c := by
  refine ⟨fun k hk => ?_, fun j hj => writeBackList_slot_ne c _ _ _ s j hj, ?_⟩
  · have u : ∀ d ∈ (s.ctx c).fetched, d.slot = k.slot → d.length.toNat = k.length.toNat := fun d hd e => by
      rw [List.inj_on_of_nodup_map h hd hk e]
    rw [writeBackList_slot c _ _ _ s _ _ ⟨k, hk, rfl⟩ u]
    simp [Status.code]
  · obtain ⟨x, w, f, a, _, e⟩ := Ringed.writeBackList c .done (fun d : SlotCopy => d.length.toNat) (s.ctx c).fetched s
    have hc : (s.writeBackList c .done (fun d : SlotCopy => d.length.toNat) (s.ctx c).fetched).contexts = s.contexts := by simp
    have ha : (s.writeBackList c .done (fun d : SlotCopy => d.length.toNat) (s.ctx c).fetched).arb = s.arb := by simp
    have hf := writeBackList_flags c .done (fun d : SlotCopy => d.length.toNat) (s.ctx c).fetched s
    rw [e] at hc ha hf ⊢
    dsimp only at hc ha hf ⊢
    rw [Table.get_set_same] at hf
    rw [hc, ha, hf]

theorem modCtx_congr {s : State} {c : ChanId} {f g : Context → Context} (h : f (s.ctx c) = g (s.ctx c)) :
    s.modCtx c f = s.modCtx c g := by
  unfold modCtx
  rw [h]

/-- The context of a channel whose message is complete (R67). -/
def messageOver (x : Context) : Context :=
  { x with
    msgNo := x.msgNo + 1, fetched := [], msgStart := x.walker, stream := 0, acc := { sum := 0, pending := none } }

/-- A completed message is DONE; the channel enters HOLDING where a slot of it holds, and fetches otherwise (R67, R72). -/
theorem completeMessage_gives (s : State) (c : ChanId) (h : ((s.ctx c).fetched.map fun k => k.slot).Nodup)
    (r : (s.ctx c).state = .running) :
    ∃ u, MessageDone s u c
      ∧ (((s.ctx c).fetched.any fun k => (s.slot k.slot).notify && (s.slot k.slot).hold) = true →
          s.completeMessage c = u.modCtx c fun x => { messageOver x with state := .holding })
      ∧ (((s.ctx c).fetched.any fun k => (s.slot k.slot).notify && (s.slot k.slot).hold) = false →
          s.completeMessage c = (u.modCtx c messageOver).fetch c
            ∧ FetchGives u (s.completeMessage c) c (messageOver (s.ctx c))) := by
  have hc : (s.writeBackList c .done (fun d : SlotCopy => d.length.toNat) (s.ctx c).fetched).ctx c = s.ctx c := by simp [ctx]
  refine ⟨_, writeBackList_done s c h, fun e => ?_, fun e => ?_⟩
  · unfold completeMessage
    dsimp only
    rw [modCtx_congr (g := fun x => { messageOver x with state := .holding })]
    · rw [if_neg (by simp)]
    · simp only [Slot.holds, e, hc, r, and_self, if_true]
      rfl
  · have f : s.completeMessage c =
        ((s.writeBackList c .done (fun d : SlotCopy => d.length.toNat) (s.ctx c).fetched).modCtx c messageOver).fetch c := by
      unfold completeMessage
      dsimp only
      rw [modCtx_congr (g := messageOver)]
      · rw [if_pos (by simp [messageOver, hc, r])]
      · simp only [Slot.holds, e, hc]
        rfl
    refine ⟨f, ?_⟩
    have g := fetch_gives ((s.writeBackList c .done (fun d : SlotCopy => d.length.toNat) (s.ctx c).fetched).modCtx c messageOver) c
    rw [← f, modCtx_ctx_same, hc] at g
    exact g.congr ⟨rfl, rfl, rfl⟩ ⟨rfl, rfl, rfl⟩ rfl

/-! ### Space searches (R69) -/

end State

/-- The slots of a walk of a ring, by number: round the ring, or round the table from a slot above the ring (R58). -/
theorem ChanConfig.after_val (g : ChanConfig) (i : SlotId) (n : Nat) (h : n ≤ 64) (k : n ≤ g.ringLength.toNat) :
    (g.after i n).val =
      if g.ringBase.toNat + g.ringLength.toNat ≤ 64 ∧ i.val < g.ringBase.toNat + g.ringLength.toNat then
        if i.val + n < g.ringBase.toNat + g.ringLength.toNat then i.val + n else i.val + n - g.ringLength.toNat
      else (i.val + n) % 64 := by
  have hi := i.isLt
  have hb := g.ringBase.isLt
  induction n with
  | zero =>
    simp only [ChanConfig.after, Nat.add_zero]
    split
    · rw [if_pos (by tauto)]
    · omega
  | succ n ih =>
    have e := ih (by omega) (by omega)
    have ht : g.base.val = g.ringBase.toNat := by simp [ChanConfig.base]
    simp only [ChanConfig.after, ChanConfig.next]
    have one : ((g.after i n) + 1 : SlotId).val = ((g.after i n).val + 1) % 64 := by simp [Fin.val_add]
    split <;> rename_i q
    · rw [ht]
      split at e <;> rename_i c1
      · rw [if_pos c1]; split at e <;> split <;> omega
      · rw [if_neg c1]; omega
    · rw [one]
      split at e <;> rename_i c1
      · rw [if_pos c1]; split at e <;> split <;> omega
      · rw [if_neg c1]; omega

/-- A walk of fewer steps than the ring has slots, and than the table, meets no slot twice. -/
theorem ChanConfig.after_inj (g : ChanConfig) (i : SlotId) {m n : Nat} (h : m < n) (q : n < 64)
    (r : n < g.ringLength.toNat) : g.after i m ≠ g.after i n := by
  intro e
  have a := g.after_val i m (by omega) (by omega)
  have b := g.after_val i n (by omega) (by omega)
  rw [e, b] at a
  have hi := i.isLt
  split at a <;> rename_i c1
  · split at a <;> split at a <;> omega
  · omega

namespace State

theorem outOfRange_iff (d : Slot) : d.outOfRange = true ↔ 4096 < d.offset.toNat + d.length.toNat := by
  unfold Slot.outOfRange Config.ramSize
  exact decide_eq_true_iff

/-- A space search that has passed `n` slots. -/
def passed (s : State) (c : ChanId) (n : Nat) : State :=
  { s with
    contexts := s.contexts.set c { s.ctx c with walker := (s.cfg c).after (s.ctx c).walker n }
    slots := s.unfitSlots c n
    notice := { s.notice with channels := s.notice.channels.set c (s.unfitFlags c n) } }

theorem passed_ctx (s : State) (c : ChanId) (n : Nat) :
    (s.passed c n).ctx c = { s.ctx c with walker := (s.cfg c).after (s.ctx c).walker n } := by simp [passed, ctx]

theorem passed_slot (s : State) (c : ChanId) (n : Nat) (j : SlotId) :
    (s.passed c n).slot j =
      if ∃ k < n, (s.cfg c).after (s.ctx c).walker k = j then
        { s.slot j with valid := false, endMark := false, status := 5, count := 0, msgNo := (s.ctx c).msgNo }
      else s.slot j := Table.get_ofFn _ _

/-- The slot that a search examines next stands as before it. -/
theorem passed_next (s : State) (c : ChanId) (n : Nat) (h : n < 64) (k : n < (s.cfg c).ringLength.toNat) :
    (s.passed c n).slot ((s.cfg c).after (s.ctx c).walker n) = s.slot ((s.cfg c).after (s.ctx c).walker n) := by
  rw [passed_slot, if_neg]
  rintro ⟨m, hm, e⟩
  exact (s.cfg c).after_inj _ hm h k e

theorem passed_zero (s : State) (c : ChanId) : s.passed c 0 = s := by
  have a : s.unfitSlots c 0 = s.slots := Table.ext_get fun j => by simp [unfitSlots, slot]
  have b : s.unfitFlags c 0 = s.notice.channels.get c := by simp [unfitFlags]
  unfold passed
  rw [a, b]
  show ({ s with
    contexts := s.contexts.set c (s.contexts.get c)
    notice := { s.notice with channels := s.notice.channels.set c (s.notice.channels.get c) } } : State) = s
  rw [Table.set_get, Table.set_get]

/-- The next slot passed by a search is written back UNFIT and stepped over (R69, case 3). -/
theorem passed_succ (s : State) (c : ChanId) (n : Nat) (h : n < 64) (k : n < (s.cfg c).ringLength.toNat) :
    s.passed c (n + 1) =
      ((s.passed c n).writeBack c ((s.cfg c).after (s.ctx c).walker n) .unfit 0 (some false)).stepWalker c := by
  have e := passed_next s c n h k
  have w : ((s.passed c n).writeBack c ((s.cfg c).after (s.ctx c).walker n) .unfit 0 (some false)).slots = s.unfitSlots c (n + 1) := by
    refine Table.ext_get fun j => ?_
    show State.slot _ j = _
    rw [writeBack_slot, e, passed_ctx]
    simp only [unfitSlots, Table.get_ofFn]
    by_cases q : j = (s.cfg c).after (s.ctx c).walker n
    · rw [if_pos q, if_pos ⟨n, Nat.lt_succ_self n, q.symm⟩, q]
      rfl
    · rw [if_neg q, passed_slot]
      refine if_congr ⟨fun ⟨m, hm, r⟩ => ⟨m, by omega, r⟩, fun ⟨m, hm, r⟩ => ⟨m, ?_, r⟩⟩ rfl rfl
      rcases Nat.lt_succ_iff_lt_or_eq.1 hm with t | t
      · exact t
      · subst t; exact absurd r.symm q
  have f := writeBack_flags (s.passed c n) c ((s.cfg c).after (s.ctx c).walker n) .unfit 0 (some false)
  obtain ⟨x, v, g, a, _, r⟩ := Ringed.writeBack (s.passed c n) c ((s.cfg c).after (s.ctx c).walker n) .unfit 0 (some false)
  have hx := writeBack_contexts (s.passed c n) c ((s.cfg c).after (s.ctx c).walker n) .unfit 0 (some false)
  have ha := writeBack_arb (s.passed c n) c ((s.cfg c).after (s.ctx c).walker n) .unfit 0 (some false)
  rw [e] at f
  rw [r] at w f hx ha ⊢
  dsimp only at w f hx ha
  rw [Table.get_set_same] at f
  have flags : g = s.unfitFlags c (n + 1) := by
    rw [f]
    simp [unfitFlags, passed, List.range_succ, Bool.or_assoc]
  rw [w, hx, ha, flags]
  have after : (s.cfg c).next ((s.cfg c).after (s.ctx c).walker n) = (s.cfg c).after (s.ctx c).walker (n + 1) := rfl
  simp only [stepWalker, modCtx, passed, ctx, Table.get_set_same, Table.set_set]
  rw [← ctx, ← after]
  rfl

/-- A search goes on from the slots it passes (R69). -/
theorem searchLoop_passes (s : State) (c : ChanId) (m n : Nat) (h : s.SearchPasses c n) (k : n ≤ 64)
    (l : n ≤ (s.cfg c).ringLength.toNat) : s.searchLoop c (m + n) = (s.passed c n).searchLoop c m := by
  induction n generalizing m with
  | zero => rw [passed_zero]; rfl
  | succ n ih =>
    obtain ⟨cur, valid, range, short⟩ := h n (Nat.lt_succ_self n)
    have e := passed_next s c n (by omega) (by omega)
    rw [show m + (n + 1) = (m + 1) + n by omega, ih (m + 1) (fun q hq => h q (Nat.lt_succ_of_lt hq)) (by omega) (by omega)]
    rw [searchLoop]
    rw [passed_ctx]
    dsimp only
    rw [e, if_neg cur, if_neg (by simp [valid]), if_neg (by rw [outOfRange_iff]; omega), show (s.passed c n).cfg c = s.cfg c from rfl, if_pos short,
      ← passed_succ s c n (by omega) (by omega)]

/-- The ends of a space search that has passed `n` slots (R69). -/
theorem search_gives (s : State) (c : ChanId) (n : Nat) (k : n ≤ 64) (l : n ≤ (s.cfg c).ringLength.toNat)
    (h : s.SearchPasses c n) :
    let i := (s.cfg c).after (s.ctx c).walker n
    let d := s.slot i
    (n = (s.cfg c).ringLength.toNat ∨ ((s.ctx c).current.map fun d => d.slot) = some i ∨ (n < 64 ∧ d.valid = false) →
        s.search c = (s.passed c n, .noSpace))
      ∧ (n < 64 → n < (s.cfg c).ringLength.toNat → ((s.ctx c).current.map fun d => d.slot) ≠ some i → d.valid = true →
          (4096 < d.offset.toNat + d.length.toNat →
            s.search c =
              ((((s.passed c n).writeBack c i .badRange 0 (some false)).stepWalker c).enterHalted c .descError, .badRange))
          ∧ (d.offset.toNat + d.length.toNat ≤ 4096 → (s.cfg c).maxPayload ≤ d.length.toNat →
              s.search c = (s.passed c n, .found (d.copy i)))) := by
  dsimp only
  have run : s.search c = (s.passed c n).searchLoop c ((s.cfg c).ringLength.toNat - n) := by
    unfold search
    rw [← searchLoop_passes s c _ n h k l]
    congr 1
    omega
  rw [run]
  refine ⟨fun q => ?_, fun a b cur valid => ?_⟩
  · by_cases z : n = (s.cfg c).ringLength.toNat
    · rw [show (s.cfg c).ringLength.toNat - n = 0 by omega]
      rfl
    · obtain ⟨m, hm⟩ : ∃ m, (s.cfg c).ringLength.toNat - n = m + 1 := ⟨(s.cfg c).ringLength.toNat - n - 1, by omega⟩
      rw [hm]
      unfold searchLoop
      dsimp only
      rw [passed_ctx]
      dsimp only
      rcases q with q | q | ⟨q, v⟩
      · exact absurd q z
      · rw [if_pos q]
      · rw [passed_next s c n q (by omega), v, if_pos rfl, ite_self]
  · obtain ⟨m, hm⟩ : ∃ m, (s.cfg c).ringLength.toNat - n = m + 1 := ⟨(s.cfg c).ringLength.toNat - n - 1, by omega⟩
    rw [hm]
    unfold searchLoop
    dsimp only
    rw [passed_ctx]
    dsimp only
    rw [passed_next s c n a b, if_neg cur, if_neg (by simp [valid])]
    refine ⟨fun o => ?_, fun o f => ?_⟩
    · rw [if_pos (by rw [outOfRange_iff]; exact o)]
    · rw [if_neg (by rw [outOfRange_iff]; omega), show (s.passed c n).cfg c = s.cfg c from rfl, if_neg (Nat.not_lt.2 f)]

end State

end Sys2Proof.Machine
end

