-- ==== Sys2Proof/Tests/Slice0.lean ====
section
/-! SUPPORT. Tests: ill-formed commands refused by the check, values of the manual's worked examples, and for every statement a
state and operands that meet its hypotheses. -/

namespace Sys2Proof.Tests

set_option Elab.async false

open Sys2Proof.Machine

/-! ### States to test on -/

/-- A channel record of priority 1, payload 8, no pacing. -/
def chan (kind peer pch base len : Nat) : ChanConfig :=
  { kindCode := BitVec.ofNat 3 kind, peerStation := BitVec.ofNat 5 peer, peerChannel := BitVec.ofNat 4 pch, payloadCode := 0
    prio := 1, pacing := 0, ringBase := BitVec.ofNat 6 base, ringLength := BitVec.ofNat 7 len }

/-- A valid slot with one byte count. -/
def region (offset length : Nat) (endMark notify hold : Bool) : Slot :=
  { Slot.reset with
    valid := true, endMark := endMark, notify := notify, hold := hold, offset := BitVec.ofNat 12 offset
    length := BitVec.ofNat 12 length }

/-- In SETUP: address 4, channel 0 sends to station 9, 1 takes from it, 2 subscribes to station 12, 3 publishes. -/
def configured : State :=
  { State.reset with
    station := { StationConfig.reset with ownAddress := 4 }
    presence := { PresenceTable.reset with entries := (Table.replicate 31 Entry.absent).set 4 .self }
    configs :=
      ((((Table.replicate 16 ChanConfig.reset).set 0 (chan 1 9 0 0 4)).set 1 (chan 2 9 0 4 4)).set 2 (chan 4 12 3 8 4)).set 3
        (chan 3 0 0 12 2)
    slots := (Table.replicate 64 Slot.reset).set 4 (region 4088 8 false true true) }

/-- The same part in a mode, with the line in a state. -/
def within (m : Mode) (l : LineState) : State :=
  { configured with mc := { ModeController.reset with mode := m }, line := { LineRecord.reset with state := l } }

/-- In ACTIVE on an IDLE line. -/
def active : State := within .active .idle

/-- Channel `c` in a state. -/
def withState (s : State) (c : ChanId) (x : ChanState) : State := s.modCtx c fun y => { y with state := x }

/-- The attempt of an owner latched in a phase. -/
def latched (s : State) (o : Owner) (f : Form) (p : AttemptPhase) : State :=
  s.modArb fun a => { a with latch := some { owner := o, form := f, phase := p } }

/-- Station 9's entry in a state. -/
def withPeer (s : State) (p : PresenceState) (tried : Bool) : State :=
  { s with
    presence :=
      { s.presence with entries := s.presence.entries.set 9 { Entry.absent with state := p, wakeTried := tried } } }

/-- Frames between station 9 and station 4. -/
def frame (kind : FrameKind) (src dst : Nat) (c : ChanId) (toggle : Bool) (pos : Position) (payload : List Byte) : Frame :=
  { prio := 1, source := BitVec.ofNat 5 src, toggle := toggle, kind := kind, channel := c, dest := BitVec.ofNat 5 dst
    position := pos, payload := payload, chain := if carriesChain kind pos then some 0 else none }

/-- Channel 0 waits for the answer to a frame it has sent. -/
def awaiting (img : Frame) (x : ChanState) (retry : Nat) : State :=
  let s := latched (withState (within .active (.busy .window)) 0 x) (.channel 0) (.frame img) .answer
  let s := { s with line := { s.line with window := some { dest := 9, part := .sender } } }
  s.modCtx 0 fun y => { y with retry := retry }

/-- Channel 1 has a record for the response byte it is sending. -/
def answering (form : AcceptForm) (withdrawn : Bool) (current : Option SlotCopy) : State :=
  let s := withState (within .active (.busy .window)) 1 .running
  let s :=
    { s with
      line :=
        { s.line with
          window := some { dest := 4, part := .destination }, response := some { answer := .ack, channel := 1 } } }
  s.modCtx 1 fun y =>
    { y with
      acceptance := some { form := form, withdrawn := withdrawn }, current := current, openMsg := current.isSome
      bytesUsed := if current.isSome then 8 else 0 }

/-! ### Ill-formed commands -/

theorem test_unknown_code_that_names_a_command : (Instr.unknownCommand 0x22).wellFormed = false := by decide +kernel
theorem test_register_write_with_a_row_of_its_own :
    (Instr.registerWrite 0x000 1).wellFormed = false ∧ (Instr.registerWrite 0x04F 1).wellFormed = false := by decide +kernel
theorem test_format_error_with_a_good_header : (Instr.formatError 0x52 0x20 0x20 0x08).wellFormed = false := by decide +kernel
theorem test_frame_end_with_a_byte_missing :
    (Instr.frameEnd (frame .openF 9 4 1 false .only []).bytes.dropLast).wellFormed = false := by decide +kernel
theorem test_slot_write_with_a_byte_missing : (Instr.descriptorWrite 0 [1, 2, 3, 4, 5, 6, 7]).wellFormed = false := by decide +kernel
theorem test_well_formed_neighbours :
    (Instr.unknownCommand 0x23).wellFormed = true ∧ (Instr.registerWrite 0x001 1).wellFormed = true
      ∧ (Instr.formatError 0x53 0x40 0x20 0x00).wellFormed = true
      ∧ (Instr.descriptorWrite 0 [1, 2, 3, 4, 5, 6, 7, 8]).wellFormed = true
      ∧ (Instr.frameEnd (frame .openF 9 4 1 false .only []).bytes).wellFormed = true := by decide +kernel

/-- No row of the table gives bits. -/
theorem test_no_word_spells_a_command :
    decodeTableWord 8 1 = none ∧ State.reset.withFetchWord 8 1 = State.reset := ⟨rfl, rfl⟩

/-! ### Values the manual works out -/

/-- Chapter 1, 1.8: the chain sum of a message of three frames. -/
theorem test_chain_sum_worked :
    let x := ChainAcc.cleared.feedAll [0x81, 0x22, 0x90, 0x00, 0x40, 0x10, 0x00, 0x03]
    let y := x.feedAll [0xC0, 0x00, 0x7F, 0xFF, 0x00, 0x01, 0x20, 0x20]
    let z := y.feedAll [0x11, 0x22, 0x33]
    x = { sum := 0x5136, pending := none } ∧ y = { sum := 0xB157, pending := none }
      ∧ z = { sum := 0xC279, pending := some 0x33 } ∧ z.close = 0xF579 := by decide +kernel

/-- Bytes of one transaction, run. -/
def runAll (s : State) : List Instr → State
  | [] => s
  | i :: rest =>
    match exec i s with
    | .next t => runAll t rest
    | _ => s

/-- Chapter 1, 1.8: the header of frame 2 reads back, and its CRC is the one R9 gives. -/
theorem test_frame_read_back :
    let f := { frame .data 4 9 5 true .middle [0xC0, 0x00, 0x7F, 0xFF, 0x00, 0x01, 0x20, 0x20] with prio := 2 }
    f.bytes.take 4 = [0x89, 0x2A, 0x4C, 0x08] ∧ Frame.ofBytes f.bytes = some f ∧ crcPasses f.bytes = true := by decide +kernel

/-- The bytes of a transaction on the host port, the commands they give run one after another. -/
def spi (s : State) (bytes : List Byte) : State := runAll s (transaction bytes)

/-- The own address, a channel record and JOIN through the host port. -/
theorem test_join_through_the_host_port :
    let s := spi (spi (spi State.reset [0x21, 0x00, 0x00, 0x04]) [0x21, 0x02, 0x10, 1, 9, 5, 0, 2, 0, 0x0A, 4]) [0x80, 1, 0]
    s.mc.mode = .listen ∧ s.mc.listenTimer = some 200 ∧ (s.cfg 2).kind = .send ∧ (s.ctx 2).walker = 10
      ∧ s.notice.station.mode = true ∧ s.port.lastRefused = false := by decide +kernel

/-- An unknown command code through the host port. -/
theorem test_unknown_code_through_the_host_port :
    let s := spi State.reset [0x80, 0x7F, 0]
    s.port.code = .badValue ∧ s.port.lastRefused = true ∧ s.notice.station.refused = true := by decide +kernel

/-- Chapter 1, R2: the ACK byte on the line, dominant start, most significant bit first, recessive stop. -/
theorem test_ack_on_the_line :
    Answer.ack.levels =
      [.dominant, .recessive, .recessive, .dominant, .dominant, .dominant, .dominant, .recessive, .recessive, .recessive] := by
  decide +kernel

/-- R2: the three rates and their bit times. -/
theorem test_rates :
    (([0, 1, 2] : List (BitVec 2)).map fun r => ({ StationConfig.reset with rateCode := r } : StationConfig).bitMicros) = [16, 8, 4] := by
  decide +kernel

/-- R178: the listen timer, at 0x016, changes between its bytes and is read whole; a read that begins at its second byte takes
that byte as it stands. The fall of nRESET ends what MISO drives. -/
theorem test_register_read_not_torn :
    let s := fun n => ({ active with mc := { active.mc with listenTimer := some n } } : State)
    let moment := fun j => s (if j < 4 then 0x0100 else 0x00FF)
    misoByte [0x20, 0x00, 0x16, 0, 0] moment 3 = some 0x01 ∧ misoByte [0x20, 0x00, 0x16, 0, 0] moment 4 = some 0x00
      ∧ misoByte [0x20, 0x00, 0x17, 0] (fun _ => s 0x00FF) 3 = some 0xFF ∧ misoByte [0x20, 0x00, 0x16] moment 0 = some 0x40
      ∧ misoByte [0x20, 0x00, 0x16] moment 2 = some 0x00
      ∧ misoByte [0x20, 0x00, 0x16, 0] (fun j => if j < 2 then s 1 else (s 1).resetFalls) 3 = none := by decide +kernel

/-- R165: while nRESET is low no command of the host is taken, and a byte there shows a transaction that is dropped. -/
theorem test_held_in_reset :
    let low := active.resetFalls
    low.hostTransaction [0x80, 1, 0] = low ∧ runAll low [.join, .transactionEnd] = low ∧ (runAll low [.reset]).resetLow = false
      ∧ (runAll low [.bufferWrite 0 1]).port.transfer = .dropped ∧ (runAll low [.wakePinAccepted (.moves true)]).wake.pin = true := by
  decide +kernel

/-- R165: a reset between two bytes drops the rest of their transaction; the next transaction is taken. -/
theorem test_reset_drops_the_transaction :
    let t := runAll active [.bufferWrite 0 1, .reset, .bufferWrite 1 2, .registerWrite 1 2, .transactionEnd]
    let u := runAll t [.bufferWrite 2 3]
    Memory.read (runAll active [.bufferWrite 0 1]).ram 0 = 1 ∧ t.ram = [] ∧ t.station = .reset ∧ t.port.transfer = .none
      ∧ Memory.read u.ram 2 = 3 ∧ u.port.transfer = .running := by decide +kernel

/-- R165, R180: a control transaction that a reset has cut is not taken at its rise of nCS; one that begins after it is. -/
theorem test_reset_drops_the_control_command :
    let t := runAll active.selectFalls [.reset, .unknownCommand 0x7F]
    t = runAll State.reset [.transactionEnd] ∧ (runAll t [.unknownCommand 0x7F]).port.code = .badValue := by decide +kernel

/-! ### Hypotheses met: the step and the commands of the host -/

theorem test_EmptyQueueStepTicksTheClocks :
    let s :=
      { active with
        beaconTimer := some 2, presence := { active.presence with settle := some 2 }
        mc := { active.mc with listenTimer := some 2, restartTimer := some 2, safeTimer := some 1 } }
    let s := s.modCtx 0 fun x => { x with backoff := some 2 }
    let s := s.modCtx 3 fun x => { x with backoff := some 1, pacing := some 1 }
    s.pending = [] ∧ (s.canPick && s.choose.isSome) = false ∧ s.phase? ≠ some .waiting ∧ s.phase? ≠ some .arbitration
      ∧ (s.ctx 0).backoff = some (0 + 2) ∧ (s.ctx 3).backoff = some 1 ∧ (s.ctx 3).pacing = some 1 ∧ s.beaconTimer = some (0 + 2)
      ∧ s.mc.listenTimer = some (0 + 2) ∧ s.mc.restartTimer = some (0 + 2) ∧ s.mc.safeTimer = some 1
      ∧ s.presence.settle = some (0 + 2) ∧ (within .safe (.busy .resync)).mc.mode = .safe
      ∧ ({ active with presence := { active.presence with settle := some 1 } } : State).presence.settle = some 1 := by decide +kernel

/-- An entry of age 299 reaches its timeout of 30 times 10 ms at the next tick, one of age 298 does not (R134). -/
theorem test_presence_ages :
    let s := fun n => ({ active with
      presence := { active.presence with entries := active.presence.entries.set 9 { Entry.absent with state := .present, age := n } } } : State)
    (match step (s 299) with | .next t => t.pending | _ => []) = [.presenceTimeout 9]
      ∧ (match step (s 298) with | .next t => t.pending | _ => []) = [] := by decide +kernel

/-- A level of the WAKE pin read for a whole tick is accepted (R174). -/
theorem test_pin_filter :
    let s := { within .sleep (.busy .resync) with wake := { on := true, pin := true, accepted := false, difference := 1 } }
    (match step s with | .next t => t.pending | _ => []) = [.wakePinAccepted (.held true)] ∧ s.wake.pin ≠ s.wake.accepted
      ∧ active.wake.on = false := by decide +kernel

/-- The eighth data bit of H0 ends ARBITRATION, and a bit time that fills the millisecond brings its tick (R30). -/
theorem test_arbitration_bits :
    let img := frame .beacon 4 31 0 false .only [10, 0, 0]
    let s := fun n m => { latched active .beacon (.frame img) .arbitration with clock := { h0Left := n, micros := m } }
    let u := (s 1 992).modCtx 0 fun x => { x with backoff := some 2 }
    (s 9 0).pending = [] ∧ (s 9 0).station.rateCode = 1 ∧ (s 9 0).phase? = some .arbitration
      ∧ (match step (s 9 0) with | .next t => t.phase? | _ => none) = some .arbitration
      ∧ (match step u with | .next t => (t.phase?, t.clock.micros, (t.ctx 0).backoff) | _ => (none, 1, none)) =
          (some .sending, 0, some 1) := by decide +kernel

/-- An attempt that waits begins in an IDLE line, and a pick is due where an offer stands in one (R26, R30). -/
theorem test_idle_starts :
    let s := latched active .wakeRequest .pulse .waiting
    s.mc.mode = .active ∧ s.line.state = .idle ∧ s.phase? = some .waiting
      ∧ ({ active with arb := { active.arb with beaconOffer := true } } : State).choose.isSome = true
      ∧ ({ active with arb := { active.arb with beaconOffer := true } } : State).canPick = true := by decide +kernel

theorem test_ResetGivesTheResetValues :
    (Instr.bufferWrite 0 1).movesByte = true ∧ Instr.join.atRise = true ∧ active.hostOpen = true
      ∧ active.selectFalls.hostOpen = true ∧ (runAll active.selectFalls [.reset]).hostOpen = false
      ∧ active.resetFalls.resetLow = true ∧ (Instr.windowClose none).movesByte = false ∧ (Instr.windowClose none).atRise = false := by decide +kernel

theorem test_JoinTakenStartsListening :
    let s := configured
    s.hostOpen = true ∧ s.mc.mode = .setup ∧ s.station.ownAddress ≠ 31 ∧ s.station.rateCode ≠ 3
      ∧ s.station.beaconInterval ≠ 0 ∧ s.station.nakBackoff ≠ 0 ∧ s.station.silenceBackoff ≠ 0 ∧ s.station.safeTime ≠ 0
      ∧ s.station.wakeSettle ≠ 0 ∧ active.hostOpen = true ∧ ∀ c, s.checkChannel c = none := by decide +kernel

theorem test_JoinRefusedAtTheFirstFailure :
    active.mc.mode ≠ .setup
      ∧ ({ configured with station := { configured.station with ownAddress := 31 } } : State).mc.mode = .setup
      ∧ ({ configured with station := { configured.station with rateCode := 3 } } : State).station.ownAddress ≠ 31
      ∧ ({ configured with station := { configured.station with safeTime := 0 } } : State).station.rateCode ≠ 3
      ∧ (let s := { configured with configs := configured.configs.set 4 (chan 2 9 0 13 4) }
         s.checkChannel 4 = some .ringOverlap ∧ ∀ d, d < 4 → s.checkChannel d = none) := by decide +kernel

theorem test_ChannelCheckReportsTheFirstCode :
    let s := fun g => { configured with configs := configured.configs.set 4 g }
    (s (chan 5 9 0 16 4)).checkChannel 4 = some .badValue ∧ (s (chan 2 31 0 16 4)).checkChannel 4 = some .badValue
      ∧ (s (chan 1 9 7 0 65)).checkChannel 4 = some .badValue ∧ (s (chan 1 9 7 63 2)).checkChannel 4 = some .ringRange
      ∧ (s (chan 2 4 7 63 1)).checkChannel 4 = some .selfPeer ∧ (s (chan 2 9 0 13 1)).checkChannel 4 = some .ringOverlap
      ∧ (s (chan 1 9 0 14 4)).checkChannel 4 = some .dupBinding ∧ (s (chan 2 9 0 14 50)).checkChannel 4 = none := by decide +kernel

theorem test_SleepCommandTakenOrRefused :
    configured.mc.mode ≠ .active ∧ active.mc.mode = .active ∧ active.mc.pendingSleep = .none ∧ active.arb.latch = none
      ∧ ({ active with mc := { active.mc with pendingSleep := .announce } } : State).mc.pendingSleep ≠ .none
      ∧ (latched active .beacon .pulse .sending).arb.latch ≠ none ∧ (2 : Byte) ≠ 0 ∧ (2 : Byte) ≠ 1
      ∧ active.hostOpen = true := by decide +kernel

/-- A QUIET sleep is entered with the LOST of the latched beacon (R170). -/
theorem test_quiet_sleep_entered :
    let s := latched active .beacon (.frame (frame .beacon 4 31 0 false .only [10, 0, 0])) .arbitration
    let q := { s with mc := { s.mc with pendingSleep := .quiet } }
    let u := runAll s [.arbitrationLost]
    s.mc.pendingSleep = .none ∧ u.arb.latch = none ∧ u.mc.mode = .active ∧ q.arb.latch ≠ none
      ∧ (runAll q [.arbitrationLost]).mc.mode = .sleep ∧ (runAll q [.arbitrationLost]).mc.entryCause = .command := by decide +kernel

theorem test_WakeCommandByMode :
    let asleep := within .sleep (.busy .resync)
    active.mc.mode = .active ∧ asleep.mc.mode = .sleep ∧ asleep.faultCleared = true
      ∧ ({ asleep with mc := { asleep.mc with safeFault := .clash } } : State).faultCleared = false := by decide +kernel

theorem test_ResumeLeavesSafeWhenTheFaultIsCleared :
    let safe := within .safe (.busy .resync)
    let stuck := { safe with mc := { safe.mc with safeFault := .stuck }, line := { safe.line with stuck := true } }
    safe.mc.mode = .safe ∧ safe.faultCleared = true ∧ stuck.mc.mode = .safe ∧ stuck.faultCleared = false := by decide +kernel

theorem test_LimpAssertedBySafeReleasedByTheHost :
    let s := { active with mc := { active.mc with limp := true } }
    s.mc.mode = .active ∧ (runAll s [.clearLimp]).mc.limp = false ∧ (runAll s [.softReset]).mc.limp = false
      ∧ active.mc.limp = false ∧ (runAll active [.lineStuck]).mc.limp = true ∧ configured.mc.mode ≠ .active := by decide +kernel

theorem test_ChannelCommandsRefusedInOrder :
    16 ≤ (16 : Byte).toNat ∧ (15 : Byte).toNat = (15 : ChanId).val ∧ (active.cfg 15).kind = .off
      ∧ (active.cfg 0).kind = .send ∧ ((withState active 0 .running).ctx 0).state ≠ .stopped
      ∧ (active.ctx 0).state = .stopped ∧ (active.cfg 1).kind = .take ∧ (active.cfg 3).kind = .publish := by decide +kernel

theorem test_StartTakenByKind :
    (0 : Byte).toNat = (0 : ChanId).val ∧ (active.cfg 0).kind = .send ∧ (active.cfg 0).peerStation.toNat = (9 : Station).val
      ∧ (active.ctx 0).state = .stopped ∧ (active.cfg 1).kind = .take ∧ (active.cfg 2).kind = .subscribe
      ∧ (let s := active.modCtx 3 fun x => { x with fetched := [(region 0 8 true false false).copy 12] }
         (s.cfg 3).kind = .publish ∧ holdsEnd (s.ctx 3).fetched = true ∧ (s.ctx 3).state = .stopped)
      ∧ (let s := active.modCtx 3 fun x => { x with walker := 12, msgStart := 12 }
         let v := { s with slots := s.slots.set 12 (region 4088 8 true false false) }
         holdsEnd (s.ctx 3).fetched = false ∧ (s.ctx 3).haltReq = false ∧ (s.ctx 3).fetched = [] ∧ (s.slot 12).valid = false
           ∧ (v.slot 12).valid = true ∧ (v.slot 12).endMark = true
           ∧ (v.slot 12).offset.toNat + (v.slot 12).length.toNat ≤ 4096
           ∧ listBytes (v.ctx 3).fetched + (v.slot 12).length.toNat ≤ (v.cfg 3).maxPayload
           ∧ ((runAll v [.start 3]).ctx 3).state = .running ∧ ((runAll s [.start 3]).ctx 3).state = .drained) := by decide +kernel

theorem test_HaltTakenAtOnceOrDeferred :
    let s := withState active 0 .running
    s.mc.mode ≠ .setup ∧ (s.cfg 0).kind ≠ .off ∧ (s.ctx 0).state ≠ .stopped ∧ (s.ctx 0).state ≠ .halted
      ∧ s.ownsLatch 0 = false ∧ (latched s (.channel 0) .pulse .sending).ownsLatch 0 = true := by decide +kernel

/-- A HALT that waits is carried out at the end of the attempt (R51): in arbitration, at SENT, and at each answer. -/
theorem test_deferred_halt :
    let img := frame .publish 4 31 3 false .only [1]
    let s := latched (withState active 3 .running) (.channel 3) (.frame img) .arbitration
    let s := s.modCtx 3 fun x => { x with haltReq := true, walker := 13, fetched := [(region 0 1 true false false).copy 12] }
    let a := (awaiting (frame .data 4 9 0 false .only [1]) .running 6).modCtx 0 fun x => { x with haltReq := true }
    let b := { (a.modCtx 0 fun x => { x with nak := 1 }) with station := { a.station with nakPatience := 2 } }
    s.mc.mode = .active ∧ s.mc.pendingSleep ≠ .quiet ∧ (s.ctx 3).haltReq = true ∧ (s.cfg 3).kind = .publish
      ∧ ((runAll s [.arbitrationLost]).ctx 3).haltCause = .host ∧ ((runAll s [.ownFrameEnd]).ctx 3).haltCause = .host
      ∧ (a.ctx 0).haltReq = true ∧ (a.ctx 0).retry < a.station.retryLimit.toNat ∧ a.station.nakPatience = 0
      ∧ ((runAll a [.windowClose none]).ctx 0).haltCause = .host
      ∧ ((runAll a [.windowClose (some 0xA5)]).ctx 0).haltCause = .peerHalt
      ∧ b.station.nakPatience.toNat ≤ (b.ctx 0).nak + 1
      ∧ ((runAll b [.windowClose (some 0x99)]).ctx 0).haltCause = .peerBusy
      ∧ ({ b with station := { b.station with nakPatience := 3 } } : State).station.nakPatience.toNat = (b.ctx 0).nak + 2 := by
  decide +kernel

theorem test_ClearAbortsTheSendingRing :
    let s := withState active 0 .halted
    let v := { s with slots := s.slots.set 0 (region 0 8 false true false) }
    s.mc.mode ≠ .setup ∧ (s.cfg 0).kind = .send ∧ (s.ctx 0).state = .halted ∧ (s.slot (ringStep (s.cfg 0) 0 0)).valid = false
      ∧ (v.slot (ringStep (v.cfg 0) 0 0)).valid = true ∧ (v.slot (ringStep (v.cfg 0) 0 1)).valid = false
      ∧ 1 ≤ (v.cfg 0).ringLength.toNat := by decide +kernel

/-- Every index of `active` in its ring, once the contexts stand at their starting slots. -/
theorem test_IndexesInRing_met : (runAll configured [.join]).IndexesInRing := by
  unfold State.IndexesInRing ChanConfig.inRing; decide +kernel

theorem test_ClearCutsTheTakingChannel :
    let s := withState active 1 .halted
    let o := s.modCtx 1 fun x => { x with current := some ((region 4088 8 false true true).copy 4), openMsg := true }
    (s.cfg 1).kind = .take ∧ (s.ctx 1).state = .halted ∧ (s.ctx 1).current = none ∧ (o.ctx 1).current.isSome = true
      ∧ (active.cfg 2).kind = .subscribe ∧ ((withState active 2 .halted).ctx 2).state = .halted := by decide +kernel

theorem test_KickRetriesTheFetchInDrained :
    let s := withState active 0 .drained
    let v := { s with slots := s.slots.set 0 (region 4088 8 true false false) }
    ((withState active 0 .opening).ctx 0).state = .opening ∧ (s.ctx 0).state = .drained ∧ (s.ctx 0).haltReq = false
      ∧ needMet (s.cfg 0) (s.ctx 0) = false ∧ (s.ctx 0).fetched = [] ∧ (s.slot (s.ctx 0).walker).valid = false
      ∧ (v.slot 0).valid = true ∧ (v.slot 0).endMark = true ∧ (v.slot 0).offset.toNat + (v.slot 0).length.toNat ≤ 4096
      ∧ ((s.modCtx 0 fun x => { x with haltReq := true }).ctx 0).haltReq = true := by decide +kernel

/-- Channel 0 drained with a list of the slots before the walker, each a region of one byte with no end mark. -/
def short (walker : Nat) (next : Slot) : State :=
  let d := region 0 1 false true false
  let s := withState active 0 .drained
  let s := { s with slots := (((s.slots.set 0 d).set 1 d).set 2 d).set (Fin.ofNat 64 walker) next }
  s.modCtx 0 fun x => { x with fetched := (List.range walker).map fun i => d.copy (Fin.ofNat 64 i), walker := Fin.ofNat 64 walker }

/-- The list covers the ring but for its last slot, which is valid, in range and without end: TOO_LONG, all four (R65). -/
theorem test_kick_too_long :
    let s := short 3 (region 0 1 false false false)
    let t := runAll s [.kick 0]
    (s.ctx 0).walker ≠ (s.ctx 0).msgStart ∧ needMet (s.cfg 0) (s.ctx 0) = false ∧ (s.cfg 0).next 3 = (s.ctx 0).msgStart
      ∧ listBytes (s.ctx 0).fetched + (s.slot 3).length.toNat < (s.ctx 0).stream + (s.cfg 0).maxPayload
      ∧ (s.slot 3).valid = true ∧ (s.slot 3).endMark = false ∧ (t.slot 0).status = 8 ∧ (t.slot 2).status = 8
      ∧ (t.slot 3).status = 8 ∧ (t.ctx 0).state = .halted ∧ (t.ctx 0).haltCause = .descError := by decide +kernel

/-- A slot past the end of Buffer RAM after two good ones: BAD_RANGE, with the two ABORTED (R64). -/
theorem test_kick_bad_range :
    let s := short 2 (region 4090 8 false false false)
    let t := runAll s [.kick 0]
    4096 < (s.slot 2).offset.toNat + (s.slot 2).length.toNat ∧ (s.slot 2).valid = true ∧ (t.slot 0).status = 7
      ∧ (t.slot 1).status = 7 ∧ (t.slot 2).status = 6 ∧ (t.ctx 0).walker = 3 ∧ (t.notice.channels.get 0).done = true := by
  decide +kernel

/-- A publication over the largest payload: TOO_LONG, both slots (R65). -/
theorem test_kick_long_publication :
    let s := withState active 3 .drained
    let s := { s with slots := (s.slots.set 12 (region 0 8 false false false)).set 13 (region 8 1 true false false) }
    let s := s.modCtx 3 fun x => { x with fetched := [(region 0 8 false false false).copy 12], walker := 13, msgStart := 12 }
    let t := runAll s [.kick 3]
    (s.cfg 3).kind = .publish ∧ needMet (s.cfg 3) (s.ctx 3) = false ∧ (s.ctx 3).walker ≠ (s.ctx 3).msgStart
      ∧ (s.cfg 3).maxPayload < listBytes (s.ctx 3).fetched + (s.slot 13).length.toNat ∧ (t.slot 12).status = 8
      ∧ (t.slot 13).status = 8 := by decide +kernel

/-! ### Hypotheses met: registers, Buffer RAM, descriptors -/

theorem test_ConfigurationWrittenInSetupReadsBack :
    configured.mc.mode = .setup
      ∧ ∀ a ∈ [0x001, 0x00A, 0x200, 0x27F],
          (BitVec.ofNat 16 a).toNat = a ∧ ((1 ≤ a ∧ a ≤ 0x00A) ∨ (0x200 ≤ a ∧ a ≤ 0x27F)) := by decide +kernel

theorem test_RestartLimitWritten :
    ∀ v ∈ ([1, 14] : List Byte), ¬ ((8 : Word).toNat = 8 ∧ (v.extractLsb' 0 4 = 0 ∨ v.extractLsb' 0 4 = 15)) := by decide +kernel

theorem test_RegisterWritesRefusedOrIgnored :
    active.mc.mode ≠ .setup ∧ configured.mc.mode = .setup ∧ (0x00A : Word).toNat ≤ 0x00A
      ∧ ((0x27F : Word).toNat - 0x200) / 8 = (15 : ChanId).val ∧ ((0x200 : Word).toNat - 0x200) / 8 = (0 : ChanId).val
      ∧ (0x10 : Byte).extractLsb' 0 4 = 0 ∧ (0x0F : Byte).extractLsb' 0 4 = 15
      ∧ ∀ a ∈ [0x00B, 0x02F, 0x033, 0x038, 0x03F, 0x050, 0x1FF, 0x280, 0xFFFF],
          (BitVec.ofNat 16 a).toNat = a
            ∧ ((0x00A < a ∧ a < 0x030) ∨ a = 0x033 ∨ (0x037 < a ∧ a < 0x040) ∨ (0x04F < a ∧ a < 0x200) ∨ 0x27F < a) := by decide +kernel

theorem test_NoticeFollowsTheEnabledFlags :
    (runAll active [.registerWrite 0x031 0x01, .registerWrite 0x032 0x80, .lineStuck]).noticeLow = true
      ∧ (runAll active [.registerWrite 0x031 0x01, .lineStuck]).noticeLow = false := by decide +kernel

theorem test_OwnAddressWriteMovesSelf : active.mc.mode ≠ .setup ∧ configured.mc.mode = .setup ∧ configured.SelfExact := by
  unfold State.SelfExact; decide +kernel

theorem test_ClearDoneReleasesAHoldingChannel :
    let s := withState active 0 .holding
    let v := { s with slots := s.slots.set 0 (region 4088 8 true false false) }
    (active.ctx 0).state ≠ .holding ∧ (s.ctx 0).state = .holding ∧ (s.cfg 0).kind.sends = true ∧ (s.ctx 0).haltReq = false
      ∧ (s.ctx 0).fetched = [] ∧ (s.cfg 0).maxPayload ≠ 0 ∧ (s.ctx 0).stream = 0 ∧ (s.slot (s.ctx 0).walker).valid = false
      ∧ (active.cfg 1).kind.sends = false ∧ ((withState active 1 .holding).ctx 1).state = .holding ∧ (v.slot 0).valid = true
      ∧ (v.slot 0).endMark = true ∧ (v.slot 0).offset.toNat + (v.slot 0).length.toNat ≤ 4096
      ∧ ((runAll v [.clearDone 0]).ctx 0).state = .running ∧ ((runAll s [.clearDone 0]).ctx 0).state = .drained := by decide +kernel

/-- One byte that clears DONE with DRAINED: the release's fetch sets DRAINED again (log entry 39). -/
theorem test_done_and_drained_cleared_together :
    let s := withState active 0 .holding
    ((runAll s [.clearNoticeFlags (.channel 0) 0x05]).notice.channels.get 0) = { ChanFlags.clear with drained := true } := by decide +kernel

theorem test_OnesClearFlagsAndMarks :
    (0xFE : Byte).getLsbD 0 = false ∧ (active.ctx 0).state ≠ .holding ∧ (30 : Station).val / 8 = (3 : Fin 4).val
      ∧ (0x05 : Byte).getLsbD 0 = true ∧ ((withState active 0 .holding).ctx 0).state = .holding
      ∧ ((withState active 1 .holding).ctx 1).state = .holding ∧ (active.cfg 0).kind.sends = true
      ∧ (active.cfg 1).kind.sends = false
      ∧ ((runAll (withState active 1 .holding) [.clearNoticeFlags (.channel 1) 0x01]).ctx 1).state = .running := by decide +kernel

/-! ### Hypotheses met: walks of a ring over several slots -/

/-- Channel `c` in a state, at slot `i` of its ring, with slots written from there on. -/
def ringWith (c : ChanId) (x : ChanState) (i : SlotId) (slots : List Slot) : State :=
  let s := withState active c x
  let put := fun (t : Table 64 Slot) (k : Nat) => t.set (i + Fin.ofNat 64 k) (slots.getD k .reset)
  let s := { s with slots := (List.range slots.length).foldl put s.slots }
  s.modCtx c fun y => { y with walker := i, msgStart := i }

/-- A slot with its notify mark and a length. -/
def piece (length : Nat) (endMark : Bool) : Slot := region 0 length endMark true false

/-- The ends of a fetch (R63 to R65) after two slots, one, one, a round of four, and one of a publication. -/
theorem test_fetch_ends :
    let met := ringWith 0 .drained 0 [piece 4 false, piece 4 false]
    let dry := ringWith 0 .running 0 [piece 4 false]
    let bad := ringWith 0 .drained 0 [piece 4 false, region 4089 8 false false false]
    let round := ringWith 0 .drained 0 [piece 1 false, piece 1 false, piece 1 false, piece 1 false]
    let size := ringWith 3 .drained 12 [piece 5 false, piece 4 true]
    met.FetchAdds 0 (met.ctx 0) 2 ∧ needMet (met.cfg 0) { met.ctx 0 with fetched := met.listAfter 0 (met.ctx 0) 2 } = true
      ∧ dry.FetchAdds 0 (dry.ctx 0) 1 ∧ needMet (dry.cfg 0) { dry.ctx 0 with fetched := dry.listAfter 0 (dry.ctx 0) 1 } = false
      ∧ (dry.slot ((dry.cfg 0).after 0 1)).valid = false
      ∧ bad.FetchAdds 0 (bad.ctx 0) 1 ∧ needMet (bad.cfg 0) { bad.ctx 0 with fetched := bad.listAfter 0 (bad.ctx 0) 1 } = false
      ∧ round.FetchAdds 0 (round.ctx 0) 4 ∧ round.listAfter 0 (round.ctx 0) 4 ≠ [] ∧ (round.cfg 0).after 0 4 = (round.ctx 0).msgStart
      ∧ needMet (round.cfg 0) { round.ctx 0 with fetched := round.listAfter 0 (round.ctx 0) 4 } = false
      ∧ size.FetchAdds 3 (size.ctx 3) 1 ∧ (size.cfg 3).maxPayload < listBytes (size.listAfter 3 (size.ctx 3) 2)
      ∧ needMet (size.cfg 3) { size.ctx 3 with fetched := size.listAfter 3 (size.ctx 3) 1 } = false := by
  refine ⟨?_, ?_, ?_, ?_, ?_, ?_, ?_, ?_, ?_, ?_, ?_, ?_, ?_, ?_⟩ <;> first | decide +kernel | (unfold State.FetchAdds; decide +kernel)

/-- The same ends after a KICK: states, walker, and the status codes written back. -/
theorem test_fetch_ends_run :
    let run := fun (c : ChanId) slots =>
      let i : SlotId := if c = 0 then 0 else 12
      let t := runAll (ringWith c .drained i slots) [.kick (BitVec.ofNat 8 c.val)]
      ((t.ctx c).state, (t.ctx c).walker.val, (t.slot i).status.toNat, (t.slot (i + 1)).status.toNat)
    run 0 [piece 4 false, piece 4 false] = (.running, 2, 0, 0) ∧ run 0 [piece 4 false] = (.drained, 1, 0, 0)
      ∧ run 0 [piece 4 false, region 4089 8 false false false] = (.halted, 2, 7, 6)
      ∧ run 0 [piece 1 false, piece 1 false, piece 1 false, piece 1 false] = (.halted, 0, 8, 8)
      ∧ run 3 [piece 5 false, piece 4 true] = (.halted, 12, 8, 8) := by decide +kernel

/-- The ends of a space search (R69) after two short slots, a round of four, one before the current descriptor, and one before a
slot out of range; a message of slots of its own. -/
theorem test_search_ends :
    let found := ringWith 1 .running 4 [piece 7 false, piece 7 false, piece 8 false]
    let round := ringWith 1 .running 4 [piece 7 false, piece 7 false, piece 7 false, piece 7 false]
    let current := (ringWith 1 .running 4 [piece 7 false]).modCtx 1 fun x => { x with current := some ((piece 8 false).copy 5) }
    let bad := ringWith 1 .running 4 [piece 7 false, region 4089 8 false false false]
    let heard := fun (s : State) =>
      let t := runAll { s with line := { s.line with state := .busy .frame } } [.frameEnd (frame .data 9 4 1 false .only [1]).bytes]
      (t.line.response.map (·.answer), (t.ctx 1).walker.val, (t.notice.channels.get 1).done)
    found.SearchPasses 1 2 ∧ round.SearchPasses 1 4 ∧ current.SearchPasses 1 1 ∧ bad.SearchPasses 1 1
      ∧ (current.cfg 1).after 4 1 = 5 ∧ (round.cfg 1).ringLength.toNat = 4 ∧ heard found = (some .ack, 6, true)
      ∧ heard round = (some .nak, 4, true) ∧ heard current = (some .nak, 5, true) ∧ heard bad = (some .halt, 6, true)
      ∧ ([(piece 8 false).copy 0, (piece 8 true).copy 1].map fun k => k.slot).Nodup := by
  refine ⟨?_, ?_, ?_, ?_, ?_, ?_, ?_, ?_, ?_, ?_, ?_⟩ <;> first | decide +kernel | (unfold State.SearchPasses; decide +kernel)

theorem test_BufferAndReadTransactionsMoveEachByte :
    let t := spi active [0x41, 0x0F, 0xFF, 0xAA, 0xBB]
    active.hostOpen = true ∧ Memory.wf active.ram ∧ Memory.read t.ram 0xFFF = 0xAA ∧ Memory.read t.ram 0 = 0xBB
      ∧ Memory.read t.ram 1 = 0 ∧ (runAll t [.bufferRead 0x0FFF 1]).port.shifted = [0xBB]
      ∧ (runAll t [.descriptorRead 68 0]).port.shifted = (active.slot 4).bytes ∧ active.resetFalls.resetLow = true := by
  decide +kernel

theorem test_DescriptorWriteReplacesTheSlot :
    let t := spi active [0x61, 63, 0xF0, 0xFF, 0xF8, 0, 8, 0, 0, 1, 0x80, 2]
    ([1, 2, 3, 4, 5, 6, 7] : List Byte).length ≠ 8 ∧ (t.slot 63).bytes = [0xF0, 0x0F, 0xF8, 0, 8, 0, 0, 1]
      ∧ t.slot 0 = active.slot 0 := by decide +kernel

/-- A register field of two bytes and a byte that is a field by itself (R178, R184). -/
theorem test_TransactionEndSetsLastRefused :
    active.hostOpen = true ∧ active.selectFalls.resetFalls.hostOpen = false ∧ (0x22 : Byte) ∉ ([0x20, 0x21, 0x40, 0x41, 0x60, 0x61, 0x80] : List Byte)
      ∧ ((0x00 : Byte) ++ (0x16 : Byte) + BitVec.ofNat 16 1).toNat = 0x016 + 1 ∧ takenAt 0x0016 1 = 0
      ∧ takenAt 0x0017 0 = 0 ∧ takenAt 0x0300 2 = 2 ∧ takenAt 0x0300 9 = 7 ∧ takenAt 0xFFFF 1 = 1 := by decide +kernel

/-! ### Hypotheses met: the line in reception -/

/-- No attempt is latched. -/
theorem none_latched (s : State) (h : s.arb.latch = none) (p : Attempt → Prop) : ∀ a, s.arb.latch = some a → p a := by
  intro a e; rw [h] at e; cases e

/-- The frames these tests receive are admitted ones. -/
theorem test_frames_admitted :
    (frame .openF 9 4 1 false .only []).admitted ∧ (frame .data 9 4 1 false .only [1]).admitted
      ∧ (frame .publish 12 31 3 false .only [1]).admitted ∧ (frame .beacon 9 31 0 false .only [0, 15, 2]).admitted
      ∧ (frame .sleep 9 31 0 false .only []).admitted ∧ (frame .openF 4 9 1 false .only []).admitted := by
  refine ⟨?_, ?_, ?_, ?_, ?_, ?_⟩ <;> unfold Frame.admitted <;> decide +kernel

/-- The station hears an admitted frame of another station. -/
theorem hears (s : State) (f : Frame) (a : f.admitted) (m : s.mc.mode = .active) (l : s.line.state = .busy .frame)
    (t : s.arb.latch = none) (o : f.source ≠ s.station.ownAddress) : s.Hears f :=
  ⟨a, .inr m, l, none_latched s t _, o⟩

theorem test_FrameReadBackFromItsBytes : ∃ f : Frame, f.admitted := ⟨_, test_frames_admitted.1⟩

theorem test_LinePhasesFollowStartBitsAndGaps :
    let gap := within .active (.busy .gap)
    let w := latched gap .beacon (.frame (frame .beacon 4 31 0 false .only [10, 0, 0])) .waiting
    active.line.state = .idle ∧ gap.line.state = .busy .gap ∧ gap.arb.latch = none
      ∧ w.arb.latch.map (·.phase) = some .waiting ∧ (within .listen (.busy .resync)).mc.mode = .listen
      ∧ (within .safe (.busy .resync)).mc.mode = .safe := by decide +kernel

/-- R4, R17: a response byte sent to its end in a window that is broken leaves the idle count of its last bits. -/
theorem test_response_in_a_broken_window :
    let t := runAll (answering .openF false none) [.windowOutOfPlace, .responseByteEnd]
    t.line.state = .busy .resync ∧ t.line.idleCount = 3 ∧ t.line.dominantBits = 0 ∧ t.line.response = none := by decide +kernel

/-- R4, R11: the bit counts at a framing error reach back into the byte before it. -/
theorem test_framing_error_counts :
    let s := fun k => (runAll (within .active (.busy .frame)) [.framingError k]).line
    (s (.missingStart 0x00)).idleCount = 2 ∧ (s (.missingStart 0xC3)).idleCount = 4 ∧ (s (.missingStart 0xFF)).idleCount = 10
      ∧ (s (.dominantStop 0xFF)).dominantBits = 1 ∧ (s (.dominantStop 0xF8)).dominantBits = 4
      ∧ (s (.dominantStop 0x00)).dominantBits = 10 ∧ (s (.dominantStop 0x00)).idleCount = 0 := by decide +kernel

theorem test_BadFramesEnterResync :
    let s := within .active (.busy .frame)
    s.mc.mode = .active ∧ s.line.state = .busy .frame ∧ s.arb.latch = none ∧ headerGood 0x53 0x40 0x20 0x00 = false
      ∧ ({ s with line := { s.line with heldError := true } } : State).line.heldError = true := by decide +kernel

theorem test_LineErrorCountRisesFallsAndEscalates :
    let s := fun e r => ({ active with mc := { active.mc with lineErrors := e, restarts := r } } : State)
    min 255 ((s 119 0).mc.lineErrors + 8) < 128 ∧ 128 ≤ min 255 ((s 120 0).mc.lineErrors + 8)
      ∧ (s 120 2).mc.restarts + 1 < (s 120 2).station.restartLimit.toNat
      ∧ (s 120 3).station.restartLimit.toNat ≤ (s 120 3).mc.restarts + 1 ∧ (s 95 0).mc.lineErrors < 96
      ∧ 96 ≤ min 255 ((s 95 0).mc.lineErrors + 1) ∧ configured.mc.mode ≠ .listen := by decide +kernel

theorem test_WarnSetAtEachUpwardCrossing :
    let s := { active with mc := { active.mc with lineErrors := 95 } }
    (s.reportRise 1).notice.station.warn = true ∧ s.notice.station.warn = false ∧ (0x08 : Byte).getLsbD 3 = true
      ∧ (runAll (s.reportRise 1) [.wake]).notice.station.warn = true := by decide +kernel

theorem test_ClashesAreWatchedForAndEndInSafe :
    let s := within .active (.busy .frame)
    let bytes := (frame .openF 9 4 1 false .only []).bytes.dropLast ++ [0]
    Frame.ofBytes bytes = some (frame .openF 9 4 1 false .only []) ∧ crcPasses bytes = false ∧ s.arb.latch = none
      ∧ (frame .openF 4 9 1 false .only []).source = s.station.ownAddress
      ∧ ({ s with line := { s.line with clashWatch := true } } : State).line.clashWatch = true := by decide +kernel

theorem test_ValidFrameMakesItsSourcePresent :
    let s := within .active (.busy .frame)
    let f := frame .beacon 9 31 0 false .only [0, 15, 2]
    s.mc.mode = .active ∧ s.line.state = .busy .frame ∧ s.arb.latch = none ∧ f.source ≠ s.station.ownAddress
      ∧ f.source.toNat = (9 : Station).val ∧ (s.entry 9).state ≠ .self ∧ f.payload = [0, 15, 2]
      ∧ (∀ c, s.matches (frame .publish 12 31 4 false .only [1]) c = false)
      ∧ (frame .openF 9 12 1 false .only []).dest ≠ s.station.ownAddress := by decide +kernel

theorem test_AnnounceHeardIsFollowedUnlessBusy :
    let s := within .active (.busy .frame)
    let s := { s with station := { s.station with followSleep := true } }
    let f := frame .sleep 9 31 0 false .only []
    f.kind = .sleep ∧ f.source.toNat = (9 : Station).val ∧ (s.entry 9).state ≠ .self ∧ s.station.followSleep = true
      ∧ (∀ c, (s.ctx c).state = .stopped) ∧ ((withState s 0 .opening).ctx 0).state = .opening := by decide +kernel

theorem test_PublicationStoredOrDropped :
    let s := withState (within .active (.busy .frame)) 2 .running
    let f := frame .publish 12 31 3 false .only [1, 2, 3, 4, 5, 6, 7, 8]
    let v := { s with slots := s.slots.set 0 (region 4088 8 false true false) }
    let b := { s with slots := s.slots.set 0 (region 4089 8 false true false) }
    (s.cfg 2).kind = .subscribe ∧ (s.cfg 2).peerStation = f.source ∧ (s.cfg 2).peerChannel.toNat = f.channel.val
      ∧ (∀ d, d ≠ 2 → s.matches f d = false) ∧ (s.ctx 2).state = .running ∧ ((active.ctx 2).state ≠ .running)
      ∧ f.payload.length ≤ (s.cfg 2).maxPayload ∧ (s.cfg 2).maxPayload < (f.payload ++ [9]).length
      ∧ (s.ctx 2).current = none ∧ 1 ≤ (s.cfg 2).ringLength.toNat ∧ (s.slot (s.ctx 2).walker).valid = false
      ∧ (v.slot 0).valid = true ∧ (v.slot 0).offset.toNat + (v.slot 0).length.toNat ≤ 4096
      ∧ (v.cfg 2).maxPayload ≤ (v.slot 0).length.toNat
      ∧ 4096 < (b.slot 0).offset.toNat + (b.slot 0).length.toNat := by decide +kernel

/-- The publication of the test before is heard. -/
theorem test_publication_heard :
    (within .active (.busy .frame)).Hears (frame .publish 12 31 3 false .only [1]) :=
  hears _ _ test_frames_admitted.2.2.1 rfl rfl rfl (by decide +kernel)

/-! ### Hypotheses met: TAKE channels -/

/-- A frame for channel 1 is heard. -/
theorem test_data_heard : (within .active (.busy .frame)).Hears (frame .data 9 4 1 false .only [1]) :=
  hears _ _ test_frames_admitted.2.1 rfl rfl rfl (by decide +kernel)

theorem test_ResponseDecidedByTheFirstCheckThatApplies :
    let s := withState (within .active (.busy .frame)) 1 .running
    let f := frame .data 9 4 1 false .only [1]
    let at4 := s.modCtx 1 fun x => { x with walker := 4 }
    let open4 :=
      s.modCtx 1 fun x =>
        { x with walker := 5, current := some ((region 4088 8 false true true).copy 4), openMsg := true, bytesUsed := 7 }
    let two := { at4 with slots := (at4.slots.set 4 (region 0 7 false false false)).set 5 (region 0 8 false false false) }
    f.dest = s.station.ownAddress ∧ (s.cfg f.channel).kind = .take ∧ (s.cfg f.channel).peerStation = f.source
      ∧ f.payload.length ≤ (s.cfg 1).maxPayload ∧ (active.cfg 0).kind ≠ .take ∧ (active.ctx 1).state = .stopped
      ∧ ((withState s 1 .holding).ctx 1).state = .holding ∧ ((withState s 1 .halted).ctx 1).state = .halted
      ∧ f.toggle = (s.ctx 1).toggle ∧ (frame .data 9 4 1 true .only []).toggle ≠ (s.ctx 1).toggle
      ∧ (s.ctx 1).openMsg = false ∧ (open4.ctx 1).openMsg = true
      ∧ (open4.ctx 1).bytesUsed + f.payload.length ≤ ((open4.ctx 1).current.map (·.length.toNat)).getD 0
      ∧ ((open4.ctx 1).current.map (·.length.toNat)).getD 0 < (open4.ctx 1).bytesUsed + [1, 2].length
      ∧ 1 ≤ (s.cfg 1).ringLength.toNat ∧ ((open4.ctx 1).current.map fun k => k.slot) ≠ some (open4.ctx 1).walker
      ∧ (s.slot (s.ctx 1).walker).valid = false ∧ (at4.slot 4).valid = true
      ∧ (at4.slot 4).offset.toNat + (at4.slot 4).length.toNat ≤ 4096 ∧ (at4.cfg 1).maxPayload ≤ (at4.slot 4).length.toNat
      ∧ 4096 < (region 4089 8 false false false).offset.toNat + (region 4089 8 false false false).length.toNat
      ∧ (two.slot 4).length.toNat < (two.cfg 1).maxPayload ∧ 2 ≤ (two.cfg 1).ringLength.toNat
      ∧ (two.cfg 1).next 4 = 5 ∧ (two.slot 5).valid = true
      ∧ (two.cfg 1).maxPayload ≤ (two.slot 5).length.toNat := by decide +kernel

theorem test_ResponseByteEndCommitsTheRecord :
    let d := (region 4088 8 false true true).copy 4
    let work := fun t c p => AcceptForm.store { target := t, closes := c, position := p, payload := [1], sum := some 0x0100 }
    (answering .openF true none).line.response = some { answer := .ack, channel := 1 }
      ∧ (answering .openF true none).line.state = .busy .window
      ∧ (answering .openF true none).line.window = some { dest := 4, part := .destination }
      ∧ ∀ s ∈
          [answering .duplicate false none, answering .openF false none, answering .openF false (some d)
            , answering (work .current .nothing .middle) false (some d), answering (work .current .nothing .last) false (some d)
            , answering (work (.found d) .nothing .first) false none, answering (work (.found d) .nothing .only) false none
            , answering (work (.found { d with slot := 5 }) .cut .first) false (some d)
            , answering (work (.found { d with slot := 5 }) .done .middle) false (some d)
            , answering (work (.found { d with slot := 5 }) .cut .only) false (some d)
            , answering (work (.found { d with slot := 5 }) .done .last) false (some d)],
          (s.ctx 1).acceptance.isSome = true ∧ ((s.ctx 1).openMsg = true ↔ (s.ctx 1).current.isSome = true)
            ∧ s.line.response = some { answer := .ack, channel := 1 } := by decide +kernel

/-! ### Hypotheses met: the station's own attempts -/

/-- Channel 0 awaits the answer. -/
theorem test_awaits (img : Frame) (x : ChanState) (retry : Nat) : (awaiting img x retry).Awaits 0 img :=
  { mode := rfl, line := rfl, window := rfl, latch := rfl, kind := rfl, awake := nofun, running := rfl }

/-- It awaits it with a HALT that waits too. -/
theorem test_at_answer (img : Frame) (x : ChanState) :
    ((awaiting img x 0).modCtx 0 fun y => { y with haltReq := true }).AtAnswer 0 img :=
  { mode := rfl, line := rfl, window := rfl, latch := rfl, kind := rfl, awake := nofun }

theorem test_SendChannelActsOnItsAnswer :
    let s := awaiting (frame .openF 4 9 0 false .only []) .opening 6
    let patient := fun n (k : Nat) =>
      { (s.modCtx 0 fun x => { x with nak := k }) with station := { s.station with nakPatience := BitVec.ofNat 8 n } }
    (s.ctx 0).retry < s.station.retryLimit.toNat ∧ s.station.nakPatience = 0 ∧ (s.cfg 0).peerStation.toNat = (9 : Station).val
      ∧ (s.entry 9).state ≠ .self ∧ ((patient 2 0).ctx 0).nak + 1 < (patient 2 0).station.nakPatience.toNat
      ∧ (patient 2 1).station.nakPatience.toNat ≤ ((patient 2 1).ctx 0).nak + 1 := by decide +kernel

theorem test_ExhaustionMakesThePeerAbsent :
    let s := awaiting (frame .openF 4 9 0 false .only []) .opening 7
    (s.ctx 0).retry = s.station.retryLimit.toNat ∧ (s.cfg 0).peerStation.toNat = (9 : Station).val
      ∧ ((withPeer s .present false).entry 9).state = .present ∧ ((withPeer s .waking false).entry 9).state = .waking
      ∧ ((withPeer s .asleep false).entry 9).state = .asleep ∧ (s.entry 9).state = .absent ∧ (s.ctx 0).state = .opening
      ∧ (s.ctx 0).backoff = none ∧ (s.ctx 0).pacing = none := by decide +kernel

theorem test_AckMovesTheMessageOn :
    let img := frame .data 4 9 0 false .first [1, 2, 3, 4, 5, 6, 7, 8]
    let d := (region 0 16 true true true).copy 0
    let s := (awaiting img .running 0).modCtx 0 fun x => { x with fetched := [d], walker := 1 }
    let short := (awaiting img .running 0).modCtx 0 fun x => { x with fetched := [{ d with endMark := false }], walker := 1 }
    let v := { s with slots := s.slots.set 0 (region 0 16 true true true) }
    needMet (s.cfg 0) (s.ctx 0) = true ∧ (s.ctx 0).state = .running ∧ (s.ctx 0).fetched = [d] ∧ (s.cfg 0).maxPayload ≠ 0
      ∧ (short.ctx 0).walker ≠ (short.ctx 0).msgStart ∧ (short.slot 1).valid = false
      ∧ needMet (short.cfg 0) { short.ctx 0 with stream := 16 } = false
      ∧ ((v.slot 0).notify && (v.slot 0).hold) = true ∧ ((s.slot 0).notify && (s.slot 0).hold) = false := by decide +kernel

theorem test_WindowsCloseForObserversAndDamagedAnswers :
    let s := within .listen (.busy .window)
    let s := { s with line := { s.line with window := some { dest := 9, part := .observer } } }
    let a := fun n => { awaiting (frame .data 4 9 0 false .only [1]) .running 0 with mc := { active.mc with lineErrors := n } }
    s.line.window ≠ none ∧ s.arb.latch = none ∧ (0xC2 : Byte) ≠ 0xC3 ∧ (0xC2 : Byte) ≠ 0x99 ∧ (0xC2 : Byte) ≠ 0xA5
      ∧ (0xC2 : Byte) ≠ 0x96 ∧ (runAll (a 126) [.windowClose none]).mc.lineErrors < 127 ∧ 127 ≤ (a 127).mc.lineErrors
      ∧ (runAll (a 127) [.windowClose (some 0xC2)]).mc.mode = .restart
      ∧ ((runAll (a 127) [.windowClose (some 0xC2)]).ctx 0).retry = 0
      ∧ ((runAll (a 126) [.windowClose (some 0xC2)]).ctx 0).retry = 1 := by decide +kernel

theorem test_DominantRunsWakeAndStick :
    let asleep := within .sleep (.busy .resync)
    let asleep := { asleep with wake := { asleep.wake with on := true } }
    active.line.ownRun = false ∧ active.arb.latch = none ∧ active.wake.on = false
      ∧ ((withPeer active .asleep false).entry 9).state = .asleep ∧ (active.entry 9).wakeTried = false
      ∧ ((withPeer active .present false).entry 9).state ≠ .asleep ∧ asleep.station.lineWake = true
      ∧ asleep.faultCleared = true ∧ asleep.wake.on = true
      ∧ ({ asleep with mc := { asleep.mc with safeFault := .clash } } : State).faultCleared = false
      ∧ ({ asleep with station := { asleep.station with lineWake := false } } : State).station.lineWake = false
      ∧ ({ asleep with line := { asleep.line with ownRun := true } } : State).line.ownRun = true := by decide +kernel

/-- A withdrawal cuts the open message of a TAKE channel, which holds for its notify and hold marks, and clears the Presence
Table with the marks of what it changes (R114, R115, R138, R154). -/
theorem test_withdrawal :
    let s := (withPeer (withState active 1 .running) .asleep false).modCtx 1 fun x =>
      { x with walker := 5, current := some ((region 4088 8 false true true).copy 4), openMsg := true, bytesUsed := 3, msgNo := 6 }
    let t := runAll s [.lineStuck]
    s.ownsLatch 1 = false ∧ (s.ctx 1).current.isSome = true ∧ t.mc.mode = .safe ∧ (t.slot 4).status = 3 ∧ (t.slot 4).count = 3
      ∧ (t.ctx 1).state = .holding ∧ (t.ctx 1).msgNo = 7 ∧ (t.notice.channels.get 1).done = true
      ∧ t.notice.marks.get 9 = true ∧ t.notice.marks.get 4 = false ∧ t.notice.station.peers = true := by decide +kernel

/-- Channels 0 and 3 with offers in class 1. -/
def offered : State := active.modArb fun a => { a with offers := (a.offers.set 0 true).set 3 true }

theorem test_PickFollowsTheChoiceRule :
    offered.mc.mode = .active ∧ offered.line.state = .idle ∧ offered.arb.latch = none ∧ offered.mc.pendingSleep ≠ .quiet
      ∧ offered.arb.announceOffer = false ∧ offered.arb.wakeRequest = false ∧ offered.arb.beaconOffer = false
      ∧ (∀ d, offered.arb.offers.get d = true → (offered.cfg 0).prio.toNat ≤ (offered.cfg d).prio.toNat)
      ∧ (∀ d, offered.arb.offers.get d = true →
          ((0 : ChanId) - (offered.arb.pointers.get (offered.cfg 0).prio.toFin + 1)).val
            ≤ (d - (offered.arb.pointers.get (offered.cfg 0).prio.toFin + 1)).val)
      ∧ (∀ c, active.arb.offers.get c = false) := by decide +kernel

theorem test_PointersMoveWithPickedChannelsOnly :
    offered.arb.latch = none ∧ (runAll offered [.pick true]).ownsLatch 0 = true
      ∧ (runAll offered [.pick true]).arb.pointers.get 1 = 0 ∧ (runAll active [.pick true]).arb.latch = none := by decide +kernel

/-- A message of chapter 1 in two regions sent by channel 0: the first image. -/
theorem test_PickBuildsTheImageOfThatMoment :
    let s := runAll (withPeer offered .present false) (bufferWrites 0 [0x81, 0x22, 0x90, 0x00, 0x40, 0x10, 0x00, 0x03, 0xC0])
    let s := withState (s.modCtx 0 fun x => { x with fetched := [(region 0 9 true false false).copy 0], walker := 1 }) 0 .running
    s.arb.latch = none
      ∧ (runAll s [.pick true]).image? =
          some
            { prio := 1, source := 4, toggle := false, kind := .data, channel := 0, dest := 9, position := .first
              payload := [0x81, 0x22, 0x90, 0x00, 0x40, 0x10, 0x00, 0x03], chain := none } := by decide +kernel

theorem test_FailedAttemptsAreOfferedAgain :
    let img := frame .openF 4 9 0 false .only []
    let s := latched active (.channel 0) (.frame img) .arbitration
    let k := latched active (.channel 3) (.frame (frame .publish 4 31 3 false .only [1])) .checking
    s.mc.mode = .active ∧ s.mc.pendingSleep ≠ .quiet ∧ (s.ctx 0).haltReq = false
      ∧ s.arb.latch = some { owner := .channel 0, form := .frame img, phase := .arbitration } ∧ (s.cfg 0).kind = .send
      ∧ (s.ctx 0).retry < s.station.retryLimit.toNat ∧ (s.cfg 3).kind = .publish ∧ k.phase? = some .checking
      ∧ (k.ctx 3).haltReq = false ∧ (runAll k [.bitError .runEnded]).mc.lineErrors = 8 := by decide +kernel

theorem test_OwnTransmissionsEndSent :
    let f := frame .publish 4 31 3 false .only [1]
    let d := (region 0 1 true false false).copy 12
    let s := latched (withState active 3 .running) (.channel 3) (.frame f) .sending
    let s := s.modCtx 3 fun x => { x with fetched := [d], walker := 13 }
    s.mc.mode = .active ∧ (s.cfg 3).kind = .publish ∧ (s.ctx 3).state = .running ∧ (s.ctx 3).fetched = [d]
      ∧ ((s.slot 12).notify && (s.slot 12).hold) = false ∧ (s.slot (s.ctx 3).walker).valid = false
      ∧ (latched active .wakeRequest .pulse .pulse).arb.latch =
          some { owner := .wakeRequest, form := .pulse, phase := .pulse } := by decide +kernel

/-! ### Hypotheses met: timers, modes, invariants -/

theorem test_TimersExpire :
    let s := active.modCtx 0 fun x => { x with backoff := some 1 }
    (s.ctx 0).backoff ≠ none ∧ ({ active with beaconTimer := some 1 } : State).beaconTimer ≠ none
      ∧ ((withPeer active .waking false).entry 9).state = .waking ∧ (active.cfg 0).kind = .send
      ∧ (active.cfg 0).peerStation.toNat = (9 : Station).val ∧ active.mc.mode = .active
      ∧ ({ active with presence := { active.presence with settle := some 1 } } : State).presence.settle ≠ none
      ∧ ((active.modCtx 3 fun x => { x with pacing := some 1 }).ctx 3).pacing ≠ none := by decide +kernel

/-- A presence timeout at its age, and one below it, as a frame heard before it leaves it (R134). -/
theorem test_presence_timeout_at_its_age :
    let s := fun n => ({ active with
      presence := { active.presence with entries := active.presence.entries.set 9 { Entry.absent with state := .present, age := n } } } : State)
    ((runAll (s 300) [.presenceTimeout 9]).entry 9).state = .absent ∧ runAll (s 299) [.presenceTimeout 9] = s 299
      ∧ 30 * (((s 300).entry 9).interval.getD (s 300).station.beaconInterval).toNat = 300 := by decide +kernel

theorem test_ModeTimersAndPinMoveTheMode :
    let timed := fun m => ({ within m (.busy .resync) with
      mc := { ModeController.reset with mode := m, listenTimer := some 1, restartTimer := some 1, safeTimer := some 1 } } : State)
    let s := within .sleep (.busy .resync)
    let s := { s with wake := { s.wake with on := true }, station := { s.station with wakePinEnabled := true } }
    (timed .listen).mc.listenTimer ≠ none ∧ (timed .restart).mc.restartTimer ≠ none ∧ (timed .safe).mc.safeTimer ≠ none
      ∧ s.wake.on = true ∧ true ≠ s.wake.accepted ∧ s.station.wakePinEnabled = true ∧ true = s.station.wakePinHigh
      ∧ s.faultCleared = true ∧ active.wake.on = false ∧ configured.station.wakePinEnabled = false := by decide +kernel

/-- The invariants hold of a state in ACTIVE, and a step is taken from it. -/
theorem test_StepKeepsTheInvariants :
    let s := { active with pending := [Instr.lineStuck] }
    Memory.wf s.ram ∧ s.SelfExact ∧ s.RestartsBounded ∧ s.ErrorsBounded ∧ s.ModeConsistent
      ∧ (∀ c, s.arb.offers.get c = s.mayOffer c) ∧ s.arb.latch = none ∧ s.TakingExact
      ∧ (∀ c, (s.ctx c).acceptance = none)
      ∧ (∀ c, (s.ctx c).openMsg = true ↔ (s.ctx c).current.isSome = true)
      ∧ (∀ c, (s.ctx c).retry ≤ s.station.retryLimit.toNat) := by
  unfold State.SelfExact State.RestartsBounded State.ErrorsBounded State.ModeConsistent State.TakingExact; decide +kernel

end Sys2Proof.Tests
end

/-! PROOFS. Frames: their bytes read back (R6, R9), the header check (R8) and the chain sum (R10). -/

namespace Sys2Proof

/-! ### A header byte of three fields (R184) -/

theorem extractLsb'_high {a b c : Nat} (x : BitVec a) (y : BitVec b) (z : BitVec c) :
    (x ++ y ++ z).extractLsb' (b + c) a = x := by
  rw [BitVec.extractLsb'_append_eq_of_le (by omega), Nat.add_sub_cancel, BitVec.extractLsb'_append_eq_left]

theorem extractLsb'_middle {a b c : Nat} (x : BitVec a) (y : BitVec b) (z : BitVec c) :
    (x ++ y ++ z).extractLsb' c b = y := by
  rw [BitVec.extractLsb'_append_eq_of_le le_rfl, Nat.sub_self, BitVec.extractLsb'_append_eq_right]

theorem getLsbD_zero_append_bit {n : Nat} (x : BitVec n) (b : Bool) : (x ++ bit b).getLsbD 0 = b := by
  rw [BitVec.getLsbD_append, if_pos Nat.one_pos, bit, BitVec.getLsbD_ofBool]
  rfl

namespace Frame

theorem h0_prio (f : Frame) : f.h0.extractLsb' 6 2 = f.prio := extractLsb'_high f.prio f.source (bit f.toggle)

theorem h0_source (f : Frame) : f.h0.extractLsb' 1 5 = f.source := extractLsb'_middle f.prio f.source (bit f.toggle)

theorem h0_toggle (f : Frame) : f.h0.getLsbD 0 = f.toggle := getLsbD_zero_append_bit _ _

theorem h1_kind (f : Frame) : f.h1.extractLsb' 5 3 = f.kind.code :=
  extractLsb'_high f.kind.code (BitVec.ofFin (w := 4) f.channel) (bit false)

theorem h1_channel (f : Frame) : (f.h1.extractLsb' 1 4).toFin = f.channel :=
  congrArg BitVec.toFin (extractLsb'_middle f.kind.code (BitVec.ofFin (w := 4) f.channel) (bit false))

theorem h1_zero (f : Frame) : f.h1.getLsbD 0 = false := getLsbD_zero_append_bit _ _

theorem h2_dest (f : Frame) : f.h2.extractLsb' 3 5 = f.dest := extractLsb'_high f.dest f.position.code (bit false)

theorem h2_position (f : Frame) : f.h2.extractLsb' 1 2 = f.position.code :=
  extractLsb'_middle f.dest f.position.code (bit false)

theorem h2_zero (f : Frame) : f.h2.getLsbD 0 = false := getLsbD_zero_append_bit _ _

end Frame

@[simp] theorem FrameKind.ofCode_code (k : FrameKind) : FrameKind.ofCode k.code = some k := by cases k <;> rfl

@[simp] theorem Position.ofCode_code (p : Position) : Position.ofCode p.code = p := by cases p <;> rfl

/-! ### The header check (R8) -/

/-- A header without a format error names a kind, and agrees with it in each field (R8). -/
theorem headerGood_iff_exists_kind (h0 h1 h2 h3 : Byte) :
    headerGood h0 h1 h2 h3 = true ↔
      ∃ k, FrameKind.ofCode (h1.extractLsb' 5 3) = some k ∧ h1.getLsbD 0 = false ∧ h2.getLsbD 0 = false
        ∧ h0.extractLsb' 1 5 ≠ 31 ∧ (h0.getLsbD 0 = true → k = .data)
        ∧ (Position.ofCode (h2.extractLsb' 1 2) ≠ .only → k = .data)
        ∧ (h2.extractLsb' 3 5 = allStations ↔ k.broadcast = true) ∧ lengthFits k h3.toNat = true := by
  unfold headerGood
  cases FrameKind.ofCode (h1.extractLsb' 5 3) with
  | none => simp
  | some k =>
    have hdest : (h2.extractLsb' 3 5 == allStations) = k.broadcast ↔
        (h2.extractLsb' 3 5 = allStations ↔ k.broadcast = true) := by
      rw [Bool.eq_iff_iff, beq_iff_eq]
    simp [and_assoc, imp_iff_not_or, or_comm, hdest]

/-- The fields of a header byte as numbers (R184). -/
theorem field_toNat (b : Byte) (i n : Nat) : (b.extractLsb' i n).toNat = b.toNat / 2 ^ i % 2 ^ n := by
  rw [BitVec.extractLsb'_toNat, Nat.shiftRight_eq_div_pow]

theorem lowBit_iff (b : Byte) : b.getLsbD 0 = true ↔ b.toNat % 2 = 1 := by
  rw [← BitVec.testBit_toNat, Nat.testBit_zero, decide_eq_true_iff]

/-- A code names the kind that has it. -/
theorem FrameKind.ofCode_eq_some_iff (w : BitVec 3) (k : FrameKind) : FrameKind.ofCode w = some k ↔ w = k.code := by
  revert w; cases k <;> decide

theorem Position.ofCode_eq_only_iff (w : BitVec 2) : Position.ofCode w = .only ↔ w = 0 := by
  revert w; decide

/-- DATA frames are those of code 1 (R6). -/
theorem FrameKind.eq_data_iff (k : FrameKind) : k = .data ↔ k.code.toNat = 1 := by cases k <;> decide

/-- The kinds without a response window are those of codes 3 to 5 (R6). -/
theorem FrameKind.broadcast_iff (k : FrameKind) :
    k.broadcast = true ↔ k.code.toNat = 3 ∨ k.code.toNat = 4 ∨ k.code.toNat = 5 := by cases k <;> decide

/-- The codes of the five kinds (R6, R8). -/
theorem FrameKind.exists_code_iff {n : Nat} (h : n < 8) :
    (∃ k : FrameKind, n = k.code.toNat) ↔ n ≠ 0 ∧ n ≠ 6 ∧ n ≠ 7 := by
  constructor
  · rintro ⟨k, rfl⟩; cases k <;> decide
  · rintro ⟨h0, h6, h7⟩
    obtain rfl | rfl | rfl | rfl | rfl : n = 1 ∨ n = 2 ∨ n = 3 ∨ n = 4 ∨ n = 5 := by omega
    exacts [⟨.data, rfl⟩, ⟨.openF, rfl⟩, ⟨.publish, rfl⟩, ⟨.beacon, rfl⟩, ⟨.sleep, rfl⟩]

/-- The lengths that agree with a kind, by its code (R7). -/
theorem lengthFits_iff (k : FrameKind) (n : Nat) :
    lengthFits k n = true ↔
      (k.code.toNat = 2 ∨ k.code.toNat = 5 → n = 0) ∧ (k.code.toNat = 4 → n = 3)
        ∧ (k.code.toNat = 1 ∨ k.code.toNat = 3 → n ≤ 32) := by
  have hmax : n ≤ Config.maxFramePayload ↔ n ≤ 32 := Iff.rfl
  cases k <;> simp [lengthFits, FrameKind.code, hmax]

/-- Settles O31: each field of R8 is read as a number, and the kind that the header names as the one whose code it has. -/
theorem headerGoodExactlyWithoutFormatError : Obligations.HeaderGoodExactlyWithoutFormatError := by
  intro h0 h1 h2 h3 kind position
  have hkind : kind < 8 := by have := h1.isLt; omega
  have hcode : ∀ k, FrameKind.ofCode (h1.extractLsb' 5 3) = some k ↔ kind = k.code.toNat := fun k => by
    rw [FrameKind.ofCode_eq_some_iff, ← BitVec.toNat_inj, field_toNat]
    exact iff_of_eq (congrArg (· = _) (Nat.mod_eq_of_lt hkind))
  have hposition : Position.ofCode (h2.extractLsb' 1 2) = .only ↔ position = 0 := by
    rw [Position.ofCode_eq_only_iff, ← BitVec.toNat_inj, field_toNat]; rfl
  have hsource : h0.extractLsb' 1 5 = 31 ↔ h0.toNat / 2 % 32 = 31 := by
    rw [← BitVec.toNat_inj, field_toNat]; rfl
  have hdest : h2.extractLsb' 3 5 = allStations ↔ h2.toNat / 8 = 31 := by
    have := h2.isLt
    rw [← BitVec.toNat_inj, field_toNat, Nat.mod_eq_of_lt (by omega)]; rfl
  have hlength : ∀ n : Byte, h3 = n ↔ h3.toNat = n.toNat := fun n => BitVec.toNat_inj.symm
  simp only [headerGood_iff_exists_kind, hcode, hposition, hsource, hdest, hlength, ← Bool.not_eq_true, lowBit_iff,
    Nat.mod_two_not_eq_one, ne_eq, FrameKind.eq_data_iff, FrameKind.broadcast_iff, lengthFits_iff]
  clear_value kind position
  constructor
  · rintro ⟨k, hk, z1, z2, s, t, p, d, l⟩
    obtain ⟨k0, k6, k7⟩ := (FrameKind.exists_code_iff hkind).1 ⟨k, hk⟩
    rw [← hk] at t p d l
    exact ⟨z1, z2, s, k0, k6, k7, t, p, d, l⟩
  · rintro ⟨z1, z2, s, k0, k6, k7, t, p, d, l⟩
    obtain ⟨k, hk⟩ := (FrameKind.exists_code_iff hkind).2 ⟨k0, k6, k7⟩
    rw [hk] at t p d l
    exact ⟨k, hk, z1, z2, s, t, p, d, l⟩

/-! ### A frame and its bytes (R6, R9) -/

/-- No kind admits a payload above 32 bytes (R6, R7). -/
theorem length_le_of_lengthFits {k : FrameKind} {n : Nat} (h : lengthFits k n = true) : n ≤ 32 := by
  obtain ⟨h0, h3, hmax⟩ := (lengthFits_iff k n).1 h
  cases k <;> simp [FrameKind.code] at h0 h3 hmax <;> omega

theorem wordBytes_length (w : Word) : (wordBytes w).length = 2 := rfl

theorem wordOf_wordBytes (w : Word) : wordOf (w.extractLsb' 8 8) (w.extractLsb' 0 8) = w :=
  (BitVec.extractLsb'_append_extractLsb'_eq_extractLsb' (Nat.zero_add 8).symm).trans BitVec.extractLsb'_eq_self

/-- The CRC that ends an image passes (R9). -/
theorem crcPasses_append_crc (body : List Byte) : crcPasses (body ++ wordBytes (crc16 body)) = true := by
  simp [crcPasses, wordBytes_length]

namespace Frame

theorem crcPasses_bytes (f : Frame) : crcPasses f.bytes = true := crcPasses_append_crc f.body

/-- The chain sum takes two bytes where it stands (R6). -/
theorem chainBytes_length (f : Frame) : f.chainBytes.length = if f.chain.isSome then 2 else 0 := by
  unfold chainBytes
  cases f.chain <;> rfl

theorem bytes_eq (f : Frame) :
    f.bytes = f.h0 :: f.h1 :: f.h2 :: f.h3 :: (f.payload ++ (f.chainBytes ++ wordBytes (crc16 f.body))) := by
  simp [bytes, body]

/-- The length of a whole image (R6). -/
theorem bytes_length (f : Frame) : f.bytes.length = 4 + f.payload.length + (if f.chain.isSome then 4 else 2) := by
  simp only [bytes_eq, List.length_cons, List.length_append, chainBytes_length, wordBytes_length]
  split <;> omega

/-- The chain sum read behind the payload of an image is the frame's (R6). -/
theorem chain_read (f : Frame) (crc : List Byte) (h : f.chain.isSome = carriesChain f.kind f.position) :
    (if carriesChain f.kind f.position then
      match f.chainBytes ++ crc with
      | hi :: lo :: _ => some (wordOf hi lo)
      | _ => none
    else none) = f.chain := by
  rw [← h]
  unfold chainBytes
  cases f.chain with
  | none => rfl
  | some w => exact congrArg some (wordOf_wordBytes w)

end Frame

namespace Frame.admitted

variable {f : Frame}

theorem chain_isSome (h : f.admitted) : f.chain.isSome = carriesChain f.kind f.position := by
  obtain ⟨-, -, -, -, -, hchain⟩ := h
  exact Bool.eq_iff_iff.2 hchain

/-- The length field holds the payload's length (R6). -/
theorem h3_toNat (h : f.admitted) : f.h3.toNat = f.payload.length := by
  obtain ⟨-, -, -, -, hlength, -⟩ := h
  have := length_le_of_lengthFits hlength
  rw [h3, BitVec.toNat_ofNat, Nat.mod_eq_of_lt (by omega)]

/-- The header of an admitted frame has no format error (R8). -/
theorem headerGood (h : f.admitted) : headerGood f.h0 f.h1 f.h2 f.h3 = true := by
  have hn := h.h3_toNat
  obtain ⟨hsource, htoggle, hposition, hdest, hlength, -⟩ := h
  rw [headerGood_iff_exists_kind]
  simp only [h1_kind, h1_zero, h2_zero, h0_source, h0_toggle, h2_position, h2_dest, hn, FrameKind.ofCode_code,
    Position.ofCode_code]
  exact ⟨f.kind, rfl, trivial, trivial, hsource, htoggle, hposition, hdest, hlength⟩

/-- The bytes behind the header are those that the header calls for (R8). -/
theorem due_length (h : f.admitted) :
    (f.payload ++ (f.chainBytes ++ wordBytes (crc16 f.body))).length = bytesDue f.kind f.position f.payload.length := by
  simp only [List.length_append, chainBytes_length, wordBytes_length, bytesDue, h.chain_isSome]
  omega

/-- An admitted frame is read back from its bytes (R6, R184). -/
theorem ofBytes_bytes (h : f.admitted) : Frame.ofBytes f.bytes = some f := by
  rw [bytes_eq]
  simp only [Frame.ofBytes, h1_kind, FrameKind.ofCode_code, h2_position, Position.ofCode_code, h.h3_toNat, h.headerGood,
    h.due_length, h0_prio, h0_source, h0_toggle, h1_channel, h2_dest, List.take_left, List.drop_left, beq_self_eq_true,
    Bool.and_self, if_true]
  exact congrArg (fun c => some { f with chain := c }) (chain_read f _ h.chain_isSome)

end Frame.admitted

/-- Settles O30: the header check passes, and each field stands where it is read. -/
theorem frameReadBackFromItsBytes : Obligations.FrameReadBackFromItsBytes :=
  fun f h => ⟨h.ofBytes_bytes, f.crcPasses_bytes, f.bytes_length⟩

end Sys2Proof

namespace Sys2Proof.Machine

/-! ### The chain sum (R10) -/

theorem wordOf_toNat (hi lo : Byte) : (wordOf hi lo).toNat = 256 * hi.toNat + lo.toNat := by
  have := lo.isLt
  rw [wordOf, BitVec.toNat_append, ← Nat.shiftLeft_add_eq_or_of_lt this, Nat.shiftLeft_eq]
  omega

/-- A word is 0 exactly when both of its bytes are. -/
theorem wordOf_eq_zero_iff (hi lo : Byte) : wordOf hi lo = 0 ↔ hi = 0 ∧ lo = 0 := by
  simp only [← BitVec.toNat_inj, wordOf_toNat, BitVec.ofNat_eq_ofNat, BitVec.toNat_ofNat]
  omega

/-- The ones'-complement sum of two words as a number: with the end-around carry taken off (R10). -/
theorem addOnes_toNat (a b : Word) :
    (addOnes a b).toNat = if a.toNat + b.toNat < 65536 then a.toNat + b.toNat else a.toNat + b.toNat - 65535 := by
  have := a.isLt
  have := b.isLt
  unfold addOnes
  rw [BitVec.toNat_ofNat]
  split <;> omega

theorem addOnes_mod (a b : Word) : (addOnes a b).toNat % 65535 = (a.toNat + b.toNat) % 65535 := by
  rw [addOnes_toNat]
  split <;> omega

theorem addOnes_eq_zero_iff (a b : Word) : addOnes a b = 0 ↔ a = 0 ∧ b = 0 := by
  simp only [← BitVec.toNat_inj, addOnes_toNat, BitVec.ofNat_eq_ofNat, BitVec.toNat_ofNat]
  split <;> omega

namespace ChainAcc

/-- Bytes fed in two runs are fed as one (R10). -/
theorem feedAll_append (x : ChainAcc) (l m : List Byte) : (x.feedAll l).feedAll m = x.feedAll (l ++ m) :=
  List.foldl_append.symm

/-- Two bytes fed to an accumulator with none pending add one word. -/
theorem feedAll_pair (a : Word) (hi lo : Byte) (rest : List Byte) :
    feedAll { sum := a, pending := none } (hi :: lo :: rest) =
      feedAll { sum := addOnes a (wordOf hi lo), pending := none } rest := rfl

theorem feedAll_single (a : Word) (hi : Byte) : (feedAll { sum := a, pending := none } [hi]).close = addOnes a (wordOf hi 0) :=
  rfl

/-- The accumulator closed, from any sum with no byte pending: the residue of that sum and the words fed to it (R10). -/
theorem close_mod (bytes : List Byte) (a : Word) :
    (feedAll { sum := a, pending := none } bytes).close.toNat % 65535 = (a.toNat + wordSum bytes) % 65535 := by
  induction bytes using wordSum.induct generalizing a with
  | case1 hi lo rest ih => rw [feedAll_pair, ih, Nat.add_mod, addOnes_mod, ← Nat.add_mod, wordOf_toNat, wordSum,
      Nat.add_assoc a.toNat]
  | case2 hi => rw [feedAll_single, addOnes_mod, wordOf_toNat, wordSum]; rfl
  | case3 => rfl

/-- The accumulator closed is 0 exactly when its sum and every byte fed to it are 0: a carry leaves no 0 (R10). -/
theorem close_eq_zero_iff (bytes : List Byte) (a : Word) :
    (feedAll { sum := a, pending := none } bytes).close = 0 ↔ a = 0 ∧ ∀ b ∈ bytes, b = 0 := by
  induction bytes using wordSum.induct generalizing a with
  | case1 hi lo rest ih =>
    rw [feedAll_pair, ih, addOnes_eq_zero_iff, wordOf_eq_zero_iff, List.forall_mem_cons, List.forall_mem_cons, and_assoc,
      and_assoc]
  | case2 hi => rw [feedAll_single, addOnes_eq_zero_iff, wordOf_eq_zero_iff, List.forall_mem_singleton, and_iff_left rfl]
  | case3 => exact (and_iff_left (List.forall_mem_nil _)).symm

end ChainAcc

/-- Settles O32: from the cleared accumulator, by the two facts of `close`, which hold from any sum. -/
theorem chainSumIsTheOnesComplementSum : Obligations.ChainSumIsTheOnesComplementSum := by
  refine ⟨fun bytes => ⟨?_, ?_⟩, ChainAcc.feedAll_append⟩
  · exact (ChainAcc.close_mod bytes 0).trans (by rw [BitVec.ofNat_eq_ofNat, BitVec.toNat_ofNat, Nat.zero_mod, Nat.zero_add])
  · exact (ChainAcc.close_eq_zero_iff bytes 0).trans (and_iff_right rfl)

end Sys2Proof.Machine

/-! PROOFS. The line in reception: what each event does to the line record and to the rest of the part, mode by mode (R4, R5). -/

namespace Sys2Proof.Machine

/-! ### The modes and phases in which the line is read -/

theorem Mode.listens_iff (m : Mode) : m.listens = true ↔ m = .listen ∨ m = .active := by cases m <;> decide

theorem Mode.dozes_iff (m : Mode) : m.dozes = true ↔ m = .sleep ∨ m = .safe := by cases m <;> decide

theorem Mode.not_listens_of_dozes {m : Mode} (h : m.dozes = true) : m.listens = false := by revert h; cases m <;> decide

theorem Mode.not_dozes_of_listens {m : Mode} (h : m.listens = true) : m.dozes = false := by revert h; cases m <;> decide

namespace State

/-- The phase of the latch, by what is known of a latched attempt. -/
theorem phase?_eq_some_iff (s : State) (p : AttemptPhase) :
    s.phase? = some p ↔ ∃ a, s.arb.latch = some a ∧ a.phase = p := by
  simp [phase?]

theorem phase?_ne {s : State} {p : AttemptPhase} (h : ∀ a, s.arb.latch = some a → a.phase ≠ p) : s.phase? ≠ some p := by
  rw [Ne, phase?_eq_some_iff]
  rintro ⟨a, ha, hp⟩
  exact h a ha hp

/-- A station that has no attempt under way is not transmitting (R4). -/
theorem transmitting_eq_false {s : State} (h : ∀ a, s.arb.latch = some a → a.phase = .waiting) : s.transmitting = false := by
  unfold transmitting
  cases hl : s.arb.latch with
  | none => simp
  | some a => simp [h a hl]

theorem receiving_of {s : State} (hm : s.mc.mode = .listen ∨ s.mc.mode = .active) (hl : s.line.state = .busy .frame)
    (ha : ∀ a, s.arb.latch = some a → a.phase = .waiting) : s.receiving = true := by
  simp [receiving, (Mode.listens_iff _).2 hm, hl, transmitting_eq_false ha]

/-! ### Start bits and gaps (R4, R5) -/

theorem startBit_of {s : State} (hm : s.mc.mode.listens = true) (hl : s.line.state = .idle ∨ s.line.state = .busy .gap) :
    s.startBit = s.modLine fun l =>
      { l with
        state := .busy .frame, idleCount := 0, frameRecord := [], dominantBits := 1, runTimer := 0, ownRun := false } :=
  if_pos ⟨hm, hl⟩

theorem gapComplete_listens {s : State} (hm : s.mc.mode.listens = true) (hl : s.line.state = .busy .gap) :
    s.gapComplete = (s.modLine fun l => { l.gapDone with state := .idle }).startWaiting := by
  simp [gapComplete, Mode.not_dozes_of_listens hm, hm, hl]

theorem gapComplete_dozes {s : State} (hm : s.mc.mode.dozes = true) : s.gapComplete = s.modLine LineRecord.gapDone := if_pos hm

theorem resyncComplete_listens {s : State} (hm : s.mc.mode.listens = true) (hl : s.line.state = .busy .resync) :
    s.resyncComplete = s.modLine fun l => { l.gapDone with state := .busy .gap, idleCount := 0 } := by
  simp [resyncComplete, Mode.not_dozes_of_listens hm, hm, hl]

theorem resyncComplete_dozes {s : State} (hm : s.mc.mode.dozes = true) : s.resyncComplete = s.modLine LineRecord.gapDone :=
  if_pos hm

theorem startWaiting_idle {s : State} (h : ∀ a, s.arb.latch = some a → a.phase ≠ .waiting) : s.startWaiting = s :=
  if_neg (phase?_ne h)

/-- The attempt that waits begins (R30). -/
theorem startWaiting_latched {s : State} {a : Attempt} (hl : s.arb.latch = some a) (hp : a.phase = .waiting) :
    s.startWaiting =
      { s with
        arb := { s.arb with latch := some { a with phase := if a.form = .pulse then .pulse else .arbitration } }
        line :=
          { s.line with
            state := .busy .frame, idleCount := 0, frameRecord := [], dominantBits := 1
            ownRun := Decidable.decide (a.form = .pulse) }
        clock := { s.clock with h0Left := if a.form = .pulse then 0 else Config.h0Bits } } := by
  have hph : s.phase? = some .waiting := (phase?_eq_some_iff s _).2 ⟨a, hl, hp⟩
  have hform : (a.form == .pulse) = Decidable.decide (a.form = .pulse) := rfl
  rw [startWaiting, if_pos hph, beginAttempt, hl]
  simp [modArb, modLine, modClock, hform]

end State

/-- Settles O33: each clause is the branch of its event that the mode and the phase of the line choose. -/
theorem linePhasesFollowStartBitsAndGaps : Obligations.LinePhasesFollowStartBitsAndGaps := by
  refine ⟨fun s hm hl => ?_, fun s hm hl ha => ?_, fun s a hm hl ha hp => ?_, fun s hm hl => ?_, fun s hm i hi => ?_⟩
  · exact congrArg Host.Outcome.next (State.startBit_of ((Mode.listens_iff _).2 hm) hl)
  · refine congrArg Host.Outcome.next ((State.gapComplete_listens ((Mode.listens_iff _).2 hm) hl).trans ?_)
    exact State.startWaiting_idle ha
  · refine congrArg Host.Outcome.next ((State.gapComplete_listens ((Mode.listens_iff _).2 hm) hl).trans ?_)
    exact State.startWaiting_latched ha hp
  · exact congrArg Host.Outcome.next (State.resyncComplete_listens ((Mode.listens_iff _).2 hm) hl)
  · have hd := (Mode.dozes_iff _).2 hm
    obtain rfl | rfl : i = .idleGapComplete ∨ i = .resyncEnd := by simpa using hi
    · exact congrArg Host.Outcome.next (State.gapComplete_dozes hd)
    · exact congrArg Host.Outcome.next (State.resyncComplete_dozes hd)

end Sys2Proof.Machine

/-! PROOFS. Bad frames and clashes (R8, R11, R12, R14, R19, R20), and the end of a valid frame up to its deliveries. -/

namespace Sys2Proof.Machine

namespace State

/-! ### Bad frames (R8, R11, R12, R20) -/

theorem badHeader_of {s : State} {h0 h1 h2 h3 : Byte} (hr : s.receiving = true) (hg : headerGood h0 h1 h2 h3 = false) :
    s.badHeader h0 h1 h2 h3 = (s.modLine fun l => l.upset (idleAfter h3) 0).reportRise 1 :=
  if_pos ⟨hr, hg⟩

theorem badFraming_dominantStop {s : State} (hr : s.receiving = true) (b : Byte) :
    s.badFraming (.dominantStop b) =
      s.modLine fun l => { l.upset 0 (dominantThroughStop b) with heldError := true } :=
  if_pos hr

theorem badFraming_missingStart {s : State} (hr : s.receiving = true) (b : Byte) :
    s.badFraming (.missingStart b) = (s.modLine fun l => l.upset (idleAfter b + 1) 0).reportRise 1 :=
  if_pos hr

theorem countHeldError_of {s : State} (hm : s.mc.mode.listens = true) (hh : s.line.heldError = true) :
    s.countHeldError = (s.modLine fun l => { l.recessive 1 with heldError := false }).reportRise 1 :=
  if_pos ⟨hm, hh⟩

end State

/-- Settles O34: a station that assembles a frame takes the event, and the dominant bit count is that of the byte's levels. -/
theorem badFramesEnterResync : Obligations.BadFramesEnterResync := by
  refine ⟨fun s h0 h1 h2 h3 hm hl ha hg => ?_, fun s hm hl ha => ⟨fun b => ?_, fun b => ?_⟩, fun s hm hh => ?_⟩
  · exact congrArg Host.Outcome.next (State.badHeader_of (State.receiving_of hm hl ha) hg)
  · rw [← dominantThroughStop_levels]
    exact congrArg Host.Outcome.next (State.badFraming_dominantStop (State.receiving_of hm hl ha) b)
  · exact congrArg Host.Outcome.next (State.badFraming_missingStart (State.receiving_of hm hl ha) b)
  · exact congrArg Host.Outcome.next (State.countHeldError_of ((Mode.listens_iff _).2 hm) hh)

/-! ### Entries, whatever the line record before them (R153, R154, R157) -/

/-- What a withdrawal leaves is said of the state before it without its line record. -/
theorem Withdrawn.of_withLine {s t : State} {l : LineRecord} (h : Withdrawn { s with line := l } t) : Withdrawn s t :=
  { h with }

theorem SafeEntered.of_withLine {s t : State} {l : LineRecord} {k : SafeFault} (h : SafeEntered { s with line := l } t k) :
    SafeEntered s t k :=
  { h with }

theorem Restarted.of_withLine {s t : State} {l : LineRecord} {k : EntryCause} (h : Restarted { s with line := l } t k) :
    Restarted s t k :=
  { h with }

namespace State

/-- The line record after the entry to SAFE: what R3 keeps of the one before it. -/
theorem enterSafe_line (s : State) (k : SafeFault) : (s.enterSafe k).line = s.line.doze := by
  have h : s.withdraw.line = { s.line with response := none } := by simp [withdraw]
  change s.withdraw.line.doze = _
  rw [h]
  rfl

theorem reportClash_of {s : State} (hm : s.mc.mode.listens = true) : s.reportClash = s.enterSafe .clash := if_pos hm

theorem reportGood_of {s : State} (hm : s.mc.mode.listens = true) :
    s.reportGood = { s with mc := { s.mc with lineErrors := s.mc.lineErrors - 1 } } :=
  if_pos hm

/-! ### The end of a received frame (R12, R14) -/

theorem receiveFrame_failed {s : State} {bytes : List Byte} {f : Frame} (hr : s.receiving = true)
    (hf : Frame.ofBytes bytes = some f) (hc : crcPasses bytes = false) : s.receiveFrame bytes = s.badCrc f bytes := by
  simp [receiveFrame, hr, hf, hc]

theorem receiveFrame_valid {s : State} {f : Frame} (hr : s.receiving = true) (hf : f.admitted) :
    s.receiveFrame f.bytes = s.goodFrame f f.bytes := by
  simp [receiveFrame, hr, hf.ofBytes_bytes, f.crcPasses_bytes]

/-- A frame that fails its CRC: what the watch is armed for, in the words of R12 and R19. -/
theorem badCrc_eq (s : State) (f : Frame) (bytes : List Byte) :
    s.badCrc f bytes =
      ({ s with
        line :=
          { s.line.upset (idleAfterBytes bytes) 0 with
            clashWatch :=
              s.line.clashWatch
                || Decidable.decide
                  (s.mc.mode = .active ∧ (f.kind = .data ∨ f.kind = .openF) ∧ f.dest = s.station.ownAddress) } }
        : State).reportRise 1 := by
  have hkind : (!f.kind.broadcast) = Decidable.decide (f.kind = .data ∨ f.kind = .openF) := by cases f.kind <;> rfl
  have hwatch : (s.mc.mode == .active && !f.kind.broadcast && f.dest == s.station.ownAddress) = Decidable.decide
      (s.mc.mode = .active ∧ (f.kind = .data ∨ f.kind = .openF) ∧ f.dest = s.station.ownAddress) := by
    simp [hkind, beq_eq_decide, Bool.and_assoc]
  rw [← hwatch]
  rfl

end State

/-- The line record at the end of a valid frame, in the words of R4 and R16. -/
theorem LineRecord.frameDone_eq (l : LineRecord) (f : Frame) (part : WindowPart) :
    l.frameDone f f.bytes part = l.after f part := by
  unfold LineRecord.frameDone LineRecord.after
  cases f.kind <;> rfl

namespace State

/-- The part this station has in the window of a received frame (R16). -/
def partIn (s : State) (f : Frame) : WindowPart := if f.dest = s.station.ownAddress then .destination else .observer

/-- The part at the end of a valid frame, its deliveries apart: the line, and one good reception (R4, R12, R16). -/
def frameTaken (s : State) (f : Frame) : State :=
  { s with line := s.line.after f (s.partIn f), mc := { s.mc with lineErrors := s.mc.lineErrors - 1 } }

theorem frameDone_reportGood {s : State} (hm : s.mc.mode.listens = true) (f : Frame) :
    (s.modLine fun l => l.frameDone f f.bytes (s.partIn f)).reportGood = s.frameTaken f := by
  have hm' : (s.modLine fun l => l.frameDone f f.bytes (s.partIn f)).mc.mode.listens = true := hm
  rw [reportGood_of hm', modLine, LineRecord.frameDone_eq]
  rfl

theorem goodFrame_eq {s : State} (hm : s.mc.mode.listens = true) (f : Frame) :
    s.goodFrame f f.bytes =
      if f.source = s.station.ownAddress then (s.frameTaken f).reportClash else (s.frameTaken f).deliver f := by
  rw [← frameDone_reportGood hm f]
  rfl

theorem goodFrame_own {s : State} {f : Frame} (hm : s.mc.mode.listens = true) (hs : f.source = s.station.ownAddress) :
    s.goodFrame f f.bytes = (s.frameTaken f).enterSafe .clash := by
  rw [goodFrame_eq hm, if_pos hs]
  exact reportClash_of hm

theorem goodFrame_foreign {s : State} {f : Frame} (hm : s.mc.mode.listens = true) (hs : f.source ≠ s.station.ownAddress) :
    s.goodFrame f f.bytes = (s.frameTaken f).deliver f := by
  rw [goodFrame_eq hm, if_neg hs]

theorem clashSeen_of {s : State} (hm : s.mc.mode.listens = true) (hw : s.line.clashWatch = true) :
    s.clashSeen = (s.modLine fun l => { l.recessive 1 with clashWatch := false }).enterSafe .clash :=
  (if_pos hw).trans (reportClash_of hm)

end State

/-- Settles O37: a bad CRC by `badCrc_eq`; each clash is the entry to SAFE, which keeps of the line record what R3 says. -/
theorem clashesAreWatchedForAndEndInSafe : Obligations.ClashesAreWatchedForAndEndInSafe := by
  refine ⟨fun s f bytes hm hl ha hf hc => ?_, fun s hm hw => ?_, fun s => rfl, fun s f hf hm hl ha hs => ?_⟩
  · exact congrArg Host.Outcome.next
      ((State.receiveFrame_failed (State.receiving_of hm hl ha) hf hc).trans (s.badCrc_eq f bytes))
  · refine ⟨_, congrArg Host.Outcome.next (State.clashSeen_of ((Mode.listens_iff _).2 hm) hw), ?_, State.enterSafe_line _ _⟩
    exact (State.enterSafe_spec _ _).of_withLine
  · refine ⟨_, congrArg Host.Outcome.next ((State.receiveFrame_valid (State.receiving_of hm hl ha) hf).trans
      (State.goodFrame_own ((Mode.listens_iff _).2 hm) hs)), ?_, State.enterSafe_line _ _⟩
    exact SafeEntered.of_withLine (l := s.line.after f (s.partIn f)) (State.enterSafe_spec (s.frameTaken f) _)

end Sys2Proof.Machine

/-! PROOFS. Valid frames that no channel takes: the Presence Table after a change of entries (R130, R139), and the deliveries
(R15). -/

namespace Sys2Proof.Machine

/-! ### The Presence Table after a change of entries (R130, R139) -/

namespace State

theorem updateEntries_entry (s : State) (f : Station → Entry → Entry) (b : Station) :
    (s.updateEntries f).entry b = if (s.entry b).state = .self then s.entry b else f b (s.entry b) := by
  rw [updateEntries, replaceEntries, lookWhere_entry, withEntries_entry, Table.get_mapIdx]
  rfl

theorem updateEntries_channels (s : State) (f : Station → Entry → Entry) :
    (s.updateEntries f).notice.channels = s.notice.channels := by
  simp [updateEntries, replaceEntries, withEntries]

/-- An entry's changed mark is set where its state or its wake-tried mark changes (R139). -/
theorem updateEntries_mark (s : State) (f : Station → Entry → Entry) (b : Station) :
    (s.updateEntries f).notice.marks.get b =
      (s.notice.marks.get b || (s.entry b).changed ((s.updateEntries f).entry b)) := by
  rw [updateEntries, replaceEntries, lookWhere_notice, lookWhere_entry]
  exact Table.get_mapIdx _ _ _

theorem updateEntry_entry_same {s : State} {a : Station} (h : (s.entry a).state ≠ .self) (f : Entry → Entry) :
    (s.updateEntry a f).entry a = f (s.entry a) := by
  simp [updateEntry, updateEntries_entry, h]

theorem updateEntry_entry_ne (s : State) {a b : Station} (h : b ≠ a) (f : Entry → Entry) :
    (s.updateEntry a f).entry b = s.entry b := by
  simp [updateEntry, updateEntries_entry, h]

/-- A change of one entry sets the mark of that entry alone (R139). -/
theorem updateEntry_mark_iff {s : State} {a : Station} (h : (s.entry a).state ≠ .self) (f : Entry → Entry) (b : Station) :
    (s.updateEntry a f).notice.marks.get b = true ↔
      s.notice.marks.get b = true ∨ (b = a ∧ (s.entry a).changed (f (s.entry a)) = true) := by
  rw [updateEntry, updateEntries_mark, ← updateEntry, Bool.or_eq_true]
  refine or_congr Iff.rfl ?_
  by_cases hb : b = a
  · rw [hb, updateEntry_entry_same h, and_iff_right rfl]
  · simp [updateEntry_entry_ne s hb, hb, Entry.changed]

end State

/-- What a frame that puts no station to sleep does to the entry of its source (R131, R132). -/
def Entry.hearing (e : Entry) (f : Frame) : Entry := if f.kind = .beacon then (e.beaconed f.payload).heard else e.heard

theorem Entry.hearing_other (e : Entry) {f : Frame} (hk : f.kind ≠ .beacon) :
    e.hearing f = { e with state := .present, age := 0, wakeTried := false } := if_neg hk

/-- A BEACON's source has its three values (R132). -/
theorem Entry.hearing_beacon (e : Entry) {f : Frame} {b0 b1 b2 : Byte} (hk : f.kind = .beacon) (hp : f.payload = [b0, b1, b2]) :
    e.hearing f =
      { state := .present, age := 0, wakeTried := false
        interval := if b0 = 0 then none else some b0
        restarts := if b1.toNat ≤ 14 then some b1.toNat else none
        follows := if b2 = 1 then some true else if b2 = 0 then some false else none } := by
  rw [Entry.hearing, if_pos hk, hp]
  rfl

/-- Whatever the frame, its source is PRESENT with its mark clear. -/
theorem Entry.hearing_changed (e : Entry) (f : Frame) :
    e.changed (e.hearing f) = true ↔ e.state ≠ .present ∨ e.wakeTried = true := by
  unfold Entry.hearing
  split <;> simp [Entry.changed, Entry.heard]

theorem stationOf_of_toNat {w : BitVec 5} {a : Station} (h : w.toNat = a.val) : stationOf w = some a := by
  simp [stationOf, h]

namespace State

theorem presenceHears_eq (s : State) {f : Frame} {a : Station} (ha : f.source.toNat = a.val) (hk : f.kind ≠ .sleep) :
    s.presenceHears f = s.updateEntry a fun e => e.hearing f := by
  unfold presenceHears Entry.hearing
  rw [stationOf_of_toNat ha]
  cases hf : f.kind <;> simp [hf, stationHeard, beaconHeard] at hk ⊢

/-! ### Deliveries (R15) -/

/-- A publication that no channel matches reaches none (R126). -/
theorem publishHeard_unmatched {s : State} {f : Frame} (h : ∀ c, s.matches f c = false) : s.publishHeard f = s := by
  have : chanList.find? (s.matches f) = none := List.find?_eq_none.2 fun c _ => by simp [h c]
  rw [publishHeard, this]

/-- A station whose line record alone has its clash watch armed, where a condition holds (R19). -/
def armWatch (s : State) (p : Prop) [Decidable p] : State :=
  s.modLine fun l => { l with clashWatch := l.clashWatch || Decidable.decide p }

theorem armWatch_entry (s : State) (p : Prop) [Decidable p] (a : Station) : (s.armWatch p).entry a = s.entry a := rfl

theorem armWatch_notice (s : State) (p : Prop) [Decidable p] : (s.armWatch p).notice = s.notice := rfl

theorem armWatch_line (s : State) (p : Prop) [Decidable p] :
    (s.armWatch p).line = { s.line with clashWatch := s.line.clashWatch || Decidable.decide p } := rfl

theorem armWatch_true (s : State) {p : Prop} [Decidable p] (h : p) :
    s.armWatch p = s.modLine fun l => { l with clashWatch := true } := by
  simp [armWatch, h]

theorem armWatch_false (s : State) {p : Prop} [Decidable p] (h : ¬ p) : s.armWatch p = s := by
  simp [armWatch, modLine, h]

/-- In LISTEN a frame addressed to this station arms the clash watch, and no channel takes it (R15, R19). -/
theorem deliver_listen {s : State} (hm : s.mc.mode = .listen) (f : Frame) :
    s.deliver f =
      (s.presenceHears f).armWatch ((f.kind = .data ∨ f.kind = .openF) ∧ f.dest = s.station.ownAddress) := by
  have hmode : ¬ s.mc.mode = .active := by rw [hm]; decide
  unfold deliver
  dsimp only
  rw [if_neg hmode]
  by_cases hmine : f.dest = s.station.ownAddress <;> cases hf : f.kind
  case pos.data | pos.openF => rw [if_pos hmine, armWatch_true _ ⟨by decide, hmine⟩]
  case pos.publish | pos.beacon | pos.sleep => rw [armWatch_false _ (by simp)]
  case neg.data | neg.openF => rw [if_neg hmine, armWatch_false _ fun h => hmine h.2]
  case neg.publish | neg.beacon | neg.sleep => rw [armWatch_false _ (by simp)]

/-- In ACTIVE a frame that no channel takes reaches the Presence Table alone (R15). -/
theorem deliver_active_untaken {s : State} {f : Frame} (hm : s.mc.mode = .active) (hk : f.kind ≠ .sleep)
    (hp : f.kind = .publish → ∀ c, (s.presenceHears f).matches f c = false)
    (hd : f.kind = .data ∨ f.kind = .openF → f.dest ≠ s.station.ownAddress) :
    s.deliver f = s.presenceHears f := by
  unfold deliver
  dsimp only
  rw [if_pos hm]
  cases hf : f.kind with
  | data => exact if_neg (hd (.inl hf))
  | openF => exact if_neg (hd (.inr hf))
  | publish => exact publishHeard_unmatched (hp hf)
  | beacon => rfl
  | sleep => exact absurd hf hk

/-- The deliveries of a frame that no channel takes: the Presence Table, and the clash watch in LISTEN (R15, R19). -/
theorem deliver_untaken {s : State} {f : Frame} (hm : s.mc.mode = .listen ∨ s.mc.mode = .active) (hk : f.kind ≠ .sleep)
    (hp : f.kind = .publish → s.mc.mode = .active → ∀ c, (s.presenceHears f).matches f c = false)
    (hd : f.kind = .data ∨ f.kind = .openF → s.mc.mode = .active → f.dest ≠ s.station.ownAddress) :
    s.deliver f =
      (s.presenceHears f).armWatch
        (s.mc.mode = .listen ∧ (f.kind = .data ∨ f.kind = .openF) ∧ f.dest = s.station.ownAddress) := by
  obtain hm | hm := hm
  · rw [deliver_listen hm]
    simp only [hm, true_and]
  · rw [deliver_active_untaken hm hk (fun h => hp h hm) (fun h => hd h hm), armWatch_false]
    simp [hm]

end State

/-- Settles O38: the deliveries change the entry of the source, and the line's clash watch. -/
theorem validFrameMakesItsSourcePresent : Obligations.ValidFrameMakesItsSourcePresent := by
  intro s f a hears ha hself hk hp hd
  obtain ⟨hf, hm, hl, hsilent, hsource⟩ := hears
  have hlistens := (Mode.listens_iff _).2 hm
  have hears := State.presenceHears_eq (s.frameTaken f) ha hk
  have hmatch : ∀ c, ((s.frameTaken f).presenceHears f).matches f c = s.matches f c := fun c => by
    rw [hears]; simp [State.matches]; rfl
  have hrun : s.receiveFrame f.bytes = _ :=
    (State.receiveFrame_valid (State.receiving_of hm hl hsilent) hf).trans
      ((State.goodFrame_foreign hlistens hsource).trans
        (State.deliver_untaken hm hk (fun h1 h2 c => (hmatch c).trans (hp h1 h2 c)) hd))
  rw [hears] at hrun
  have hentry : ∀ b, (s.frameTaken f).entry b = s.entry b := fun _ => rfl
  have hself' : ((s.frameTaken f).entry a).state ≠ .self := hself
  refine ⟨_, congrArg Host.Outcome.next hrun, ?line, State.updateEntry_mc _ _ _, ?entry, ?beacon, ?others, ?marks,
    State.updateEntry_contexts _ _ _, State.updateEntry_slots _ _ _, State.updateEntry_ram _ _ _,
    State.updateEntry_station _ _ _, State.updateEntry_configs _ _ _, State.updateEntries_channels _ _,
    State.updateEntry_beaconTimer _ _ _, State.updateEntry_latch _ _ _, State.updateEntry_pointers _ _ _,
    State.updateEntry_port _ _ _, State.updateEntry_pending _ _ _⟩
  case line =>
    rw [State.armWatch_line, State.updateEntry_line]
    rfl
  case entry =>
    intro hb
    rw [State.armWatch_entry, State.updateEntry_entry_same hself', hentry, Entry.hearing_other _ hb]
  case beacon =>
    intro b0 b1 b2 hb hpayload
    rw [State.armWatch_entry, State.updateEntry_entry_same hself', Entry.hearing_beacon _ hb hpayload]
  case others =>
    intro b hb
    rw [State.armWatch_entry, State.updateEntry_entry_ne _ hb, hentry]
  case marks =>
    intro b
    rw [State.armWatch_notice, State.updateEntry_mark_iff hself', Entry.hearing_changed, hentry]
    rfl

end Sys2Proof.Machine

/-! PROOFS. Response windows (R16, R18): the reports that a damaged byte makes, the end of an attempt with NONE, and the close. -/

namespace Sys2Proof.Machine

namespace State

/-! ### Reports of errors (R150 to R152) -/

/-- The line error count at a value, with WARN where it has crossed 96 upward (R151). -/
def withErrors (s : State) (e : Nat) : State :=
  { s with
    mc := { s.mc with lineErrors := e }
    notice :=
      { s.notice with
        station :=
          { s.notice.station with
            warn :=
              s.notice.station.warn
                || Decidable.decide (s.mc.lineErrors < Config.warnLevel ∧ Config.warnLevel ≤ e) } } }

/-- A report taken: the count, WARN, and at 128 what follows (R150 to R152). -/
theorem reportRise_eq {s : State} (hm : s.mc.mode.listens = true) (n : Nat) :
    s.reportRise n =
      let t := s.withErrors (min Config.countTop (s.mc.lineErrors + n))
      if Config.restartLevel ≤ min Config.countTop (s.mc.lineErrors + n) then t.escalate else t := by
  have hwarn : ∀ e, (if s.mc.lineErrors < Config.warnLevel ∧ Config.warnLevel ≤ e then
      (s.modMc fun m => { m with lineErrors := e }).raiseWarn else s.modMc fun m => { m with lineErrors := e }) =
      s.withErrors e := fun e => by
    unfold withErrors
    split
    case isTrue h => simp only [h, and_self, decide_true, Bool.or_true]; rfl
    case isFalse h => simp only [h, decide_false, Bool.or_false]; rfl
  simp only [reportRise, if_pos hm, hwarn]

theorem reportRise_below {s : State} {n : Nat} (hm : s.mc.mode.listens = true) (hn : s.mc.lineErrors + n < 128) :
    s.reportRise n = s.withErrors (s.mc.lineErrors + n) := by
  have htop : min Config.countTop (s.mc.lineErrors + n) = s.mc.lineErrors + n :=
    min_eq_right (by unfold Config.countTop; omega)
  have hlevel : ¬ Config.restartLevel ≤ s.mc.lineErrors + n := by unfold Config.restartLevel; omega
  rw [reportRise_eq hm, htop]
  exact if_neg hlevel

/-- At a line error count of 128 the station leaves the line, and its attempt has ended (R35, R152). -/
theorem escalate_leaves (s : State) : s.escalate.arb.latch = none ∧ s.escalate.mc.mode ≠ .active := by
  unfold escalate
  split
  · have h := enterRestart_spec (s.modMc fun m => { m with restarts := m.restarts + 1 }) .errors
    exact ⟨h.latch, by simp [h.mc]⟩
  · have h := enterSafe_spec (s.modMc fun m => { m with restarts := 0 }) .restartLimit
    exact ⟨h.latch, by simp [h.mc]⟩

theorem reportRise_leaves {s : State} (hm : s.mc.mode.listens = true) (hn : 127 ≤ s.mc.lineErrors) :
    (s.reportRise 1).arb.latch = none ∧ (s.reportRise 1).mc.mode ≠ .active := by
  have hlevel : Config.restartLevel ≤ min Config.countTop (s.mc.lineErrors + 1) := by
    unfold Config.restartLevel Config.countTop; omega
  rw [reportRise_eq hm]
  simp only [if_pos hlevel]
  exact escalate_leaves _

/-! ### The end of an attempt (R36, R87) -/

/-- Off the line, with no attempt latched, the end of an attempt does nothing. -/
theorem endAttempt_off {s : State} (hl : s.arb.latch = none) (hm : s.mc.mode ≠ .active) (o : AttemptOutcome) :
    s.endAttempt o = s := by
  simp [endAttempt, handOver, announcing, finishQuiet, hl, hm]

theorem countRetry_below {s : State} {c : ChanId} (h : (s.ctx c).retry < s.station.retryLimit.toNat) :
    s.countRetry c =
      s.modCtx c fun x => { x with retry := x.retry + 1, backoff := startTimer s.station.silenceBackoff.toNat } :=
  if_pos h

theorem settleHalt_look {s : State} {c : ChanId} (h : (s.ctx c).haltReq = false) : s.settleHalt c = s.look c := by
  simp [settleHalt, h]

/-- A SEND channel's attempt ended NONE below the retry limit: the retry count and the silence backoff, and the look (R87). -/
def silenced (s : State) (c : ChanId) : State :=
  ((s.modArb fun b => { b with latch := none }).modCtx c fun x =>
    { x with retry := x.retry + 1, backoff := startTimer s.station.silenceBackoff.toNat }).look c

theorem channelOutcome_none {s : State} {c : ChanId} (img : Frame) (hk : (s.cfg c).kind = .send)
    (hh : (s.ctx c).haltReq = false) (hr : (s.ctx c).retry < s.station.retryLimit.toNat) :
    s.channelOutcome c img .none =
      (s.modCtx c fun x =>
        { x with retry := x.retry + 1, backoff := startTimer s.station.silenceBackoff.toNat }).look c := by
  unfold channelOutcome
  rw [hk]
  simp only [sendOutcome]
  rw [countRetry_below hr, settleHalt_look]
  rw [modCtx_ctx_same]
  exact hh

theorem handOver_none {s : State} {a : Attempt} (hl : s.arb.latch = some a) :
    s.handOver .none = (s.modArb fun b => { b with latch := none }).ownerOutcome a .none := by
  simp [handOver, hl, outcomeReports]

theorem endAttempt_none {s : State} {c : ChanId} {img : Frame} {p : AttemptPhase}
    (hl : s.arb.latch = some { owner := .channel c, form := .frame img, phase := p }) (hk : (s.cfg c).kind = .send)
    (hh : (s.ctx c).haltReq = false) (hr : (s.ctx c).retry < s.station.retryLimit.toNat) (hq : s.mc.pendingSleep ≠ .quiet) :
    s.endAttempt .none = s.silenced c := by
  have hhand : s.handOver .none = s.silenced c := (handOver_none hl).trans (channelOutcome_none img hk hh hr)
  have hquiet : ¬ ((s.silenced c).mc.mode = .active ∧ (s.silenced c).mc.pendingSleep = .quiet
      ∧ (s.silenced c).arb.latch = none) := fun h => hq h.2.1
  rw [endAttempt, hhand]
  simp only [reduceCtorEq, and_false, false_and, if_false]
  exact if_neg hquiet

/-- What the end of such an attempt leaves alone (R36). -/
theorem silenced_frame (s : State) (c : ChanId) : AttemptFrame s (s.silenced c) c :=
  { latch := rfl, pointers := rfl, beaconOffer := rfl, announceOffer := rfl
    contexts := fun d hd => by rw [silenced, look_ctx, modCtx_ctx_ne _ _ hd]; rfl
    ram := rfl, station := rfl, configs := rfl, port := rfl, pending := rfl, mode := rfl }

theorem silenced_ctx (s : State) (c : ChanId) :
    (s.silenced c).ctx c =
      { s.ctx c with retry := (s.ctx c).retry + 1, backoff := startTimer s.station.silenceBackoff.toNat } := by
  rw [silenced, look_ctx, modCtx_ctx_same]
  rfl

/-! ### Windows (R16, R18) -/

theorem inWindow_of {s : State} (hm : s.mc.mode = .listen ∨ s.mc.mode = .active) (hl : s.line.state = .busy .window)
    (hw : s.line.window ≠ none) : s.inWindow = true := by
  simp [inWindow, (Mode.listens_iff _).2 hm, hl, Option.isSome_iff_ne_none, hw]

theorem awaitsAnswer_eq_false {s : State} (h : ∀ a, s.arb.latch = some a → a.phase ≠ .answer) : s.awaitsAnswer = false := by
  simp [awaitsAnswer, phase?_ne h]

/-- A station that waits for no answer follows the close of a window (R16). -/
theorem closeWindow_follower {s : State} (hw : s.inWindow = true) (ha : s.awaitsAnswer = false) (read : Option Byte) :
    s.closeWindow read = s.modLine fun l => l.closeWindow (idleAtClose read) := by
  simp [closeWindow, hw, ha]

theorem breakWindow_follower {s : State} (hw : s.inWindow = true) (ha : s.awaitsAnswer = false) :
    s.breakWindow = s.modLine fun l => l.upset 0 1 := by
  simp only [breakWindow, hw, ha, if_true]
  rfl

/-- At the sender, a window that closes with no answer in it (R18). -/
theorem closeWindow_sender {s : State} (hw : s.inWindow = true) (ha : s.awaitsAnswer = true) {read : Option Byte}
    (hr : read.bind Answer.ofByte = none) :
    s.closeWindow read = (s.modLine fun l => l.closeWindow (idleAtClose read)).takeAnswer read := by
  simp [closeWindow, hw, ha, hr]

theorem breakWindow_sender {s : State} (hw : s.inWindow = true) (ha : s.awaitsAnswer = true) :
    s.breakWindow = (s.modLine fun l => { l.upset 0 1 with heldError := true }).endAttempt .none := by
  simp only [breakWindow, hw, ha, if_true]
  rfl

/-- A damaged byte is NONE after one receive error (R18, R33). -/
theorem takeAnswer_damaged (s : State) {b : Byte} (h : Answer.ofByte b = none) :
    s.takeAnswer (some b) = (s.reportRise 1).endAttempt .none := by
  simp [takeAnswer, h]

theorem AtAnswer.inWindow {s : State} {c : ChanId} {img : Frame} (h : s.AtAnswer c img) : s.inWindow = true :=
  inWindow_of (.inr h.mode) h.line (by rw [h.window]; simp)

theorem AtAnswer.awaitsAnswer {s : State} {c : ChanId} {img : Frame} (h : s.AtAnswer c img) : s.awaitsAnswer = true := by
  simp [State.awaitsAnswer, phase?, h.mode, h.latch]

/-- The attempt of a SEND channel that waits for its answer, ended NONE from any line record and any reports. -/
theorem Awaits.endAttempt_none {s t : State} {c : ChanId} {img : Frame} (h : s.Awaits c img)
    (hr : (s.ctx c).retry < s.station.retryLimit.toNat) (harb : t.arb = s.arb) (hctx : t.contexts = s.contexts)
    (hcfg : t.configs = s.configs) (hst : t.station = s.station) (hmc : t.mc.pendingSleep = s.mc.pendingSleep) :
    t.endAttempt .none = t.silenced c := by
  have hc : t.ctx c = s.ctx c := by rw [ctx, hctx, ← ctx]
  have hg : t.cfg c = s.cfg c := by rw [cfg, hcfg, ← cfg]
  exact State.endAttempt_none (img := img) (p := .answer) (harb ▸ h.latch) (hg ▸ h.kind) (hc ▸ h.running)
    (hc ▸ hst ▸ hr) (hmc ▸ h.awake)

end State

/-- A byte that is none of the four response bytes is no answer (R18). -/
theorem Answer.ofByte_damaged {b : Byte} (h1 : b ≠ 0xC3) (h2 : b ≠ 0x99) (h3 : b ≠ 0xA5) (h4 : b ≠ 0x96) :
    Answer.ofByte b = none := by
  simp_all [Answer.ofByte]

namespace State.Awaits

variable {s : State} {c : ChanId} {img : Frame}

/-- Silence below the retry limit (R18, R87). -/
theorem closeWindow_silence (h : s.Awaits c img) (hr : (s.ctx c).retry < s.station.retryLimit.toNat) :
    s.closeWindow none = (s.modLine fun l => l.closeWindow Config.idleGap).silenced c :=
  (closeWindow_sender h.inWindow h.awaitsAnswer rfl).trans (h.endAttempt_none hr rfl rfl rfl rfl rfl)

/-- A damaged byte: NONE, after one receive error (R18, R33). -/
theorem closeWindow_damaged (h : s.Awaits c img) {b : Byte} (hb : Answer.ofByte b = none) :
    s.closeWindow (some b) = ((s.modLine fun l => l.closeWindow (idleAfter b)).reportRise 1).endAttempt .none :=
  (closeWindow_sender (read := some b) h.inWindow h.awaitsAnswer hb).trans (takeAnswer_damaged _ hb)

theorem listens (h : s.Awaits c img) : s.mc.mode.listens = true := (Mode.listens_iff _).2 (.inr h.mode)

/-- A damaged byte whose report leaves the station on the line. -/
theorem closeWindow_damaged_below (h : s.Awaits c img) (hr : (s.ctx c).retry < s.station.retryLimit.toNat) {b : Byte}
    (hb : Answer.ofByte b = none) (he : s.mc.lineErrors < 127) :
    s.closeWindow (some b) =
      ((s.modLine fun l => l.closeWindow (idleAfter b)).withErrors (s.mc.lineErrors + 1)).silenced c := by
  have hrise := reportRise_below (s := s.modLine fun l => l.closeWindow (idleAfter b)) (n := 1) h.listens (by
    rw [modLine_mc]; omega)
  rw [h.closeWindow_damaged hb, hrise]
  exact h.endAttempt_none hr rfl rfl rfl rfl rfl

/-- A damaged byte whose report takes the station off the line: the report has ended the attempt (R35, R37). -/
theorem closeWindow_damaged_at_limit (h : s.Awaits c img) {b : Byte} (hb : Answer.ofByte b = none)
    (he : 127 ≤ s.mc.lineErrors) :
    s.closeWindow (some b) = (s.modLine fun l => l.closeWindow (idleAfter b)).reportRise 1 := by
  obtain ⟨hlatch, hmode⟩ := reportRise_leaves (s := s.modLine fun l => l.closeWindow (idleAfter b)) h.listens he
  rw [h.closeWindow_damaged hb, endAttempt_off hlatch hmode]

/-- A dominant bit out of place: NONE, with the error held (R16, R18). -/
theorem breakWindow_held (h : s.Awaits c img) (hr : (s.ctx c).retry < s.station.retryLimit.toNat) :
    s.breakWindow = (s.modLine fun l => { l.upset 0 1 with heldError := true }).silenced c :=
  (breakWindow_sender h.inWindow h.awaitsAnswer).trans (h.endAttempt_none hr rfl rfl rfl rfl rfl)

end State.Awaits

/-- Settles O46: the followers by their branch; at the sender the attempt ends NONE from the line record and the line error count
that the event leaves, and neither bears on what NONE does. -/
theorem windowsCloseForObserversAndDamagedAnswers : Obligations.WindowsCloseForObserversAndDamagedAnswers := by
  refine ⟨fun s read hm hl hw ha => ?_, fun s c img h hr => ⟨fun b h1 h2 h3 h4 => ?_, ?_⟩⟩
  · have hin := State.inWindow_of hm hl hw
    have hno := State.awaitsAnswer_eq_false ha
    exact ⟨congrArg Host.Outcome.next (State.closeWindow_follower hin hno read),
      congrArg Host.Outcome.next (State.breakWindow_follower hin hno)⟩
  · have hb := Answer.ofByte_damaged h1 h2 h3 h4
    exact ⟨_, congrArg Host.Outcome.next (h.closeWindow_silence hr),
      fun he => ⟨_, congrArg Host.Outcome.next (h.closeWindow_damaged_below hr hb he), rfl, rfl, rfl, rfl, rfl⟩,
      fun he => congrArg Host.Outcome.next (h.closeWindow_damaged_at_limit hb he)⟩
  · have hframe := State.silenced_frame (s.modLine fun l => { l.upset 0 1 with heldError := true }) c
    exact ⟨_, congrArg Host.Outcome.next (h.breakWindow_held hr), { hframe with }, rfl, rfl, State.silenced_ctx _ c⟩

end Sys2Proof.Machine

/-! PROOFS. Dominant runs (R20, R21): 0.5 ms, 10 ms and the release of a run, with what the Presence Table and the Wake
Detector take (R135, R159, R160, R173). -/

namespace Sys2Proof.Machine

/-- The line record when a run is released in SLEEP or SAFE: its counters alone have moved (R3, R20). -/
def LineRecord.released (l : LineRecord) : LineRecord :=
  { l with idleCount := 1, runTimer := 0, dominantBits := 0, ownRun := false }

namespace State

/-! ### A wake pulse at the Presence Table (R135, R136) -/

theorem presencePulse_entry (s : State) (a : Station) :
    s.presencePulse.entry a = if (s.entry a).state = .self then s.entry a else (s.entry a).pulsed := by
  rw [presencePulse, lookWaking_entry, updateEntries_entry]
  rfl

theorem presencePulse_settle (s : State) : s.presencePulse.presence.settle = startTimer s.station.settleMs := by
  rw [presencePulse, lookWaking_presence, updateEntries, replaceEntries, lookWhere_presence]
  rfl

/-- A look at the offers does not read the line record. -/
theorem lookWhere_modLine (s : State) (p : ChanId → Bool) (f : LineRecord → LineRecord) :
    (s.modLine f).lookWhere p = (s.lookWhere p).modLine f :=
  List.foldl_hom (fun t : State => t.modLine f) fun t c => by split <;> rfl

theorem updateEntries_modLine (s : State) (g : Station → Entry → Entry) (f : LineRecord → LineRecord) :
    (s.modLine f).updateEntries g = (s.updateEntries g).modLine f := by
  unfold updateEntries replaceEntries
  exact lookWhere_modLine (s.withEntries _) _ f

theorem lookWaking_modLine (s : State) (f : LineRecord → LineRecord) : (s.modLine f).lookWaking = s.lookWaking.modLine f :=
  lookWhere_modLine _ _ f

/-- Nor does the pulse at the Presence Table. -/
theorem presencePulse_modLine (s : State) (f : LineRecord → LineRecord) :
    (s.modLine f).presencePulse = s.presencePulse.modLine f := by
  unfold presencePulse
  rw [← lookWaking_modLine, ← updateEntries_modLine]
  rfl

end State

theorem Entry.pulsed_sleeping {e : Entry} (h : e.state = .asleep ∨ e.state = .absent ∧ e.wakeTried = false) :
    e.pulsed = { e with state := .waking, age := 0 } := by
  simp [Entry.pulsed, h]

theorem Entry.pulsed_other {e : Entry} (ha : e.state ≠ .asleep) (ht : ¬ (e.state = .absent ∧ e.wakeTried = false)) :
    e.pulsed = e := by
  simp_all [Entry.pulsed]

namespace State

/-! ### A run of 0.5 ms (R20, R21) -/

/-- No own frame is on the line for a run to end (R22). -/
theorem endByRun_idle {s : State} (h : ∀ a, s.arb.latch = some a → a.phase = .waiting ∨ a.phase = .pulse) :
    s.endByRun = s := by
  unfold endByRun phase?
  cases hl : s.arb.latch with
  | none => rfl
  | some a => obtain hp | hp := h a hl <;> simp [hp]

theorem halfMs_listens {s : State} (hm : s.mc.mode.listens = true)
    (h : ∀ a, s.arb.latch = some a → a.phase = .waiting ∨ a.phase = .pulse) : s.halfMs = s.modLine LineRecord.halfMs :=
  (if_pos hm).trans (endByRun_idle h)

theorem halfMs_dozes {s : State} (hm : s.mc.mode.dozes = true) :
    s.halfMs = s.modLine fun l => { l with idleCount := 0, runTimer := Config.wakeSteps } := by
  simp [halfMs, Mode.not_listens_of_dozes hm, hm]

theorem stuckRun_listens {s : State} (hm : s.mc.mode.listens = true) :
    s.stuckRun =
      (s.modLine fun l => { l.halfMs with runTimer := Config.stuckSteps, stuck := true }).enterSafe .stuck :=
  if_pos hm

theorem stuckRun_dozes {s : State} (hm : s.mc.mode.dozes = true) :
    s.stuckRun = s.modLine fun l => { l with idleCount := 0, runTimer := Config.stuckSteps, stuck := true } := by
  simp [stuckRun, Mode.not_listens_of_dozes hm, hm]

/-! ### The release of a run (R20, R34, R159, R160, R173) -/

theorem pulseHeard_own {s : State} (hm : s.mc.mode.dozes = true) (ho : s.line.ownRun = true) :
    s.pulseHeard = s.modLine LineRecord.released := by
  simp only [pulseHeard, hm, ho, or_true, if_true, halfMs_dozes hm]
  rfl

theorem pulseHeard_foreign {s : State} (hm : s.mc.mode.listens = true ∨ s.mc.mode.dozes = true)
    (ho : s.line.ownRun = false) :
    s.pulseHeard = (s.halfMs.modLine fun l => l.recessive 1).pulseAtTable.pulseAtDetector := by
  simp only [pulseHeard, if_pos hm, ho, Bool.false_eq_true, if_false]

theorem pulseAtDetector_shut {s : State} (h : s.wake.on = false ∨ s.station.lineWake = false) : s.pulseAtDetector = s := by
  obtain h | h := h <;> simp [pulseAtDetector, h]

theorem pulseAtDetector_open {s : State} (hon : s.wake.on = true) (hw : s.station.lineWake = true) :
    s.pulseAtDetector = s.wakeEvent :=
  if_pos ⟨hon, hw⟩

/-- A pulse of another station in LISTEN or ACTIVE, where the Wake Detector is idle. -/
theorem pulseHeard_listens {s : State} (hm : s.mc.mode.listens = true) (ho : s.line.ownRun = false)
    (ha : ∀ a, s.arb.latch = some a → a.phase = .waiting ∨ a.phase = .pulse) (hw : s.wake.on = false) :
    s.pulseHeard = (s.modLine fun l => l.halfMs.recessive 1).presencePulse := by
  rw [pulseHeard_foreign (.inl hm) ho, halfMs_listens hm ha]
  have htable : ((s.modLine LineRecord.halfMs).modLine fun l => l.recessive 1).pulseAtTable =
      (s.modLine fun l => l.halfMs.recessive 1).presencePulse := if_pos (.inl hm)
  rw [htable, pulseAtDetector_shut]
  exact .inl (by rw [presencePulse_wake]; exact hw)

/-- The part when another station's run is released in SLEEP or SAFE, before the Wake Detector (R20, R135). -/
def released (s : State) : State := (if s.mc.mode = .sleep then s.presencePulse else s).modLine LineRecord.released

theorem pulseHeard_dozes {s : State} (hm : s.mc.mode.dozes = true) (ho : s.line.ownRun = false) :
    s.pulseHeard = s.released.pulseAtDetector := by
  have hline : (s.halfMs.modLine fun l => l.recessive 1) = s.modLine LineRecord.released := by rw [halfMs_dozes hm]; rfl
  have htable : (s.modLine LineRecord.released).pulseAtTable =
      if s.mc.mode = .sleep then (s.modLine LineRecord.released).presencePulse else s.modLine LineRecord.released := by
    simp only [pulseAtTable, modLine_mc, Mode.not_listens_of_dozes hm, Bool.false_eq_true, false_or]
  rw [pulseHeard_foreign (.inr hm) ho, hline, htable, released, presencePulse_modLine]
  split <;> rfl

theorem released_frame (s : State) :
    s.released.mc = s.mc ∧ s.released.wake = s.wake ∧ s.released.station = s.station ∧ s.released.contexts = s.contexts
      ∧ s.released.line.stuck = s.line.stuck := by
  unfold released
  split <;> simp [LineRecord.released]

theorem released_safe {s : State} (hm : s.mc.mode = .safe) : s.released.presence = s.presence := by
  simp [released, hm]

theorem released_faultCleared (s : State) : s.released.faultCleared = s.faultCleared := by
  obtain ⟨hmc, -, -, -, hstuck⟩ := s.released_frame
  rw [faultCleared, faultCleared, hmc, hstuck]

/-- A wake event with the safe fault cleared (R159, R160). -/
theorem wakeEvent_cleared {s : State} (hm : s.mc.mode = .sleep ∨ s.mc.mode = .safe) (hf : s.faultCleared = true) :
    s.wakeEvent = s.enterRestart (if s.mc.mode = .safe then .safeWake else .wake) := by
  obtain hm | hm := hm <;> simp [wakeEvent, hm, hf]

/-- A wake event with the safe fault present: SAFE goes to SLEEP, and SLEEP stays (R159, R160). -/
theorem wakeEvent_present {s : State} (hm : s.mc.mode = .sleep ∨ s.mc.mode = .safe) (hf : s.faultCleared = false) :
    s.wakeEvent = if s.mc.mode = .safe then s.enterSleepFromSafe .safeFault else s := by
  obtain hm | hm := hm <;> simp [wakeEvent, hm, hf]

theorem enterSleepFromSafe_mc (s : State) (k : EntryCause) :
    (s.enterSleepFromSafe k).mc = { s.mc with mode := .sleep, entryCause := k, safeTimer := none, pendingSleep := .none } :=
  rfl

end State

/-- Settles O47: a run of 0.5 ms by the mode; its release is the pulse at the Presence Table, which does not read the line
record, and then the wake event at the Wake Detector. -/
theorem dominantRunsWakeAndStick : Obligations.DominantRunsWakeAndStick := by
  refine ⟨fun s hm ha => ?half, fun s hm => ?dozing, fun s hm => ?stuck, fun s hm ho ha hw => ?pulse,
    fun s hm ho hon => ?wake, fun s hm ho => ?own⟩
  case half => exact congrArg Host.Outcome.next (State.halfMs_listens ((Mode.listens_iff _).2 hm) ha)
  case dozing =>
    have hd := (Mode.dozes_iff _).2 hm
    exact ⟨congrArg Host.Outcome.next (State.halfMs_dozes hd), congrArg Host.Outcome.next (State.stuckRun_dozes hd)⟩
  case stuck =>
    refine ⟨_, congrArg Host.Outcome.next (State.stuckRun_listens ((Mode.listens_iff _).2 hm)),
      (State.enterSafe_spec _ _).of_withLine, ?_, ?_⟩ <;> rw [State.enterSafe_line] <;> rfl
  case pulse =>
    refine ⟨_, congrArg Host.Outcome.next (State.pulseHeard_listens ((Mode.listens_iff _).2 hm) ho ha hw), ?line, ?sleeping,
      ?others, State.presencePulse_settle _, State.presencePulse_mc _, State.presencePulse_contexts _,
      State.presencePulse_slots _, State.presencePulse_ram _, State.presencePulse_latch _⟩
    case line =>
      rw [State.presencePulse_line]
      rfl
    case sleeping =>
      intro a h
      have hself : (s.entry a).state ≠ .self := by obtain h | ⟨h, -⟩ := h <;> simp [h]
      rw [State.presencePulse_entry, State.modLine_entry, if_neg hself, Entry.pulsed_sleeping h]
    case others =>
      intro a h1 h2
      rw [State.presencePulse_entry, State.modLine_entry, Entry.pulsed_other h1 h2, ite_self]
  case wake =>
    have hd := (Mode.dozes_iff _).2 hm
    obtain ⟨hmc, hwake, hstation, hctx, -⟩ := s.released_frame
    have hopen : s.station.lineWake = true → s.pulseHeard = s.released.wakeEvent := fun hl =>
      (State.pulseHeard_dozes hd ho).trans (State.pulseAtDetector_open (hwake ▸ hon) (hstation ▸ hl))
    have hmode : s.released.mc.mode = .sleep ∨ s.released.mc.mode = .safe := hmc ▸ hm
    refine ⟨fun hl hf => ?cleared, fun hl hf => ?present, fun hl => ?disabled⟩
    case cleared =>
      have hevent := State.wakeEvent_cleared hmode (s.released_faultCleared.trans hf)
      rw [hmc] at hevent
      exact ⟨_, congrArg Host.Outcome.next ((hopen hl).trans hevent), (State.enterRestart_spec _ _).of_withLine⟩
    case present =>
      have hevent := State.wakeEvent_present hmode (s.released_faultCleared.trans hf)
      rw [hmc] at hevent
      refine ⟨_, congrArg Host.Outcome.next ((hopen hl).trans hevent), ?_, ?_⟩
      · split
        · exact (State.enterSleepFromSafe_contexts _ _).trans hctx
        · exact hctx
      · split
        · rw [State.enterSleepFromSafe_mc, hmc]
        · exact hmc
    case disabled =>
      have hshut := State.pulseAtDetector_shut (s := s.released) (.inr (hstation ▸ hl))
      exact ⟨_, congrArg Host.Outcome.next ((State.pulseHeard_dozes hd ho).trans hshut), hmc, hctx, State.released_safe⟩
  case own => exact congrArg Host.Outcome.next (State.pulseHeard_own ((Mode.dozes_iff _).2 hm) ho)

end Sys2Proof.Machine

/-! PROOFS. The step with no command waiting (R26, R30; log entries 2 and 7): the branches of `State.idle`, one bit time of H0,
and one tick of the millisecond clock with the expiries that it brings. -/

namespace Sys2Proof.Machine

/-- The bit times of the three rates (R2). -/
theorem StationConfig.bitMicros_eq {g : StationConfig} (h : g.rateCode ≠ 3) :
    g.bitMicros = if g.rateCode = 0 then 16 else if g.rateCode = 1 then 8 else 4 := by
  unfold bitMicros bitRate
  generalize g.rateCode = code at h ⊢
  revert code
  decide

namespace State

/-! ### The branches of a step with an empty queue -/

theorem step_idle {s : State} (h : s.pending = []) : step s = .next s.idle := by
  rw [step, h]

theorem canPick_latched {s : State} {a : Attempt} (h : s.arb.latch = some a) : s.canPick = false := by
  simp [canPick, h]

theorem idle_picks {s : State} (h : (s.canPick && s.choose.isSome) = true) : s.idle = { s with pending := [.pick true] } :=
  if_pos h

/-- The attempt that waits in an IDLE line begins (R30). -/
theorem idle_begins {s : State} {a : Attempt} (hm : s.mc.mode = .active) (hl : s.line.state = .idle)
    (ha : s.arb.latch = some a) (hp : a.phase = .waiting) : s.idle = s.startWaiting := by
  have hph : s.phase? = some .waiting := (phase?_eq_some_iff s _).2 ⟨a, ha, hp⟩
  simp [idle, startWaiting, canPick_latched ha, hm, hl, hph]

theorem idle_sends {s : State} {a : Attempt} (ha : s.arb.latch = some a) (hp : a.phase = .arbitration) :
    s.idle = s.bitStep := by
  have hph : s.phase? = some .arbitration := (phase?_eq_some_iff s _).2 ⟨a, ha, hp⟩
  simp [idle, canPick_latched ha, hph]

theorem idle_ticks {s : State} (hc : (s.canPick && s.choose.isSome) = false) (hw : s.phase? ≠ some .waiting)
    (ha : s.phase? ≠ some .arbitration) : s.idle = s.msStep := by
  simp only [idle, hc, hw, ha, and_false, Bool.false_eq_true, if_false]

/-! ### A bit time of H0 (R2, R30) -/

/-- After a bit time the attempt is in SENDING when none of the bit times of H0 is left. -/
theorem h0Bit_eq {s : State} {a : Attempt} (ha : s.arb.latch = some a) :
    s.h0Bit =
      { s with
        arb := { s.arb with latch := some (if 1 < s.clock.h0Left then a else { a with phase := .sending }) }
        clock := { h0Left := s.clock.h0Left - 1, micros := s.clock.micros + s.station.bitMicros } } := by
  by_cases h : 1 < s.clock.h0Left
  · have hlatch : s.arb = { s.arb with latch := some a } := by rw [← ha]
    rw [if_pos h, ← hlatch]
    exact if_neg (show s.clock.h0Left - 1 ≠ 0 by omega)
  · refine (if_pos (show s.clock.h0Left - 1 = 0 by omega)).trans ?_
    simp only [if_neg h, setPhase, modArb, modClock, ha, Option.map_some]

theorem h0Bit_micros (s : State) : s.h0Bit.clock.micros = s.clock.micros + s.station.bitMicros := by
  unfold h0Bit
  dsimp only
  split <;> rfl

theorem bitStep_within {s : State} (h : s.clock.micros + s.station.bitMicros < 1000) : s.bitStep = s.h0Bit :=
  if_neg (by rw [h0Bit_micros, Config.tickMicros]; omega)

/-- A bit time that fills the millisecond brings its tick. -/
theorem bitStep_full {s : State} (h : 1000 ≤ s.clock.micros + s.station.bitMicros) :
    s.bitStep = (s.h0Bit.modClock fun k => { k with micros := k.micros - 1000 }).tick :=
  if_pos (by rw [h0Bit_micros, Config.tickMicros]; exact h)

/-! ### A tick (R90, R92, R134, R136, R141, R148, R153, R159, R174) -/

theorem tick_ctx (s : State) (c : ChanId) : s.tick.ctx c = (s.ctx c).tick := Table.get_mapIdx _ _ _

/-- An entry at a tick, by whether the mode is one in which entries age (R134). -/
theorem tick_entry (s : State) (a : Station) :
    s.tick.entry a = if s.mc.mode.listens = true then (s.entry a).tick else s.entry a := by
  show (if s.mc.mode.listens = true then s.presence.entries.mapIdx fun _ e => e.tick else s.presence.entries).get a = _
  split
  · exact Table.get_mapIdx _ _ _
  · rfl

end State

/-- The states of an entry in which it ages (R134). -/
theorem Entry.tick_eq (e : Entry) :
    e.tick =
      if e.state = .present ∨ e.state = .waking ∨ e.state = .absent then { e with age := min 65535 (e.age + 1) } else e := by
  unfold Entry.tick
  cases e.state <;> rfl

theorem Mode.settles_iff (m : Mode) : m.settles = true ↔ m = .listen ∨ m = .active ∨ m = .sleep := by cases m <;> decide

theorem WakeDetector.tick_differs {w : WakeDetector} (hon : w.on = true) (hp : w.pin ≠ w.accepted) :
    w.tick = { w with difference := w.difference + 1 } :=
  if_pos ⟨hon, hp⟩

theorem WakeDetector.tick_agrees {w : WakeDetector} (h : w.on = false ∨ w.pin = w.accepted) :
    w.tick = { w with difference := 0 } :=
  if_neg fun ⟨hon, hp⟩ => h.elim (by simp [hon]) hp

namespace State

/-! ### The expiries that join the queue at a tick (log entry 2) -/

section
variable (s t : State)

theorem backoffExpiry_mem_dueEvents (c : ChanId) :
    .backoffExpiry c ∈ s.dueEvents t ↔ due (s.ctx c).backoff = true := by
  simp [dueEvents, chanList]

theorem pacingExpiry_mem_dueEvents (c : ChanId) :
    .pacingExpiry c ∈ s.dueEvents t ↔ due (s.ctx c).pacing = true := by
  simp [dueEvents, chanList]

theorem wakeSettleExpiry_mem_dueEvents :
    .wakeSettleExpiry ∈ s.dueEvents t ↔ s.mc.mode.settles = true ∧ due s.presence.settle = true := by
  simp [dueEvents]

theorem presenceTimeout_mem_dueEvents (a : Station) : .presenceTimeout a ∈ s.dueEvents t ↔ a ∈ t.dueTimeouts := by
  simp [dueEvents]

theorem beaconTimerExpiry_mem_dueEvents : .beaconTimerExpiry ∈ s.dueEvents t ↔ due s.beaconTimer = true := by
  simp [dueEvents]

theorem listenTimerExpiry_mem_dueEvents : .listenTimerExpiry ∈ s.dueEvents t ↔ due s.mc.listenTimer = true := by
  simp [dueEvents]

theorem restartTimerExpiry_mem_dueEvents : .restartTimerExpiry ∈ s.dueEvents t ↔ due s.mc.restartTimer = true := by
  simp [dueEvents]

theorem safeTimerExpiry_mem_dueEvents : .safeTimerExpiry ∈ s.dueEvents t ↔ due s.mc.safeTimer = true := by
  simp [dueEvents]

theorem wakePinAccepted_mem_dueEvents (p : PinEvent) :
    .wakePinAccepted p ∈ s.dueEvents t ↔ (t.wake.on = true ∧ 2 ≤ t.wake.difference) ∧ p = .held t.wake.pin := by
  simp [dueEvents]

end

theorem timeoutReached_iff (s : State) (a : Station) :
    s.timeoutReached a = true ↔
      30 * ((s.entry a).interval.getD s.station.beaconInterval).toNat ≤ (s.entry a).age :=
  decide_eq_true_iff

/-- An entry is timed out at the tick that brings its age to its timeout (R134). -/
theorem mem_dueTimeouts (s : State) (a : Station) :
    a ∈ s.dueTimeouts ↔
      s.mc.mode.listens = true ∧ ((s.entry a).state = .present ∨ (s.entry a).state = .waking)
        ∧ 30 * ((s.entry a).interval.getD s.station.beaconInterval).toNat ≤ (s.entry a).age := by
  unfold dueTimeouts
  split
  case isTrue h => simp [h, stationList, timeoutReached_iff]
  case isFalse h => simp [h]

/-- A timer at a tick: it loses a millisecond, and in its last one its expiry joins the queue. -/
theorem timer_runs {timer after : Option Nat} {e : Instr} {queue : List Instr} (ht : after = tickTimer timer)
    (he : e ∈ queue ↔ due timer = true) :
    (∀ n, timer = some (n + 2) → after = some (n + 1) ∧ e ∉ queue) ∧ (timer = some 1 → e ∈ queue) := by
  refine ⟨fun n hn => ?_, fun h1 => ?_⟩
  · rw [ht, he, hn]
    exact ⟨rfl, by simp [due]⟩
  · rw [he, h1]
    rfl

/-! ### What a tick leaves (R134, R136, R174) -/

/-- The Presence Table at a tick in LISTEN or ACTIVE: the age of each entry, and the timeouts that come (R134). -/
theorem tick_ages {s : State} (hm : s.mc.mode = .listen ∨ s.mc.mode = .active) (a : Station) :
    s.tick.entry a =
        (if (s.entry a).state = .present ∨ (s.entry a).state = .waking ∨ (s.entry a).state = .absent then
          { s.entry a with age := min 65535 ((s.entry a).age + 1) }
        else s.entry a)
      ∧ (.presenceTimeout a ∈ s.tick.pending ↔
          ((s.entry a).state = .present ∨ (s.entry a).state = .waking)
            ∧ 30 * ((s.entry a).interval.getD s.station.beaconInterval).toNat ≤ min 65535 ((s.entry a).age + 1)) := by
  have hlistens := (Mode.listens_iff _).2 hm
  have hentry : s.tick.entry a = (s.entry a).tick := by rw [tick_entry, if_pos hlistens]
  have hmem : .presenceTimeout a ∈ s.tick.pending ↔
      ((s.tick.entry a).state = .present ∨ (s.tick.entry a).state = .waking)
        ∧ 30 * ((s.tick.entry a).interval.getD s.station.beaconInterval).toNat ≤ (s.tick.entry a).age :=
    (presenceTimeout_mem_dueEvents s s.ticked a).trans ((mem_dueTimeouts s.ticked a).trans (and_iff_right hlistens))
  rw [hmem, hentry, Entry.tick_eq]
  refine ⟨rfl, ?_⟩
  by_cases h : (s.entry a).state = .present ∨ (s.entry a).state = .waking
  · rw [if_pos (h.elim .inl fun k => .inr (.inl k))]
  · split
    · exact iff_of_false (fun k => h k.1) fun k => h k.1
    · exact iff_of_false (fun k => h k.1) fun k => h k.1

theorem tick_ageless {s : State} (hl : s.mc.mode ≠ .listen) (ha : s.mc.mode ≠ .active) :
    s.tick.presence.entries = s.presence.entries ∧ ∀ a, .presenceTimeout a ∉ s.tick.pending := by
  have hm : ¬ s.mc.mode.listens = true := by rw [Mode.listens_iff]; tauto
  refine ⟨if_neg hm, fun a h => hm ?_⟩
  exact ((mem_dueTimeouts s.ticked a).1 ((presenceTimeout_mem_dueEvents s s.ticked a).1 h)).1

/-- The wake-settle timer at a tick, in the modes in which it counts (R136). -/
theorem tick_settles {s : State} (hm : s.mc.mode.settles = true) :
    (∀ n, s.presence.settle = some (n + 2) →
        s.tick.presence.settle = some (n + 1) ∧ .wakeSettleExpiry ∉ s.tick.pending)
      ∧ (s.presence.settle = some 1 → .wakeSettleExpiry ∈ s.tick.pending) :=
  timer_runs (if_pos hm) ((wakeSettleExpiry_mem_dueEvents s s.ticked).trans (and_iff_right hm))

theorem tick_unsettled {s : State} (hm : s.mc.mode.settles = false) :
    s.tick.presence.settle = s.presence.settle ∧ .wakeSettleExpiry ∉ s.tick.pending := by
  refine ⟨if_neg (by simp [hm]), fun h => ?_⟩
  have := ((wakeSettleExpiry_mem_dueEvents s s.ticked).1 h).1
  simp [hm] at this

/-- A level of the WAKE pin that is read for a second tick running is accepted (R174). -/
theorem tick_pin_differs {s : State} (hon : s.wake.on = true) (hp : s.wake.pin ≠ s.wake.accepted) :
    s.tick.wake = { s.wake with difference := s.wake.difference + 1 }
      ∧ (.wakePinAccepted (.held s.wake.pin) ∈ s.tick.pending ↔ 1 ≤ s.wake.difference) := by
  have hwake : s.ticked.wake = { s.wake with difference := s.wake.difference + 1 } := WakeDetector.tick_differs hon hp
  refine ⟨hwake, (wakePinAccepted_mem_dueEvents s s.ticked _).trans ?_⟩
  rw [hwake]
  simp [hon]

theorem tick_pin_agrees {s : State} (h : s.wake.on = false ∨ s.wake.pin = s.wake.accepted) :
    s.tick.wake = { s.wake with difference := 0 } ∧ ∀ p, .wakePinAccepted p ∉ s.tick.pending := by
  have hwake : s.ticked.wake = { s.wake with difference := 0 } := WakeDetector.tick_agrees h
  refine ⟨hwake, fun p hp => ?_⟩
  have hmem := (wakePinAccepted_mem_dueEvents s s.ticked p).1 hp
  simp [hwake] at hmem

end State

/-- Settles O2: the branch of the idle step that its state chooses; at a tick each timer by `timer_runs`. -/
theorem emptyQueueStepTicksTheClocks : Obligations.EmptyQueueStepTicksTheClocks := by
  refine ⟨fun s h hpick => ?pick, fun s a h hm hl ha hp => ?begins, fun s a h ha hp hrate => ?bit,
    fun s h hc hw ha => ?ticks⟩
  case pick => rw [State.step_idle h, State.idle_picks hpick]
  case begins =>
    rw [State.step_idle h, State.idle_begins hm hl ha hp, State.startWaiting_latched ha hp]
    rfl
  case bit =>
    have hmicros := StationConfig.bitMicros_eq hrate
    refine ⟨s.bitStep, by rw [State.step_idle h, State.idle_sends ha hp], ?_⟩
    rw [← hmicros]
    by_cases hfull : 1000 ≤ s.clock.micros + s.station.bitMicros
    · rw [State.bitStep_full hfull, State.h0Bit_eq ha]
      refine ⟨rfl, rfl, fun hless => absurd hfull (Nat.not_le.2 hless), fun _ => ⟨rfl, fun c n hn => ?_⟩⟩
      rw [State.tick_ctx]
      show tickTimer (s.ctx c).backoff = _
      rw [hn]
      rfl
    · rw [State.bitStep_within (Nat.not_le.1 hfull), State.h0Bit_eq ha]
      exact ⟨rfl, rfl, fun _ => rfl, fun hle => absurd hle hfull⟩
  case ticks =>
    let u := s.modClock fun k => { k with micros := 0 }
    have hctx : ∀ c, u.tick.ctx c = (s.ctx c).tick := State.tick_ctx u
    have backoff := fun c => State.timer_runs (congrArg Context.backoff (hctx c))
      (State.backoffExpiry_mem_dueEvents u u.ticked c)
    have pacing := fun c => State.timer_runs (congrArg Context.pacing (hctx c))
      (State.pacingExpiry_mem_dueEvents u u.ticked c)
    have beacon := State.timer_runs rfl (State.beaconTimerExpiry_mem_dueEvents u u.ticked)
    have listen := State.timer_runs rfl (State.listenTimerExpiry_mem_dueEvents u u.ticked)
    have restart := State.timer_runs rfl (State.restartTimerExpiry_mem_dueEvents u u.ticked)
    have safe := State.timer_runs rfl (State.safeTimerExpiry_mem_dueEvents u u.ticked)
    refine ⟨u.tick, by rw [State.step_idle h, State.idle_ticks hc hw ha]; rfl, fun c => (backoff c).1, fun c => (backoff c).2,
      fun c => (pacing c).1, fun c => (pacing c).2, beacon.1, beacon.2, listen.1, listen.2, restart.1, restart.2, safe.1,
      safe.2, fun hm => State.tick_settles ((Mode.settles_iff _).2 hm), fun hm => State.tick_unsettled (s := u) ?_,
      State.tick_ages (s := u), State.tick_ageless (s := u), State.tick_pin_differs (s := u), State.tick_pin_agrees (s := u),
      rfl, rfl, rfl, rfl, rfl, rfl, rfl, rfl, rfl, rfl, rfl, rfl⟩
    show s.mc.mode.settles = false
    obtain hm | hm | hm := hm <;> rw [hm] <;> rfl

end Sys2Proof.Machine

/-! PROOFS. The pick (R26 to R30): the choice rule and its round robin, and what a pick latches. -/

namespace Sys2Proof.Machine

/-! ### Round robin (R28) -/

theorem mem_roundRobin (pointer c : ChanId) : c ∈ roundRobin pointer :=
  List.mem_map.2 ⟨c - (pointer + 1), List.mem_finRange _, add_sub_cancel _ _⟩

/-- The channel at a place of the round robin stands that far after the channel behind the pointer. -/
theorem roundRobin_getElem (pointer : ChanId) (i : Nat) (h : i < (roundRobin pointer).length) :
    ((roundRobin pointer)[i] - (pointer + 1)).val = i := by
  simp [roundRobin, chanList]

theorem roundRobin_place (pointer c : ChanId) :
    ∃ h : (c - (pointer + 1)).val < (roundRobin pointer).length,
      (roundRobin pointer)[(c - (pointer + 1)).val] = c :=
  ⟨by simp [roundRobin, chanList], by simp [roundRobin, chanList]⟩

/-- Round robin finds the channel that is fewest places after the pointer. -/
theorem find?_roundRobin_eq_some_iff (pointer c : ChanId) (p : ChanId → Bool) :
    (roundRobin pointer).find? p = some c ↔
      p c = true ∧ ∀ d, p d = true → (c - (pointer + 1)).val ≤ (d - (pointer + 1)).val := by
  rw [List.find?_eq_some_iff_getElem]
  refine and_congr_right fun _ => ⟨?_, fun hmin => ?_⟩
  · rintro ⟨i, hi, rfl, hbefore⟩ d hd
    obtain ⟨hj, hplace⟩ := roundRobin_place pointer d
    rw [roundRobin_getElem]
    by_contra hlt
    have hnot := hbefore _ (Nat.not_le.1 hlt)
    rw [hplace, hd] at hnot
    exact absurd hnot (by decide)
  · obtain ⟨hi, hplace⟩ := roundRobin_place pointer c
    refine ⟨_, hi, hplace, fun j hj => ?_⟩
    by_contra hp
    have hle := hmin _ (by simpa using hp)
    rw [roundRobin_getElem] at hle
    omega

namespace State

theorem offersInClass_iff (s : State) (k : Fin 4) (c : ChanId) :
    s.offersInClass k c = true ↔ s.arb.offers.get c = true ∧ (s.cfg c).prio.toFin = k := by
  simp [offersInClass]

theorem nextInClass_eq_some_iff (s : State) (k : Fin 4) (c : ChanId) :
    s.nextInClass k = some c ↔
      (s.arb.offers.get c = true ∧ (s.cfg c).prio.toFin = k)
        ∧ ∀ d, s.arb.offers.get d = true → (s.cfg d).prio.toFin = k →
            (c - (s.arb.pointers.get k + 1)).val ≤ (d - (s.arb.pointers.get k + 1)).val := by
  simp only [nextInClass, find?_roundRobin_eq_some_iff, offersInClass_iff, and_imp]

theorem nextInClass_eq_none_iff (s : State) (k : Fin 4) :
    s.nextInClass k = none ↔ ∀ c, s.arb.offers.get c = true → (s.cfg c).prio.toFin ≠ k := by
  simp only [nextInClass, List.find?_eq_none, mem_roundRobin, forall_const, offersInClass_iff, not_and, ne_eq]

/-! ### The choice rule (R27) -/

/-- A class with no offer is passed over. -/
theorem chooseClass_empty {s : State} {k : Fin 4} (hn : s.nextInClass k = none) (hb : k = 1 → s.arb.beaconOffer = false)
    (ks : List (Fin 4)) : s.chooseClass (k :: ks) = s.chooseClass ks := by
  have hbeacon : ¬ (k = 1 ∧ s.arb.beaconOffer = true) := fun ⟨h1, h2⟩ => by simp [hb h1] at h2
  rw [chooseClass, if_neg hbeacon, hn]

/-- The lowest class with an offer gives the channel that round robin finds in it, where no beacon goes before it. -/
theorem chooseClass_channel {s : State} {c : ChanId} {k : Fin 4} (hc : s.nextInClass k = some c)
    (hlow : ∀ j < k, s.nextInClass j = none) (hb : 1 ≤ k → s.arb.beaconOffer = false) {ks : List (Fin 4)}
    (hsorted : ks.Pairwise (· < ·)) (hk : k ∈ ks) : s.chooseClass ks = some (.channel c) := by
  induction ks with
  | nil => cases hk
  | cons j ks ih =>
    obtain ⟨hj, hks⟩ := List.pairwise_cons.1 hsorted
    rcases List.mem_cons.1 hk with rfl | hmem
    · have hbeacon : ¬ (k = 1 ∧ s.arb.beaconOffer = true) := fun ⟨h1, h2⟩ => by simp [hb h1.ge] at h2
      rw [chooseClass, if_neg hbeacon, hc]
    · have hlt := hj k hmem
      rw [chooseClass_empty (hlow j hlt) fun h1 => hb (h1 ▸ hlt.le)]
      exact ih hks hmem

theorem chooseClass_none {s : State} (hn : ∀ k, s.nextInClass k = none) (hb : s.arb.beaconOffer = false)
    (ks : List (Fin 4)) : s.chooseClass ks = none := by
  induction ks with
  | nil => rfl
  | cons k ks ih => rw [chooseClass_empty (hn k) fun _ => hb, ih]

/-- A channel that is chosen is the one that round robin finds in its class. -/
theorem nextInClass_of_chooseClass {s : State} {c : ChanId} {ks : List (Fin 4)} (h : s.chooseClass ks = some (.channel c)) :
    ∃ k, s.nextInClass k = some c := by
  induction ks with
  | nil => cases h
  | cons k ks ih =>
    rw [chooseClass] at h
    split at h
    · cases h
    · split at h
      case h_1 d hd => exact ⟨k, by cases h; exact hd⟩
      case h_2 => exact ih h

theorem choose_announcer {s : State} (h : s.arb.announceOffer = true) : s.choose = some .announcer := if_pos h

theorem choose_wakeRequest {s : State} (ha : s.arb.announceOffer = false) (hw : s.arb.wakeRequest = true) :
    s.choose = some .wakeRequest := by
  simp [choose, ha, hw]

theorem choose_frames {s : State} (ha : s.arb.announceOffer = false) (hw : s.arb.wakeRequest = false) :
    s.choose = s.chooseClass [0, 1, 2, 3] := by
  simp [choose, ha, hw]

/-- The beacon goes before every channel but those of class 0. -/
theorem choose_beacon {s : State} (ha : s.arb.announceOffer = false) (hw : s.arb.wakeRequest = false)
    (hb : s.arb.beaconOffer = true) (hc : ∀ c, s.arb.offers.get c = true → 1 ≤ (s.cfg c).prio.toNat) :
    s.choose = some .beacon := by
  have hzero : s.nextInClass 0 = none := (s.nextInClass_eq_none_iff 0).2 fun c hoffer hprio => by
    have hclass : (s.cfg c).prio.toNat = 0 := congrArg Fin.val hprio
    have := hc c hoffer
    omega
  rw [choose_frames ha hw, chooseClass_empty hzero (absurd · (by decide)), chooseClass, if_pos ⟨rfl, hb⟩]

/-- A channel of the lowest class on offer, first after the pointer of its class. -/
theorem choose_channel {s : State} {c : ChanId} (ha : s.arb.announceOffer = false) (hw : s.arb.wakeRequest = false)
    (hc : s.arb.offers.get c = true)
    (hlow : ∀ d, s.arb.offers.get d = true → (s.cfg c).prio.toNat ≤ (s.cfg d).prio.toNat)
    (hb : 1 ≤ (s.cfg c).prio.toNat → s.arb.beaconOffer = false)
    (hfirst : ∀ d, s.arb.offers.get d = true → (s.cfg d).prio.toNat = (s.cfg c).prio.toNat →
      (c - (s.arb.pointers.get (s.cfg c).prio.toFin + 1)).val ≤ (d - (s.arb.pointers.get (s.cfg c).prio.toFin + 1)).val) :
    s.choose = some (.channel c) := by
  have hnext : s.nextInClass (s.cfg c).prio.toFin = some c :=
    (s.nextInClass_eq_some_iff _ c).2 ⟨⟨hc, rfl⟩, fun d hd hk => hfirst d hd (congrArg Fin.val hk)⟩
  have hempty : ∀ j < (s.cfg c).prio.toFin, s.nextInClass j = none := fun j hj =>
    (s.nextInClass_eq_none_iff j).2 fun d hd hk => by
      subst hk
      exact absurd hj (Nat.not_lt.2 (hlow d hd))
  rw [choose_frames ha hw]
  exact chooseClass_channel hnext hempty hb (by decide) (by generalize (s.cfg c).prio.toFin = k; revert k; decide)

theorem choose_none {s : State} (ha : s.arb.announceOffer = false) (hw : s.arb.wakeRequest = false)
    (hb : s.arb.beaconOffer = false) (hc : ∀ c, s.arb.offers.get c = false) : s.choose = none := by
  rw [choose_frames ha hw]
  exact chooseClass_none (fun k => (s.nextInClass_eq_none_iff k).2 fun c h => by simp [hc c] at h) hb _

theorem nextInClass_of_choose {s : State} {c : ChanId} (h : s.choose = some (.channel c)) :
    s.nextInClass (s.cfg c).prio.toFin = some c := by
  unfold choose at h
  split at h
  · cases h
  · split at h
    · cases h
    · obtain ⟨k, hk⟩ := nextInClass_of_chooseClass h
      obtain ⟨⟨-, rfl⟩, -⟩ := (s.nextInClass_eq_some_iff k c).1 hk
      exact hk

end State

/-! ### What a pick latches (R29, R30) -/

/-- The phase in which a picked attempt begins, at once or at the next bit boundary (R30). -/
def Form.firstPhase (form : Form) (atOnce : Bool) : AttemptPhase :=
  if atOnce then (if form = .pulse then .pulse else .arbitration) else .waiting

theorem Form.firstPhase_frame (f : Frame) (atOnce : Bool) :
    (Form.frame f).firstPhase atOnce = if atOnce then .arbitration else .waiting := rfl

namespace State

/-- The part with an owner's offer picked. -/
def picked (s : State) (o : Owner) (atOnce : Bool) : State :=
  if atOnce then (s.latchAttempt o).beginAttempt else s.latchAttempt o

theorem canPick_of {s : State} (hm : s.mc.mode = .active) (hl : s.line.state = .idle) (ha : s.arb.latch = none)
    (hq : s.mc.pendingSleep ≠ .quiet) : s.canPick = true := by
  simp [canPick, hm, hl, ha, hq]

theorem mode_of_canPick {s : State} (h : s.canPick = true) : s.mc.mode = .active := by
  simp only [canPick, Bool.and_eq_true, beq_iff_eq] at h
  obtain ⟨⟨⟨hmode, -⟩, -⟩, -⟩ := h
  exact hmode

theorem pickOffer_picked {s : State} {o : Owner} (hc : s.canPick = true) (ho : s.choose = some o) (atOnce : Bool) :
    s.pickOffer atOnce = s.picked o atOnce := by
  rw [pickOffer, if_pos hc, ho]
  rfl

/-- A pick changes nothing, or it takes the offer that the choice rule gives. -/
theorem pickOffer_cases (s : State) (atOnce : Bool) :
    s.pickOffer atOnce = s
      ∨ ∃ o, s.canPick = true ∧ s.choose = some o ∧ s.pickOffer atOnce = s.picked o atOnce := by
  by_cases hc : s.canPick = true
  · cases ho : s.choose with
    | none => exact .inl (by rw [pickOffer, if_pos hc, ho])
    | some o => exact .inr ⟨o, hc, rfl, pickOffer_picked hc ho atOnce⟩
  · exact .inl (if_neg hc)

theorem picked_arb (s : State) (o : Owner) (atOnce : Bool) :
    (s.picked o atOnce).arb =
      { (s.takeOffer o).arb with
        latch := some { owner := o, form := s.formOf o, phase := (s.formOf o).firstPhase atOnce } } := by
  cases atOnce
  · rfl
  · cases o <;> rfl

theorem picked_latch (s : State) (o : Owner) (atOnce : Bool) :
    (s.picked o atOnce).arb.latch =
      some { owner := o, form := s.formOf o, phase := (s.formOf o).firstPhase atOnce } := by
  rw [picked_arb]

theorem picked_mode (s : State) (o : Owner) (atOnce : Bool) : (s.picked o atOnce).mc.mode = s.mc.mode := by
  cases atOnce <;> cases o <;> rfl

/-- A pick that waits for the next bit boundary leaves the line alone. -/
theorem picked_waits (s : State) (o : Owner) : (s.picked o false).line = s.line := by
  cases o <;> rfl

/-- A frame that begins at once: the line is BUSY in FRAME, and the nine bit times of H0 are before it (log entry 7). -/
theorem picked_begins {s : State} {o : Owner} {f : Frame} (hf : s.formOf o = .frame f) :
    (s.picked o true).line =
        { s.line with state := .busy .frame, idleCount := 0, frameRecord := [], dominantBits := 1, ownRun := false }
      ∧ (s.picked o true).clock = { s.clock with h0Left := 9 } := by
  cases o with
  | wakeRequest => cases hf
  | channel _ | beacon | announcer => exact ⟨rfl, rfl⟩

/-! ### The image (R29, R75 to R77, R119) -/

theorem channelFrame_publish {s : State} {c : ChanId} (h : (s.cfg c).kind = .publish) :
    s.channelFrame c = s.publishFrame c := if_pos h

theorem channelFrame_send {s : State} {c : ChanId} (h : (s.cfg c).kind = .send) : s.channelFrame c = s.sendFrame c :=
  if_neg (by simp [h])

theorem channelFrame_prio (s : State) (c : ChanId) : (s.channelFrame c).prio = (s.cfg c).prio := by
  unfold channelFrame sendFrame
  split
  · rfl
  · split <;> rfl

theorem channelFrame_source (s : State) (c : ChanId) : (s.channelFrame c).source = s.station.ownAddress := by
  unfold channelFrame sendFrame
  split
  · rfl
  · split <;> rfl

theorem formOf_source {s : State} {o : Owner} {f : Frame} (hf : s.formOf o = .frame f) :
    f.source = s.station.ownAddress := by
  cases o with
  | channel c =>
    obtain rfl := Form.frame.inj hf
    exact s.channelFrame_source c
  | beacon | announcer =>
    obtain rfl := Form.frame.inj hf
    rfl
  | wakeRequest => cases hf

end State

/-- Position of a DATA frame, by whether it begins and whether it ends its message (R76). -/
theorem positionOf_eq (stream : Nat) (last : Bool) :
    positionOf stream last =
      if stream = 0 then (if last then .only else .first) else (if last then .last else .middle) := by
  cases stream <;> cases last <;> rfl

namespace State

/-! ### The levels on the line (R2) -/

theorem sentLevels_frame {s : State} {o : Owner} {f : Frame} (hm : s.mc.mode = .active)
    (hl : s.arb.latch = some { owner := o, form := .frame f, phase := .arbitration }) : s.sentLevels = f.levels := by
  rw [sentLevels, if_pos hm, hl]

theorem sentLevels_response {s : State} {r : Response} (hm : s.mc.mode = .active) (hl : s.arb.latch = none)
    (hr : s.line.response = some r) : s.sentLevels = r.answer.levels := by
  rw [sentLevels, if_pos hm, hl, hr]

end State

/-- Settles O48: the case of the choice rule that applies names the owner, and `picked_arb` says what its pick leaves. -/
theorem pickFollowsTheChoiceRule : Obligations.PickFollowsTheChoiceRule := by
  intro s atOnce hm hl ha hq cls
  have hcan := State.canPick_of hm hl ha hq
  have run {o : Owner} (ho : s.choose = some o) : exec (.pick atOnce) s = .next (s.picked o atOnce) :=
    congrArg Host.Outcome.next (State.pickOffer_picked hcan ho atOnce)
  refine ⟨fun hann => ?announce, fun hann hwake => ?wake, fun hann hwake => ⟨fun hb hc => ?beacon,
    fun c hc hlow hb hfirst => ?channel, fun hb hc => ?empty⟩⟩
  case announce =>
    refine ⟨_, _, _, run (State.choose_announcer hann), State.picked_latch s _ _, rfl, rfl, ?_⟩
    rw [State.picked_arb]
    exact ⟨rfl, rfl, rfl, rfl⟩
  case wake =>
    refine ⟨_, _, run (State.choose_wakeRequest hann hwake), State.picked_latch s _ _, ?_⟩
    rw [State.picked_arb]
    exact ⟨rfl, rfl, hwake⟩
  case beacon =>
    refine ⟨_, _, _, run (State.choose_beacon hann hwake hb hc), State.picked_latch s _ _, rfl, rfl, ?_⟩
    rw [State.picked_arb]
    exact ⟨rfl, rfl⟩
  case channel =>
    refine ⟨_, _, _, run (State.choose_channel hann hwake hc hlow hb hfirst), State.picked_latch s _ _,
      s.channelFrame_prio c, ?_⟩
    rw [State.picked_arb]
    exact ⟨rfl, rfl⟩
  case empty =>
    have hnone : s.pickOffer atOnce = s := by
      rw [State.pickOffer, if_pos hcan, State.choose_none hann hwake hb hc]
    exact congrArg Host.Outcome.next hnone

/-- A byte on the line, bit by bit (R2). -/
theorem byteLevels_eq (b : Byte) :
    byteLevels b =
      Level.dominant
        :: ([7, 6, 5, 4, 3, 2, 1, 0].map fun k => if b.getLsbD k then Level.recessive else Level.dominant)
        ++ [Level.recessive] := rfl

/-- Settles O50: a pick that latches a frame has picked an owner, whose image `formOf` gives. -/
theorem pickBuildsTheImageOfThatMoment : Obligations.PickBuildsTheImageOfThatMoment := by
  refine ⟨fun s r hm ha hr => ?response, fun s t atOnce a f ha hrun hl hform => ?image⟩
  case response =>
    rw [State.sentLevels_response hm ha hr, Answer.levels, byteLevels_eq]
    exact (List.append_nil _).symm
  case image =>
    obtain rfl : s.pickOffer atOnce = t := Host.Outcome.next.inj hrun
    obtain hsame | ⟨o, hcan, -, hpick⟩ := s.pickOffer_cases atOnce
    · rw [hsame, ha] at hl
      cases hl
    rw [hpick] at hl ⊢
    obtain rfl := Option.some.inj ((State.picked_latch s o atOnce).symm.trans hl)
    replace hform : s.formOf o = .frame f := hform
    have hphase : (s.formOf o).firstPhase atOnce = if atOnce then .arbitration else .waiting := by
      rw [hform, Form.firstPhase_frame]
    refine ⟨State.formOf_source hform, hphase, ?begins, ?waits, ?beacon, ?announcer, ?channel⟩
    case begins =>
      rintro rfl
      obtain ⟨hline, hclock⟩ := State.picked_begins hform
      have hmode := (s.picked_mode o true).trans (State.mode_of_canPick hcan)
      have hlatch := State.picked_latch s o true
      rw [hphase, hform] at hlatch
      exact ⟨hline, hclock, State.sentLevels_frame hmode hlatch⟩
    case waits =>
      rintro rfl
      exact s.picked_waits o
    case beacon =>
      intro ho
      obtain rfl : o = .beacon := ho
      exact (Form.frame.inj hform).symm
    case announcer =>
      intro ho
      obtain rfl : o = .announcer := ho
      exact (Form.frame.inj hform).symm
    case channel =>
      intro c ho
      obtain rfl : o = .channel c := ho
      have himage : s.channelFrame c = f := Form.frame.inj hform
      refine ⟨fun hk => ?_, fun hk hx => ?_, fun hk hx => ?_⟩
      · exact himage.symm.trans (State.channelFrame_publish hk)
      · exact (himage.symm.trans (State.channelFrame_send hk)).trans (if_pos hx)
      · obtain rfl : s.dataFrame c = f := (if_neg hx).symm.trans ((State.channelFrame_send hk).symm.trans himage)
        exact ⟨rfl, rfl, rfl, rfl, rfl, positionOf_eq _ _, rfl⟩

end Sys2Proof.Machine

/-! PROOFS. The round-robin pointers (R28): no operation but a pick and the two resets moves one. -/

namespace Sys2Proof.Machine

namespace State

/-! ### Operations of the channels and the Mode Controller -/

@[simp] theorem release_pointers (s : State) (c : ChanId) : (s.release c).arb.pointers = s.arb.pointers := by
  unfold release
  split
  · dsimp only
    split <;> simp
  · rfl

@[simp] theorem clearChannelFlags_pointers (s : State) (c : ChanId) (mask : Byte) :
    (s.clearChannelFlags c mask).arb.pointers = s.arb.pointers := by
  unfold clearChannelFlags
  dsimp only
  split <;> simp

@[simp] theorem startChannel_pointers (s : State) (c : ChanId) : (s.startChannel c).arb.pointers = s.arb.pointers := by
  unfold startChannel
  split <;> simp

@[simp] theorem haltChannel_pointers (s : State) (c : ChanId) : (s.haltChannel c).arb.pointers = s.arb.pointers := by
  unfold haltChannel
  split <;> simp

@[simp] theorem clearChannel_pointers (s : State) (c : ChanId) : (s.clearChannel c).arb.pointers = s.arb.pointers := by
  unfold clearChannel clearSending clearTaking
  split <;> simp

@[simp] theorem kickChannel_pointers (s : State) (c : ChanId) : (s.kickChannel c).arb.pointers = s.arb.pointers := by
  unfold kickChannel
  split <;> simp

/-- A channel command moves no pointer where its effect moves none. -/
theorem channelCommand_pointers {effect : State → ChanId → State}
    (h : ∀ t c, (effect t c).arb.pointers = t.arb.pointers) (s : State) (arg : Byte) (kindOk : Kind → Bool)
    (stateOk : ChanState → Bool) : (s.channelCommand arg kindOk stateOk effect).arb.pointers = s.arb.pointers := by
  unfold channelCommand
  split
  · rfl
  · split
    · rfl
    · split
      · rfl
      · split
        · rfl
        · exact h s _

@[simp] theorem enterRestart_pointers (s : State) (k : EntryCause) :
    (s.enterRestart k).arb.pointers = s.arb.pointers := (enterRestart_spec s k).pointers

@[simp] theorem enterSafe_pointers (s : State) (k : SafeFault) : (s.enterSafe k).arb.pointers = s.arb.pointers :=
  (enterSafe_spec s k).pointers

@[simp] theorem enterSleep_pointers (s : State) (k : EntryCause) : (s.enterSleep k).arb.pointers = s.arb.pointers :=
  (enterSleep_spec s k).pointers

@[simp] theorem reportRise_pointers (s : State) (n : Nat) : (s.reportRise n).arb.pointers = s.arb.pointers := by
  have hescalate : ∀ t : State, t.escalate.arb.pointers = t.arb.pointers := fun t => by
    unfold escalate
    split <;> simp
  unfold reportRise
  dsimp only
  repeat' split
  all_goals simp [hescalate]

@[simp] theorem reportClash_pointers (s : State) : s.reportClash.arb.pointers = s.arb.pointers := by
  unfold reportClash
  split <;> simp

@[simp] theorem wakeEvent_pointers (s : State) : s.wakeEvent.arb.pointers = s.arb.pointers := by
  unfold wakeEvent
  repeat' split
  all_goals simp

/-! ### The end of an attempt (R36) -/

@[simp] theorem ownerOutcome_pointers (s : State) (a : Attempt) (o : AttemptOutcome) :
    (s.ownerOutcome a o).arb.pointers = s.arb.pointers := by
  unfold ownerOutcome
  repeat' split
  all_goals simp

@[simp] theorem outcomeReports_pointers (s : State) (o : AttemptOutcome) :
    (s.outcomeReports o).arb.pointers = s.arb.pointers := by
  cases o <;> simp [outcomeReports]

@[simp] theorem finishQuiet_pointers (s : State) : s.finishQuiet.arb.pointers = s.arb.pointers := by
  unfold finishQuiet
  split <;> simp

@[simp] theorem endAttempt_pointers (s : State) (o : AttemptOutcome) :
    (s.endAttempt o).arb.pointers = s.arb.pointers := by
  have hhand : (s.handOver o).arb.pointers = s.arb.pointers := by
    unfold handOver
    split <;> simp
  unfold endAttempt
  dsimp only
  split <;> simp [hhand]

@[simp] theorem beginAttempt_pointers (s : State) : s.beginAttempt.arb.pointers = s.arb.pointers := by
  unfold beginAttempt
  split <;> rfl

/-! ### Events of the line -/

theorem gapComplete_pointers (s : State) : s.gapComplete.arb.pointers = s.arb.pointers := by
  unfold gapComplete startWaiting
  repeat' split
  all_goals simp

theorem resyncComplete_pointers (s : State) : s.resyncComplete.arb.pointers = s.arb.pointers := by
  unfold resyncComplete
  repeat' split
  all_goals rfl

theorem startBit_pointers (s : State) : s.startBit.arb.pointers = s.arb.pointers := by
  unfold startBit
  split <;> rfl

theorem badHeader_pointers (s : State) (h0 h1 h2 h3 : Byte) :
    (s.badHeader h0 h1 h2 h3).arb.pointers = s.arb.pointers := by
  unfold badHeader
  split <;> simp

theorem badFraming_pointers (s : State) (kind : FramingFault) : (s.badFraming kind).arb.pointers = s.arb.pointers := by
  unfold badFraming
  repeat' split
  all_goals simp

theorem deliver_pointers (s : State) (f : Frame) : (s.deliver f).arb.pointers = s.arb.pointers := by
  have hears : (s.presenceHears f).arb.pointers = s.arb.pointers := by
    unfold presenceHears
    repeat' split
    all_goals simp
  have hrespond : ∀ t : State, (t.respond f).arb.pointers = t.arb.pointers := fun t => t.decide_pointers _ _
  have hfollow : ∀ t : State, t.followAnnounce.arb.pointers = t.arb.pointers := fun t => by
    unfold followAnnounce
    split <;> simp
  unfold deliver
  dsimp only
  repeat' split
  all_goals simp [hears, hrespond, hfollow]

theorem receiveFrame_pointers (s : State) (bytes : List Byte) : (s.receiveFrame bytes).arb.pointers = s.arb.pointers := by
  have hgood : ∀ f, (s.goodFrame f bytes).arb.pointers = s.arb.pointers := fun f => by
    unfold goodFrame
    dsimp only
    split <;> simp [deliver_pointers]
  have hbad : ∀ f, (s.badCrc f bytes).arb.pointers = s.arb.pointers := fun f => by simp [badCrc]
  unfold receiveFrame
  repeat' split
  all_goals simp [hgood, hbad]

theorem endResponse_pointers (s : State) (r : Response) : (s.endResponse r).arb.pointers = s.arb.pointers := by
  unfold endResponse
  dsimp only
  split <;> simp

theorem responseSent_pointers (s : State) : s.responseSent.arb.pointers = s.arb.pointers := by
  unfold responseSent
  split <;> simp [endResponse_pointers]

theorem responseFaulted_pointers (s : State) : s.responseFaulted.arb.pointers = s.arb.pointers := by
  unfold responseFaulted
  split <;> simp [endResponse_pointers]

theorem takeAnswer_pointers (s : State) (read : Option Byte) : (s.takeAnswer read).arb.pointers = s.arb.pointers := by
  unfold takeAnswer
  repeat' split
  all_goals simp

theorem closeWindow_pointers (s : State) (read : Option Byte) : (s.closeWindow read).arb.pointers = s.arb.pointers := by
  have hheard : s.destinationHeard.arb.pointers = s.arb.pointers := by
    unfold destinationHeard
    repeat' split
    all_goals simp
  unfold closeWindow
  dsimp only
  repeat' split
  all_goals simp [takeAnswer_pointers, hheard]

theorem breakWindow_pointers (s : State) : s.breakWindow.arb.pointers = s.arb.pointers := by
  unfold breakWindow
  repeat' split
  all_goals simp

theorem clashSeen_pointers (s : State) : s.clashSeen.arb.pointers = s.arb.pointers := by
  unfold clashSeen
  split <;> simp

@[simp] theorem halfMs_pointers (s : State) : s.halfMs.arb.pointers = s.arb.pointers := by
  unfold halfMs endByRun
  repeat' split
  all_goals simp

theorem countHeldError_pointers (s : State) : s.countHeldError.arb.pointers = s.arb.pointers := by
  unfold countHeldError
  split <;> simp

theorem pulseHeard_pointers (s : State) : s.pulseHeard.arb.pointers = s.arb.pointers := by
  have htable : ∀ t : State, t.pulseAtTable.arb.pointers = t.arb.pointers := fun t => by
    unfold pulseAtTable
    split <;> simp
  have hdetector : ∀ t : State, t.pulseAtDetector.arb.pointers = t.arb.pointers := fun t => by
    unfold pulseAtDetector
    split <;> simp
  unfold pulseHeard
  dsimp only
  repeat' split
  all_goals simp [htable, hdetector]

theorem stuckRun_pointers (s : State) : s.stuckRun.arb.pointers = s.arb.pointers := by
  unfold stuckRun
  repeat' split
  all_goals simp

/-! ### Events of the station's own attempts -/

theorem loseArbitration_pointers (s : State) : s.loseArbitration.arb.pointers = s.arb.pointers := by
  unfold loseArbitration
  split <;> simp

theorem readBackFault_pointers (s : State) (fault : ReadBackFault) :
    (s.readBackFault fault).arb.pointers = s.arb.pointers := by
  unfold readBackFault
  repeat' split
  all_goals simp

theorem collide_pointers (s : State) : s.collide.arb.pointers = s.arb.pointers := by
  unfold collide
  split <;> simp

theorem ownFrameDone_pointers (s : State) : s.ownFrameDone.arb.pointers = s.arb.pointers := by
  unfold ownFrameDone
  dsimp only
  repeat' split
  all_goals simp

theorem pulseDone_pointers (s : State) (held : Bool) : (s.pulseDone held).arb.pointers = s.arb.pointers := by
  unfold pulseDone
  split <;> simp

/-! ### Timers and the WAKE pin -/

theorem backoffExpired_pointers (s : State) (c : ChanId) : (s.backoffExpired c).arb.pointers = s.arb.pointers := by
  unfold backoffExpired
  split <;> simp

theorem pacingExpired_pointers (s : State) (c : ChanId) : (s.pacingExpired c).arb.pointers = s.arb.pointers := by
  unfold pacingExpired
  split <;> simp

theorem beaconExpired_pointers (s : State) : s.beaconExpired.arb.pointers = s.arb.pointers := by
  unfold beaconExpired
  split <;> rfl

theorem settleExpired_pointers (s : State) : s.settleExpired.arb.pointers = s.arb.pointers := by
  unfold settleExpired
  split <;> simp

theorem presenceTimedOut_pointers (s : State) (a : Station) : (s.presenceTimedOut a).arb.pointers = s.arb.pointers := by
  unfold presenceTimedOut
  split <;> simp

theorem listenExpired_pointers (s : State) : s.listenExpired.arb.pointers = s.arb.pointers := by
  unfold listenExpired
  split <;> rfl

theorem restartExpired_pointers (s : State) : s.restartExpired.arb.pointers = s.arb.pointers := by
  unfold restartExpired
  split <;> rfl

theorem safeExpired_pointers (s : State) : s.safeExpired.arb.pointers = s.arb.pointers := by
  unfold safeExpired
  split <;> rfl

theorem pinShows_pointers (s : State) (pin : PinEvent) : (s.pinShows pin).arb.pointers = s.arb.pointers := by
  cases pin with
  | moves level => rfl
  | held level =>
    unfold pinShows pinAccepted
    dsimp only
    repeat' split
    all_goals simp

/-! ### Transactions of the host -/

/-- A control command moves no pointer where its effect moves none. -/
theorem control_pointers {f : State → State} (h : ∀ t, (f t).arb.pointers = t.arb.pointers) (s : State) :
    (s.control f).arb.pointers = s.arb.pointers := by
  unfold control atRise commanded
  split
  · exact h _
  · rfl

theorem access_pointers {f : State → State} (h : ∀ t, (f t).arb.pointers = t.arb.pointers) (s : State) :
    (s.access f).arb.pointers = s.arb.pointers := by
  unfold access
  split
  · exact h _
  · rfl

theorem join_pointers (s : State) : s.join.arb.pointers = s.arb.pointers := by
  unfold join
  repeat' split
  all_goals rfl

theorem sleepCommand_pointers (s : State) (arg : Byte) : (s.sleepCommand arg).arb.pointers = s.arb.pointers := by
  unfold sleepCommand
  repeat' split
  all_goals simp

theorem wakeCommand_pointers (s : State) : s.wakeCommand.arb.pointers = s.arb.pointers := by
  unfold wakeCommand
  repeat' split
  all_goals simp

theorem resume_pointers (s : State) : s.resume.arb.pointers = s.arb.pointers := by
  unfold resume
  repeat' split
  all_goals simp

theorem clearLimp_pointers (s : State) : s.clearLimp.arb.pointers = s.arb.pointers := by
  unfold clearLimp
  split <;> rfl

theorem writeStationByte_pointers (s : State) (addr : Nat) (v : Byte) :
    (s.writeStationByte addr v).arb.pointers = s.arb.pointers := by
  unfold writeStationByte setOwnAddress writeRestartLimit
  repeat' split
  all_goals simp

theorem writeChannelByte_pointers (s : State) (c : ChanId) (i : Nat) (v : Byte) :
    (s.writeChannelByte c i v).arb.pointers = s.arb.pointers := by
  unfold writeChannelByte
  split <;> rfl

theorem writeRegister_pointers (s : State) (addr : Word) (v : Byte) :
    (s.writeRegister addr v).arb.pointers = s.arb.pointers := by
  unfold writeRegister
  dsimp only
  split
  · exact s.writeStationByte_pointers _ v
  split
  · rfl
  split
  · rfl
  split
  · rfl
  split
  · rfl
  split
  · exact s.clearChannelFlags_pointers _ v
  split
  · exact s.writeChannelByte_pointers _ _ v
  · rfl

theorem writeSlot_pointers (s : State) (i : SlotId) (bytes : List Byte) :
    (s.writeSlot i bytes).arb.pointers = s.arb.pointers := by
  unfold writeSlot
  split <;> rfl

theorem endTransaction_pointers (s : State) : (s.atRise endTransaction).arb.pointers = s.arb.pointers := by
  unfold atRise
  split <;> rfl

end State

/-- No command but PICK and the two resets moves a pointer (R28). -/
theorem exec_pointers {i : Instr} {s t : State} (hrun : exec i s = .next t) (hpick : ∀ b, i ≠ .pick b) (hreset : i ≠ .reset)
    (hsoft : i ≠ .softReset) : t.arb.pointers = s.arb.pointers := by
  cases i
  case pick b => exact absurd rfl (hpick b)
  case reset => exact absurd rfl hreset
  case softReset => exact absurd rfl hsoft
  case clearNoticeFlags reg mask =>
    cases reg with
    | station =>
      obtain rfl := Host.Outcome.next.inj hrun
      exact State.access_pointers (fun _ => by rfl) s
    | channel c =>
      obtain rfl := Host.Outcome.next.inj hrun
      exact State.access_pointers (fun t => t.clearChannelFlags_pointers c mask) s
  all_goals obtain rfl := Host.Outcome.next.inj hrun
  case join => exact State.control_pointers State.join_pointers s
  case sleep arg => exact State.control_pointers (fun t => t.sleepCommand_pointers arg) s
  case wake => exact State.control_pointers State.wakeCommand_pointers s
  case start arg => exact State.control_pointers (fun t => t.channelCommand_pointers State.startChannel_pointers _ _ _) s
  case halt arg => exact State.control_pointers (fun t => t.channelCommand_pointers State.haltChannel_pointers _ _ _) s
  case clear arg => exact State.control_pointers (fun t => t.channelCommand_pointers State.clearChannel_pointers _ _ _) s
  case kick arg => exact State.control_pointers (fun t => t.channelCommand_pointers State.kickChannel_pointers _ _ _) s
  case resume => exact State.control_pointers State.resume_pointers s
  case clearRestarts | unknownCommand => exact State.control_pointers (fun _ => by rfl) s
  case clearLimp => exact State.control_pointers State.clearLimp_pointers s
  case registerWrite addr v => exact State.access_pointers (fun t => t.writeRegister_pointers addr v) s
  case ownAddressWrite v => exact State.access_pointers (fun t => t.writeStationByte_pointers 0 v) s
  case clearDone c => exact State.access_pointers (fun t => t.clearChannelFlags_pointers c 1) s
  case clearChangedMarks | bufferWrite | bufferRead | descriptorRead => exact State.access_pointers (fun _ => by rfl) s
  case descriptorWrite index bytes => exact State.access_pointers (fun t => t.writeSlot_pointers _ bytes) s
  case transactionEnd => exact s.endTransaction_pointers
  case wakePinAccepted pin => exact s.pinShows_pointers pin
  case formatError h0 h1 h2 h3 => exact s.badHeader_pointers h0 h1 h2 h3
  case framingError kind => exact s.badFraming_pointers kind
  case frameEnd bytes => exact s.receiveFrame_pointers bytes
  case responseByteEnd => exact s.responseSent_pointers
  case responseBitError => exact s.responseFaulted_pointers
  case windowClose read => exact s.closeWindow_pointers read
  case windowOutOfPlace => exact s.breakWindow_pointers
  case clashResponseSeen => exact s.clashSeen_pointers
  case clashWatchDisarmed => rfl
  case idleGapComplete => exact s.gapComplete_pointers
  case resyncEnd => exact s.resyncComplete_pointers
  case dominantRunHalfMs => exact s.halfMs_pointers
  case heldErrorCounted => exact s.countHeldError_pointers
  case wakePulseHeard => exact s.pulseHeard_pointers
  case lineStuck => exact s.stuckRun_pointers
  case arbitrationLost => exact s.loseArbitration_pointers
  case bitError fault => exact s.readBackFault_pointers fault
  case wakeCollision => exact s.collide_pointers
  case ownFrameEnd => exact s.ownFrameDone_pointers
  case pulseSent held => exact s.pulseDone_pointers held
  case startBitBegins => exact s.startBit_pointers
  case backoffExpiry c => exact s.backoffExpired_pointers c
  case pacingExpiry c => exact s.pacingExpired_pointers c
  case beaconTimerExpiry => exact s.beaconExpired_pointers
  case wakeSettleExpiry => exact s.settleExpired_pointers
  case presenceTimeout a => exact s.presenceTimedOut_pointers a
  case listenTimerExpiry => exact s.listenExpired_pointers
  case restartTimerExpiry => exact s.restartExpired_pointers
  case safeTimerExpiry => exact s.safeExpired_pointers

/-- Settles O49: a channel picked is the one that `nextInClass` finds; every other command by `exec_pointers`. -/
theorem pointersMoveWithPickedChannelsOnly : Obligations.PointersMoveWithPickedChannelsOnly := by
  refine ⟨fun s t atOnce c a ha hrun hl howner => ?channel, fun s t atOnce hrun hother => ?others,
    fun i s t hrun hpick hreset hsoft => exec_pointers hrun hpick hreset hsoft, fun s t hrun k => ?resets⟩
  case channel =>
    obtain rfl : s.pickOffer atOnce = t := Host.Outcome.next.inj hrun
    obtain hsame | ⟨o, -, hchoose, hpick⟩ := s.pickOffer_cases atOnce
    · rw [hsame, ha] at hl
      cases hl
    rw [hpick] at hl ⊢
    obtain rfl := Option.some.inj ((State.picked_latch s o atOnce).symm.trans hl)
    obtain rfl : o = .channel c := howner
    obtain ⟨⟨hoffer, -⟩, hfirst⟩ := (s.nextInClass_eq_some_iff _ c).1 (State.nextInClass_of_choose hchoose)
    refine ⟨hoffer, fun d hd hprio => hfirst d hd (congrArg BitVec.toFin hprio), ?_⟩
    rw [State.picked_arb]
    rfl
  case others =>
    obtain rfl : s.pickOffer atOnce = t := Host.Outcome.next.inj hrun
    obtain hsame | ⟨o, hcan, -, hpick⟩ := s.pickOffer_cases atOnce
    · rw [hsame]
    rw [hpick] at hother ⊢
    rw [State.picked_arb]
    cases o with
    | channel c =>
      have hlatched := hother _ c (State.picked_latch s _ atOnce) rfl
      rw [State.canPick_latched hlatched] at hcan
      cases hcan
    | beacon | announcer | wakeRequest => rfl
  case resets =>
    obtain hrun | ⟨hopen, hrun⟩ := hrun
    · obtain rfl := Host.Outcome.next.inj hrun
      exact Table.get_replicate _ _
    · obtain rfl := Host.Outcome.next.inj hrun
      have hsoft : (s.control State.softReset).arb = .reset := by
        rw [State.control, State.atRise, if_pos hopen]
        rfl
      rw [hsoft]
      exact Table.get_replicate _ _

end Sys2Proof.Machine

/-! PROOFS. The ends of the station's own attempts (R31 to R34, R36, R89, R122, R142): an attempt that is offered again. -/

namespace Sys2Proof.Machine

namespace State

/-! ### The phases of an own frame (R30) -/

theorem phase?_latched {s : State} {a : Attempt} (ha : s.arb.latch = some a) : s.phase? = some a.phase := by
  rw [phase?, ha]
  rfl

theorem sendingFrame_of {s : State} {a : Attempt} (hm : s.mc.mode = .active) (ha : s.arb.latch = some a)
    (hp : a.phase = .arbitration ∨ a.phase = .sending) : s.sendingFrame = true := by
  simpa [sendingFrame, hm, phase?_latched ha] using hp

theorem checking_of {s : State} {a : Attempt} (hm : s.mc.mode = .active) (ha : s.arb.latch = some a)
    (hp : a.phase = .checking) : s.checking = true := by
  simp [checking, hm, phase?_latched ha, hp]

theorem setPhase_latched {s : State} {a : Attempt} (ha : s.arb.latch = some a) (p : AttemptPhase) :
    s.setPhase p = { s with arb := { s.arb with latch := some { a with phase := p } } } := by
  simp only [setPhase, modArb, ha, Option.map_some]

/-! ### Events that end an attempt, or keep it (R31, R32) -/

theorem loseArbitration_of {s : State} {a : Attempt} (hm : s.mc.mode = .active) (ha : s.arb.latch = some a)
    (hp : a.phase = .arbitration) : s.loseArbitration = s.endAttempt .lost :=
  if_pos ⟨hm, by rw [phase?_latched ha, hp]⟩

theorem collide_of {s : State} {a : Attempt} (hm : s.mc.mode = .active) (ha : s.arb.latch = some a)
    (hp : a.phase = .arbitration ∨ a.phase = .sending ∨ a.phase = .checking) :
    s.collide = (s.modLine fun l => l.upset 0 16).endAttempt .wakeCollision := by
  have hon : s.sendingFrame = true ∨ s.checking = true := by
    obtain hp | hp | hp := hp
    · exact .inl (sendingFrame_of hm ha (.inl hp))
    · exact .inl (sendingFrame_of hm ha (.inr hp))
    · exact .inr (checking_of hm ha hp)
  exact if_pos hon

theorem readBackFault_dominant {s : State} (h : s.sendingFrame = true) :
    s.readBackFault .dominantReadRecessive = (s.modLine fun l => l.upset 1 0).endAttempt .bitError :=
  if_pos h

theorem readBackFault_recessive {s : State} (h : s.sendingFrame = true) :
    s.readBackFault .recessiveReadDominant = (s.modLine fun l => l.upset 0 1).setPhase .checking :=
  if_pos h

theorem readBackFault_runEnded {s : State} (h : s.checking = true) :
    s.readBackFault .runEnded = (s.modLine fun l => l.recessive 1).endAttempt .bitError :=
  if_pos h

/-! ### The end of an attempt (R36) -/

/-- A report starts no quiet sleep: at most it takes the station off the line, and a sleep that waits is discarded (R154). -/
theorem reportRise_awake {s : State} (h : s.mc.pendingSleep ≠ .quiet) (n : Nat) :
    (s.reportRise n).mc.pendingSleep ≠ .quiet := by
  have hescalate : ∀ t : State, t.escalate.mc.pendingSleep ≠ .quiet := fun t => by
    unfold escalate
    split
    · rw [(enterRestart_spec _ _).mc]
      nofun
    · rw [(enterSafe_spec _ _).mc]
      nofun
  by_cases hm : s.mc.mode.listens = true
  · rw [reportRise_eq hm]
    dsimp only
    split
    · exact hescalate _
    · exact h
  · rw [reportRise, if_neg hm]
    exact h

theorem outcomeReports_awake {s : State} (h : s.mc.pendingSleep ≠ .quiet) (o : AttemptOutcome) :
    (s.outcomeReports o).mc.pendingSleep ≠ .quiet := by
  have hgood : s.heardOnLine.reportGood.mc.pendingSleep ≠ .quiet := by
    unfold reportGood
    split <;> simpa using h
  cases o with
  | answered _ | sent => exact hgood
  | bitError => exact reportRise_awake h _
  | none | lost | wakeCollision | abandoned => exact h

/-- The part with the latch emptied. -/
def unlatched (s : State) : State := s.modArb fun b => { b with latch := none }

theorem handOver_latched {s : State} {a : Attempt} (ha : s.arb.latch = some a) (o : AttemptOutcome) :
    s.handOver o = (s.unlatched.ownerOutcome a o).outcomeReports o := by
  rw [handOver, ha]
  rfl

/-- An attempt ends with its outcome handed to the owner, and the reports made, where no sleep waits for its end (R36). -/
theorem endAttempt_awake {s : State} {a : Attempt} {o : AttemptOutcome} (ha : s.arb.latch = some a)
    (hq : s.mc.pendingSleep ≠ .quiet) (hn : a.owner = .announcer → o ≠ .sent) :
    s.endAttempt o = (s.unlatched.ownerOutcome a o).outcomeReports o := by
  have hawake : (s.handOver o).mc.pendingSleep ≠ .quiet := by
    rw [handOver_latched ha]
    exact outcomeReports_awake (by rw [ownerOutcome_mc]; exact hq) o
  have hannounce : ¬ (s.announcing = true ∧ o = .sent ∧ (s.handOver o).mc.mode = .active) := fun ⟨h1, h2, _⟩ =>
    hn (by simpa [announcing, ha] using h1) h2
  have hquiet : ¬ ((s.handOver o).mc.mode = .active ∧ (s.handOver o).mc.pendingSleep = .quiet
      ∧ (s.handOver o).arb.latch = none) := fun ⟨_, h, _⟩ => hawake h
  rw [← handOver_latched ha]
  exact (if_neg hannounce).trans (if_neg hquiet)

theorem ownerOutcome_channel (s : State) (c : ChanId) (img : Frame) (p : AttemptPhase) (o : AttemptOutcome) :
    s.ownerOutcome { owner := .channel c, form := .frame img, phase := p } o = s.channelOutcome c img o := rfl

/-- The end of a channel's attempt. -/
theorem endAttempt_channel {s : State} {c : ChanId} {img : Frame} {p : AttemptPhase} (o : AttemptOutcome)
    (ha : s.arb.latch = some { owner := .channel c, form := .frame img, phase := p }) (hq : s.mc.pendingSleep ≠ .quiet) :
    s.endAttempt o = (s.unlatched.channelOutcome c img o).outcomeReports o := by
  rw [endAttempt_awake ha hq nofun, ownerOutcome_channel]

/-! ### Outcomes that leave a channel its offer (R89, R122) -/

/-- LOST and WAKE_COLLISION change no count at a channel. -/
theorem channelOutcome_unsent (s : State) (c : ChanId) (img : Frame) {o : AttemptOutcome}
    (ho : o = .lost ∨ o = .wakeCollision) : s.channelOutcome c img o = s.settleHalt c := by
  obtain rfl | rfl := ho <;> unfold channelOutcome <;> cases (s.cfg c).kind <;> rfl

/-- BIT_ERROR at a channel is NONE at it (R87, R122). -/
theorem channelOutcome_bitError (s : State) (c : ChanId) (img : Frame) :
    s.channelOutcome c img .bitError = s.channelOutcome c img .none := by
  unfold channelOutcome
  cases (s.cfg c).kind <;> rfl

/-- A PUBLISH channel keeps its message (R122). -/
theorem channelOutcome_bitError_publish {s : State} {c : ChanId} (img : Frame) (hk : (s.cfg c).kind = .publish) :
    s.channelOutcome c img .bitError = s.settleHalt c := by
  unfold channelOutcome
  rw [hk]
  rfl

/-- A channel's attempt ended LOST or by WAKE_COLLISION: no report is made, and the channel looks at its offer. -/
theorem endAttempt_unsent {s : State} {c : ChanId} {img : Frame} {p : AttemptPhase} {o : AttemptOutcome}
    (ho : o = .lost ∨ o = .wakeCollision)
    (ha : s.arb.latch = some { owner := .channel c, form := .frame img, phase := p }) (hq : s.mc.pendingSleep ≠ .quiet)
    (hh : (s.ctx c).haltReq = false) : s.endAttempt o = s.unlatched.look c := by
  rw [endAttempt_channel o ha hq, channelOutcome_unsent _ _ _ ho]
  refine Eq.trans ?_ (settleHalt_look (s := s.unlatched) hh)
  obtain rfl | rfl := ho <;> rfl

/-- A publication ended by BIT_ERROR: an own transmit error is reported, and the channel looks at its offer. -/
theorem endAttempt_bitError_publish {s : State} {c : ChanId} {img : Frame} {p : AttemptPhase}
    (ha : s.arb.latch = some { owner := .channel c, form := .frame img, phase := p }) (hq : s.mc.pendingSleep ≠ .quiet)
    (hh : (s.ctx c).haltReq = false) (hk : (s.cfg c).kind = .publish) :
    s.endAttempt .bitError = (s.unlatched.look c).reportRise 8 := by
  rw [endAttempt_channel _ ha hq, channelOutcome_bitError_publish (s := s.unlatched) img hk,
    settleHalt_look (s := s.unlatched) hh]
  rfl

/-- A SEND channel's frame ended by BIT_ERROR below the retry limit: the retry is counted besides (R87). -/
theorem endAttempt_bitError_send {s : State} {c : ChanId} {img : Frame} {p : AttemptPhase}
    (ha : s.arb.latch = some { owner := .channel c, form := .frame img, phase := p }) (hq : s.mc.pendingSleep ≠ .quiet)
    (hh : (s.ctx c).haltReq = false) (hk : (s.cfg c).kind = .send) (hr : (s.ctx c).retry < s.station.retryLimit.toNat) :
    s.endAttempt .bitError = (s.silenced c).reportRise 8 := by
  rw [endAttempt_channel _ ha hq, channelOutcome_bitError, channelOutcome_none (s := s.unlatched) img hk hh hr]
  rfl

end State

/-- Settles O51: each event ends the attempt, or passes it to CHECKING, on the line record that it leaves. -/
theorem failedAttemptsAreOfferedAgain : Obligations.FailedAttemptsAreOfferedAgain := by
  refine ⟨fun s c img p hm hq ha hh => ?channel, fun s f hm hq ha => ?beacon⟩
  case channel =>
    have sending (hp : p = .arbitration ∨ p = .sending) : s.sendingFrame = true := State.sendingFrame_of hm ha hp
    refine ⟨fun hp => ?_, fun hp => ?_, fun hp => ?_, fun hp hk hr => ?_, fun hp hk => ?_, fun hp hk => ?_⟩
    · exact congrArg Host.Outcome.next
        ((State.loseArbitration_of hm ha hp).trans (State.endAttempt_unsent (.inl rfl) ha hq hh))
    · refine congrArg Host.Outcome.next ((State.collide_of hm ha hp).trans ?_)
      exact State.endAttempt_unsent (s := s.modLine fun l => l.upset 0 16) (.inr rfl) ha hq hh
    · refine congrArg Host.Outcome.next ((State.readBackFault_recessive (sending hp)).trans ?_)
      exact State.setPhase_latched (s := s.modLine fun l => l.upset 0 1) ha _
    · refine congrArg Host.Outcome.next ((State.readBackFault_dominant (sending hp)).trans ?_)
      exact State.endAttempt_bitError_send (s := s.modLine fun l => l.upset 1 0) ha hq hh hk hr
    · refine congrArg Host.Outcome.next ((State.readBackFault_dominant (sending hp)).trans ?_)
      exact State.endAttempt_bitError_publish (s := s.modLine fun l => l.upset 1 0) ha hq hh hk
    · refine congrArg Host.Outcome.next ((State.readBackFault_runEnded (State.checking_of hm ha hp)).trans ?_)
      exact State.endAttempt_bitError_publish (s := s.modLine fun l => l.recessive 1) ha hq hh hk
  case beacon =>
    exact congrArg Host.Outcome.next
      ((State.loseArbitration_of hm ha rfl).trans (State.endAttempt_awake (o := .lost) ha hq nofun))

end Sys2Proof.Machine

/-! PROOFS. Own frames and the own pulse that end SENT, or wait for their answer (R33, R34, R121, R135, R142, R169). -/

namespace Sys2Proof.Machine

namespace State

/-! ### The end of the own frame (R33) -/

/-- The end of the own frame: a broadcast frame is SENT, another waits for its answer in the window. -/
theorem ownFrameDone_of {s : State} {o : Owner} {f : Frame} {p : AttemptPhase} (hm : s.mc.mode = .active)
    (ha : s.arb.latch = some { owner := o, form := .frame f, phase := p }) (hp : p = .arbitration ∨ p = .sending) :
    s.ownFrameDone =
      if f.kind.broadcast then (s.modLine fun l => l.after f .sender).endAttempt .sent
      else (s.modLine fun l => l.after f .sender).setPhase .answer := by
  have himage : s.image? = some f := by rw [image?, ha]
  simp only [ownFrameDone, himage, sendingFrame_of hm ha hp, if_true, LineRecord.frameDone_eq]

/-- The station has been heard: the beacon timer starts again, and one good transmission is reported (R36, R142). -/
theorem outcomeReports_sent {s : State} (hm : s.mc.mode = .active) :
    s.outcomeReports .sent =
      { s with
        beaconTimer := startTimer (10 * s.station.beaconInterval.toNat)
        mc := { s.mc with lineErrors := s.mc.lineErrors - 1 } } := by
  rw [outcomeReports, heardOnLine, if_pos hm, reportGood_of]
  · rfl
  · exact (Mode.listens_iff _).2 (.inr hm)

/-- The announce SENT takes the station to SLEEP (R169). -/
theorem endAttempt_announced {s : State} {a : Attempt} (hm : s.mc.mode = .active) (ha : s.arb.latch = some a)
    (ho : a.owner = .announcer) :
    s.endAttempt .sent = (s.unlatched.outcomeReports .sent).enterSleep .command := by
  have hhand : s.handOver .sent = s.unlatched.outcomeReports .sent := by
    rw [handOver_latched ha, ownerOutcome, ho]
  have hmode : (s.unlatched.outcomeReports .sent).mc.mode = .active := by
    rw [outcomeReports_sent (s := s.unlatched) hm]
    exact hm
  have hannounce : s.announcing = true ∧ AttemptOutcome.sent = .sent ∧ (s.handOver .sent).mc.mode = .active :=
    ⟨by simp [announcing, ha, ho], rfl, hhand ▸ hmode⟩
  rw [← hhand]
  exact if_pos hannounce

/-! ### A publication SENT (R121, R67) -/

theorem fetchLoop_haltReq (c : ChanId) (n : Nat) (s : State) (h : (s.ctx c).haltReq = false) :
    ((s.fetchLoop c n).ctx c).haltReq = false := by
  induction n generalizing s with
  | zero => exact h
  | succ n ih =>
    have hread : ∀ f : Context → Context, (∀ x, (f x).haltReq = x.haltReq) → ((s.modCtx c f).ctx c).haltReq = false :=
      fun f hf => by rw [modCtx_ctx_same, hf, h]
    unfold fetchLoop
    dsimp only
    split
    · exact hread _ fun _ => rfl
    · split
      · simp [fetchTooLong]
      · split
        · unfold fetchDry
          split
          · rw [raiseDrained_ctx]
            exact hread _ fun _ => rfl
          · exact h
        · split
          · simp [fetchBadRange]
          · split
            · simp [fetchTooLong]
            · exact ih _ (hread _ fun _ => rfl)

/-- No fetch asks for a halt (R62 to R65). -/
theorem fetch_haltReq {s : State} {c : ChanId} (h : (s.ctx c).haltReq = false) :
    ((s.fetch c).ctx c).haltReq = false := by
  unfold fetch
  split
  · exact h
  · exact fetchLoop_haltReq c 65 s h

theorem completeMessage_haltReq {s : State} {c : ChanId} (h : (s.ctx c).haltReq = false) :
    ((s.completeMessage c).ctx c).haltReq = false := by
  have hread : ∀ f : Context → Context, (∀ x, (f x).haltReq = x.haltReq) →
      (((s.writeBackList c .done (fun d => d.length.toNat) (s.ctx c).fetched).modCtx c f).ctx c).haltReq = false :=
    fun f hf => by rw [modCtx_ctx_same, hf, ctx, writeBackList_contexts, ← ctx, h]
  unfold completeMessage
  dsimp only
  split
  · exact fetch_haltReq (hread _ fun _ => rfl)
  · exact hread _ fun _ => rfl

/-- A channel with its pacing timer started (R92, R123). -/
def paced (s : State) (c : ChanId) : State :=
  s.modCtx c fun x => { x with pacing := startTimer (s.cfg c).pacing.toNat }

theorem paced_ctx (s : State) (c : ChanId) :
    (s.paced c).ctx c = { s.ctx c with pacing := startTimer (s.cfg c).pacing.toNat } := modCtx_ctx_same _ _ _

theorem paced_ctx_ne (s : State) {c d : ChanId} (h : d ≠ c) : (s.paced c).ctx d = s.ctx d := modCtx_ctx_ne _ _ h

/-- A publication SENT: the pacing timer starts, the message is complete, and the channel looks at its offer (R121). -/
theorem channelOutcome_sent_publish {s : State} {c : ChanId} (img : Frame) (hk : (s.cfg c).kind = .publish)
    (hh : (s.ctx c).haltReq = false) :
    s.channelOutcome c img .sent = ((s.paced c).completeMessage c).look c := by
  have hhalt : (((s.paced c).completeMessage c).ctx c).haltReq = false :=
    completeMessage_haltReq (by rw [paced_ctx]; exact hh)
  rw [← settleHalt_look hhalt]
  unfold channelOutcome
  rw [hk]
  rfl

/-! ### The own pulse SENT (R34, R25, R135) -/

theorem look_wantsWake (s : State) (c d : ChanId) : (s.look c).wantsWake d = s.wantsWake d := rfl

/-- Looks of channels that want no wake pulse leave the wake request. -/
theorem lookWhere_wakeRequest {s : State} {p : ChanId → Bool} (h : ∀ c, p c = true → s.wantsWake c = false) :
    (s.lookWhere p).arb.wakeRequest = s.arb.wakeRequest := by
  unfold lookWhere forChannels
  generalize chanList = l
  induction l generalizing s with
  | nil => rfl
  | cons c l ih =>
    rw [List.foldl_cons]
    split
    case isTrue hc =>
      rw [ih (s := s.look c) h, look_arb, h c hc, Bool.or_false]
    case isFalse => exact ih h

/-- A SEND channel toward a WAKING peer wants no wake pulse (R80). -/
theorem wantsWake_waking {s : State} {c : ChanId} {q : Station → Bool} (hpeer : s.sendPeer c q = true)
    (hq : ∀ a, q a = true → (s.entry a).state = .waking) : s.wantsWake c = false := by
  have hgate : s.gate c ≠ .wake := by
    unfold sendPeer at hpeer
    unfold gate entryOf
    cases ha : stationOf (s.cfg c).peerStation with
    | none => simp
    | some a =>
      simp only [ha, Bool.and_eq_true] at hpeer
      obtain ⟨-, hqa⟩ := hpeer
      simp only [Option.map_some, gateOf, hq a hqa]
      split <;> simp
  simp [wantsWake, hgate]

end State

/-- An entry that a wake pulse changes is WAKING (R135). -/
theorem Entry.pulsed_changed {e : Entry} (h : e.changed e.pulsed = true) : e.pulsed.state = .waking := by
  by_cases hs : e.state = .asleep ∨ e.state = .absent ∧ e.wakeTried = false
  · rw [Entry.pulsed_sleeping hs]
  · rw [Entry.pulsed_other (fun ha => hs (.inl ha)) fun ht => hs (.inr ht)] at h
    simp [Entry.changed] at h

namespace State

/-- A wake pulse at the Presence Table asks for no other one: whoever looks has a WAKING peer (R80, R135). -/
theorem presencePulse_wakeRequest (s : State) : s.presencePulse.arb.wakeRequest = s.arb.wakeRequest := by
  have hwaking : ∀ t : State, t.lookWaking.arb.wakeRequest = t.arb.wakeRequest := fun t =>
    lookWhere_wakeRequest fun c hc => wantsWake_waking hc fun a ha => by simpa using ha
  have hpulsed : ∀ t : State, (t.updateEntries fun _ e => e.pulsed).arb.wakeRequest = t.arb.wakeRequest := fun t => by
    unfold updateEntries replaceEntries
    refine lookWhere_wakeRequest fun c hc => wantsWake_waking (s := t.withEntries _) hc fun a ha => ?_
    rw [withEntries_entry]
    rw [Table.get_mapIdx] at ha ⊢
    split at ha
    · simp [Entry.changed] at ha
    · rename_i hself
      rw [if_neg hself]
      exact Entry.pulsed_changed ha
  rw [presencePulse, hwaking, hpulsed]

theorem presencePulse_channels (s : State) : s.presencePulse.notice.channels = s.notice.channels := by
  rw [presencePulse, lookWaking_notice, updateEntries_channels]

/-- The release of the own pulse (R34). -/
theorem pulseDone_of {s : State} {a : Attempt} (hm : s.mc.mode = .active) (ha : s.arb.latch = some a)
    (hp : a.phase = .pulse) (held : Bool) :
    s.pulseDone held = (s.modLine fun l => l.pulseDone held).endAttempt .sent :=
  if_pos ⟨hm, by rw [phase?_latched ha, hp]⟩

/-- The part after its own pulse has been SENT, the reports apart: the wake request is cleared, and the Presence Table has the
pulse (R25, R135). -/
def pulseSent (s : State) : State :=
  (s.modArb fun b => { b with latch := none, wakeRequest := false }).presencePulse

/-- What the pulse SENT does at the Station Arbiter and the Presence Table. -/
theorem pulseSent_gives (s : State) :
    s.pulseSent.arb.latch = none ∧ s.pulseSent.arb.wakeRequest = false ∧ s.pulseSent.arb.pointers = s.arb.pointers
      ∧ (∀ a, s.pulseSent.entry a = if (s.entry a).state = .self then s.entry a else (s.entry a).pulsed)
      ∧ s.pulseSent.presence.settle = startTimer (10 * s.station.wakeSettle.toNat) := by
  unfold pulseSent
  exact ⟨presencePulse_latch _, presencePulse_wakeRequest _, presencePulse_pointers _, presencePulse_entry _,
    presencePulse_settle _⟩

/-- What it leaves alone. -/
theorem pulseSent_frame (s : State) :
    s.pulseSent.mc = s.mc ∧ s.pulseSent.station = s.station ∧ s.pulseSent.line = s.line
      ∧ s.pulseSent.contexts = s.contexts ∧ s.pulseSent.slots = s.slots ∧ s.pulseSent.ram = s.ram
      ∧ s.pulseSent.notice.channels = s.notice.channels := by
  simp [pulseSent, presencePulse_channels]

theorem ownerOutcome_pulse (s : State) (p : AttemptPhase) :
    s.unlatched.ownerOutcome { owner := .wakeRequest, form := .pulse, phase := p } .sent = s.pulseSent := rfl

theorem endAttempt_pulse {s : State} {p : AttemptPhase}
    (ha : s.arb.latch = some { owner := .wakeRequest, form := .pulse, phase := p }) (hq : s.mc.pendingSleep ≠ .quiet) :
    s.endAttempt .sent = s.pulseSent.outcomeReports .sent := by
  rw [endAttempt_awake ha hq nofun, ownerOutcome_pulse]

end State

/-- The line at the release of the own pulse: in RESYNC, the run going on where another station holds the line (R34). -/
theorem LineRecord.pulseDone_state (l : LineRecord) (held : Bool) :
    (l.pulseDone held).state = .busy .resync ∧ (l.pulseDone held).ownRun = (held && l.ownRun) := by
  cases held <;> exact ⟨rfl, rfl⟩

/-- A look at the offer leaves what a walk of the ring reads. -/
theorem SameRing.look (s : State) (c : ChanId) : SameRing s (s.look c) c := ⟨rfl, rfl, rfl⟩

/-- What the completion of a message leaves is said of any state with the same message, Descriptor Table and notices. -/
theorem MessageDone.withSlots {s v u : State} {c : ChanId} (h : MessageDone v u c)
    (hfetched : (v.ctx c).fetched = (s.ctx c).fetched) (hnumber : (v.ctx c).msgNo = (s.ctx c).msgNo)
    (hslots : v.slots = s.slots) (hnotice : v.notice = s.notice) :
    MessageDone s { s with slots := u.slots, notice := u.notice } c := by
  have hslot : ∀ j, v.slot j = s.slot j := fun j => by rw [State.slot, hslots, State.slot]
  have hrest : u.notice = _ := congrArg State.notice h.rest
  have hmessage := h.message
  have hothers := h.others
  simp only [hfetched, hnumber, hslot, hnotice] at hmessage hothers hrest
  exact ⟨hmessage, hothers, by rw [hrest]⟩

namespace State

/-- The part after a publication has been SENT on a line record. -/
def published (s : State) (c : ChanId) (l : LineRecord) : State :=
  ((({ s with line := l } : State).unlatched.paced c).completeMessage c).look c

/-- The channel of a publication that has been SENT, and what is left of the others (R67, R121). -/
theorem published_gives {s : State} {c : ChanId} (l : LineRecord) (hrun : (s.ctx c).state = .running)
    (hslots : ((s.ctx c).fetched.map fun k => k.slot).Nodup) :
    let y :=
      { s.ctx c with
        pacing := startTimer (s.cfg c).pacing.toNat, msgNo := (s.ctx c).msgNo + 1, fetched := []
        msgStart := (s.ctx c).walker, stream := 0, acc := { sum := 0, pending := none } }
    ∃ u, MessageDone s u c
      ∧ (((s.ctx c).fetched.any fun k => (s.slot k.slot).notify && (s.slot k.slot).hold) = true →
          (s.published c l).ctx c = { y with state := .holding } ∧ (s.published c l).slots = u.slots
            ∧ (s.published c l).notice.channels.get c = u.notice.channels.get c)
      ∧ (((s.ctx c).fetched.any fun k => (s.slot k.slot).notify && (s.slot k.slot).hold) = false →
          FetchGives u (s.published c l) c y) := by
  intro y
  let v := ({ s with line := l } : State).unlatched.paced c
  have hv : v.ctx c = { s.ctx c with pacing := startTimer (s.cfg c).pacing.toNat } := paced_ctx _ c
  obtain ⟨u, hdone, hhold, hfetch⟩ := completeMessage_gives v c (by rw [hv]; exact hslots) (by rw [hv]; exact hrun)
  rw [hv] at hhold hfetch
  have hctx : u.ctx c = v.ctx c := by rw [hdone.rest]; rfl
  have hcfg : u.cfg c = s.cfg c := by rw [hdone.rest]; rfl
  have hpublished : s.published c l = (v.completeMessage c).look c := rfl
  refine ⟨_, hdone.withSlots (by rw [hv]) (by rw [hv]) rfl rfl, fun h => ?_, fun h => ?_⟩
  · rw [hpublished, look_ctx, look_slots, look_notice, hhold h, modCtx_ctx_same, hctx, hv]
    exact ⟨rfl, rfl, rfl⟩
  · obtain ⟨-, hgives⟩ := hfetch h
    rw [hpublished]
    exact hgives.congr ⟨hcfg, rfl, rfl⟩ (.look _ c) (look_ctx _ _ _).symm

/-- A publication leaves every other channel alone. -/
theorem published_others (s : State) (c : ChanId) (l : LineRecord) {e : ChanId} (he : e ≠ c) :
    (s.published c l).ctx e = s.ctx e ∧ (s.published c l).notice.channels.get e = s.notice.channels.get e := by
  have hlocal := completeMessage_local (({ s with line := l } : State).unlatched.paced c) c
  rw [published, look_ctx, look_notice, hlocal.ctx e he, hlocal.flags e he, paced_ctx_ne _ he]
  exact ⟨rfl, rfl⟩

theorem published_frame (s : State) (c : ChanId) (l : LineRecord) :
    (s.published c l).mc = s.mc ∧ (s.published c l).arb.latch = none ∧ (s.published c l).ram = s.ram
      ∧ (s.published c l).line = l := by
  simp [published, paced, unlatched]

end State

/-- Settles O52: the end of the own frame by its kind; a publication by `published_gives`, the pulse by `presencePulse`. -/
theorem ownTransmissionsEndSent : Obligations.OwnTransmissionsEndSent := by
  refine ⟨fun s o f p hm hq ha hp => ?frame, fun s held hm hq ha => ?pulse⟩
  case frame =>
    let v := s.modLine fun l => l.after f .sender
    have hdone := State.ownFrameDone_of hm ha hp
    have sent (hb : f.kind.broadcast = true) : s.ownFrameDone = v.endAttempt .sent := hdone.trans (if_pos hb)
    refine ⟨fun hk => ?answer, fun hk ho => ?beacon, fun hk ho => ?announce, fun c hk ho hkind hrun hhalt hslots => ?publish⟩
    case answer =>
      have hb : ¬ f.kind.broadcast = true := by obtain hk | hk := hk <;> rw [hk] <;> decide
      exact congrArg Host.Outcome.next ((hdone.trans (if_neg hb)).trans (State.setPhase_latched (s := v) ha .answer))
    case beacon =>
      subst ho
      have hend : v.endAttempt .sent = v.unlatched.outcomeReports .sent := by
        rw [State.endAttempt_awake (s := v) ha hq nofun, State.ownerOutcome]
      refine congrArg Host.Outcome.next ((sent (by rw [hk]; rfl)).trans (hend.trans ?_))
      exact State.outcomeReports_sent (s := v.unlatched) hm
    case announce =>
      subst ho
      have hend := State.endAttempt_announced (s := v) hm ha rfl
      have hasleep := State.enterSleep_spec (v.unlatched.outcomeReports .sent) .command
      rw [State.outcomeReports_sent (s := v.unlatched) hm] at hend hasleep
      refine ⟨_, congrArg Host.Outcome.next ((sent (by rw [hk]; rfl)).trans hend), ?_⟩
      exact { hasleep with contexts := fun c _ => hasleep.contexts c rfl }
    case publish =>
      subst ho
      have hend : v.endAttempt .sent = (s.published c (s.line.after f .sender)).outcomeReports .sent := by
        rw [State.endAttempt_channel (s := v) _ ha hq,
          State.channelOutcome_sent_publish (s := v.unlatched) f hkind hhalt]
        rfl
      obtain ⟨hmc, hlatch, hram, hline⟩ := s.published_frame c (s.line.after f .sender)
      obtain ⟨u, hmessage, hhold, hfetch⟩ := State.published_gives (s.line.after f .sender) hrun hslots
      have hothers := fun e (he : e ≠ c) => s.published_others c (s.line.after f .sender) he
      generalize s.published c (s.line.after f .sender) = w at hend hmc hlatch hram hline hhold hfetch hothers
      rw [State.outcomeReports_sent (by rw [hmc]; exact hm)] at hend
      refine ⟨_, u, congrArg Host.Outcome.next ((sent (by rw [hk]; rfl)).trans hend), hmessage, hhold, fun h => ?_, hothers,
        ?_, hlatch, hram, hline⟩
      · exact (hfetch h).congr ⟨rfl, rfl, rfl⟩ ⟨rfl, rfl, rfl⟩ rfl
      · rw [hmc]
  case pulse =>
    let v := s.modLine fun l => l.pulseDone held
    have hend := (State.pulseDone_of hm ha rfl held).trans (State.endAttempt_pulse (s := v) ha hq)
    obtain ⟨hlatch, hwake, hpointers, hentry, hsettle⟩ := v.pulseSent_gives
    obtain ⟨hmc, hstation, hline, hctx, hslots, hram, hchannels⟩ := v.pulseSent_frame
    obtain ⟨hstate, hrun⟩ := s.line.pulseDone_state held
    generalize v.pulseSent = w at hend hlatch hwake hpointers hentry hsettle hmc hstation hline hctx hslots hram hchannels
    rw [State.outcomeReports_sent (by rw [hmc]; exact hm), hmc, hstation] at hend
    refine ⟨_, congrArg Host.Outcome.next hend, hlatch, hwake, hpointers, fun a h => ?sleeping, fun a h1 h2 => ?others, hsettle,
      rfl, rfl, hline ▸ hstate, hline ▸ hrun, hctx, hslots, hram, hchannels⟩
    case sleeping =>
      have hself : (s.entry a).state ≠ .self := by obtain h | ⟨h, -⟩ := h <;> simp [h]
      exact (hentry a).trans ((if_neg hself).trans (Entry.pulsed_sleeping h))
    case others => exact (hentry a).trans (by rw [State.modLine_entry, Entry.pulsed_other h1 h2, ite_self])

end Sys2Proof.Machine

/-! PROOFS. The channel check of JOIN (R41 to R43): the checks of one channel as conditions, and the first that fails. -/

namespace Sys2Proof.Machine

/-- The first entry of a rising list at which a function answers is the lowest. -/
theorem findSome?_of_lowest {n : Nat} {α : Type} {f : Fin n → Option α} {l : List (Fin n)} (hl : l.Pairwise (· < ·))
    {a : Fin n} {b : α} (ha : a ∈ l) (hb : f a = some b) (hlow : ∀ x ∈ l, x < a → f x = none) : l.findSome? f = some b := by
  induction l with
  | nil => cases ha
  | cons x l ih =>
    obtain ⟨hx, hl⟩ := List.pairwise_cons.1 hl
    obtain rfl | ha := List.mem_cons.1 ha
    · rw [List.findSome?_cons, hb]
    · rw [List.findSome?_cons, hlow x List.mem_cons_self (hx a ha)]
      exact ih hl ha fun y hy => hlow y (List.mem_cons_of_mem _ hy)

theorem chanList_sorted : chanList.Pairwise (· < ·) := List.pairwise_lt_finRange 16

namespace Kind

theorem hasPeer_iff (k : Kind) : k.hasPeer = true ↔ k = .send ∨ k = .take ∨ k = .subscribe := by cases k <;> decide

end Kind

namespace ChanConfig

theorem used_iff (g : ChanConfig) : g.used = true ↔ g.kindCode ≠ 0 := by simp [used]

/-- Max payload has a size for every code but 3 (R40). -/
theorem payloadSize_eq_none_iff (g : ChanConfig) : g.payloadSize = none ↔ g.payloadCode = 3 := by
  unfold payloadSize
  generalize g.payloadCode = p
  revert p
  decide

/-- Some field of a record is out of its range, or the peer station is 31 (R42, check 1). -/
def Bad (g : ChanConfig) : Prop :=
  4 < g.kindCode.toNat ∨ ((g.kind = .send ∨ g.kind = .take ∨ g.kind = .subscribe) ∧ g.peerStation = 31)
    ∨ g.payloadCode = 3 ∨ g.ringLength = 0 ∨ 64 < g.ringLength.toNat

/-- The ring runs past slot 63 (R42, check 2). -/
def Past (g : ChanConfig) : Prop := 64 < g.ringBase.toNat + g.ringLength.toNat

/-- The peer is the own station (R42, check 3). -/
def SelfPeer (g : ChanConfig) (own : BitVec 5) : Prop :=
  (g.kind = .send ∨ g.kind = .take ∨ g.kind = .subscribe) ∧ g.peerStation = own

theorem checkAlone_condition (g : ChanConfig) :
    (!g.kindNamed ∨ (g.kind.hasPeer ∧ g.peerStation = 31) ∨ g.payloadSize = none ∨ g.ringLength = 0
      ∨ 64 < g.ringLength.toNat) ↔ g.Bad := by
  simp [Bad, kindNamed, payloadSize_eq_none_iff, Kind.hasPeer_iff]

theorem checkAlone_bad {g : ChanConfig} (own : BitVec 5) (h : g.Bad) : g.checkAlone own = some .badValue :=
  if_pos (g.checkAlone_condition.2 h)

theorem checkAlone_past {g : ChanConfig} (own : BitVec 5) (h : ¬ g.Bad) (hp : g.Past) : g.checkAlone own = some .ringRange :=
  (if_neg (mt g.checkAlone_condition.1 h)).trans (if_pos hp)

theorem checkAlone_rest {g : ChanConfig} {own : BitVec 5} (h : ¬ g.Bad) (hp : ¬ g.Past) :
    g.checkAlone own = if g.kind.hasPeer ∧ g.peerStation = own then some .selfPeer else none :=
  (if_neg (mt g.checkAlone_condition.1 h)).trans (if_neg hp)

theorem checkAlone_selfPeer {g : ChanConfig} {own : BitVec 5} (h : ¬ g.Bad) (hp : ¬ g.Past) (hs : g.SelfPeer own) :
    g.checkAlone own = some .selfPeer :=
  (checkAlone_rest h hp).trans (if_pos ⟨g.kind.hasPeer_iff.2 hs.1, hs.2⟩)

theorem checkAlone_good {g : ChanConfig} {own : BitVec 5} (h : ¬ g.Bad) (hp : ¬ g.Past) (hs : ¬ g.SelfPeer own) :
    g.checkAlone own = none :=
  (checkAlone_rest h hp).trans (if_neg fun ⟨hk, he⟩ => hs ⟨g.kind.hasPeer_iff.1 hk, he⟩)

/-- The single-channel checks pass exactly where none of them fails (R42). -/
theorem checkAlone_eq_none_iff (g : ChanConfig) (own : BitVec 5) :
    g.checkAlone own = none ↔ ¬ g.Bad ∧ ¬ g.Past ∧ ¬ g.SelfPeer own := by
  by_cases hb : g.Bad
  · simp [checkAlone_bad own hb, hb]
  by_cases hp : g.Past
  · simp [checkAlone_past own hb hp, hp]
  by_cases hs : g.SelfPeer own
  · simp [checkAlone_selfPeer hb hp hs, hs]
  · simp [checkAlone_good hb hp hs, hb, hp, hs]

/-- The same, as the ranges that the fields lie in. -/
theorem checkAlone_passes_iff (g : ChanConfig) (own : BitVec 5) :
    g.checkAlone own = none ↔
      g.kindCode.toNat ≤ 4 ∧ g.payloadCode ≠ 3 ∧ 1 ≤ g.ringLength.toNat
        ∧ g.ringBase.toNat + g.ringLength.toNat ≤ 64
        ∧ (g.kind = .send ∨ g.kind = .take ∨ g.kind = .subscribe → g.peerStation ≠ 31 ∧ g.peerStation ≠ own) := by
  have hlength : g.ringLength = 0 ↔ g.ringLength.toNat = 0 := by rw [← BitVec.toNat_inj]; rfl
  rw [checkAlone_eq_none_iff, Bad, Past, SelfPeer, hlength]
  constructor
  · rintro ⟨hb, hp, hs⟩
    refine ⟨by omega, by tauto, by omega, by omega, by tauto⟩
  · rintro ⟨hk, hc, hl, hr, ho⟩
    refine ⟨?_, by omega, by tauto⟩
    rintro (h | h | h | h | h)
    · omega
    · tauto
    · exact hc h
    · omega
    · omega

/-- Two rings of at least one slot each, the first within slots 0 to 63, overlap exactly where they share a slot (R43). -/
theorem overlaps_eq_false_iff {g d : ChanConfig} (hg : 1 ≤ g.ringLength.toNat) (hd : 1 ≤ d.ringLength.toNat)
    (hr : g.ringBase.toNat + g.ringLength.toNat ≤ 64) :
    g.overlaps d = false ↔ ∀ i, ¬ (g.inRing i ∧ d.inRing i) := by
  simp only [overlaps, Bool.and_eq_false_iff, decide_eq_false_iff_not, inRing]
  constructor
  · intro h i hi
    omega
  · intro h
    by_contra hno
    have hfirst : max g.ringBase.toNat d.ringBase.toNat < g.ringBase.toNat + g.ringLength.toNat := by omega
    exact h ⟨_, hfirst.trans_le hr⟩ (by dsimp only; omega)

theorem sameBinding_eq_false_iff (g d : ChanConfig) :
    g.sameBinding d = false ↔
      ¬ (g.kind = d.kind ∧ (g.kind = .send ∨ g.kind = .subscribe) ∧ g.peerStation = d.peerStation
        ∧ g.peerChannel = d.peerChannel) := by
  rw [← Bool.not_eq_true]
  simp [sameBinding, and_assoc]

theorem checkPair_overlap {g d : ChanConfig} (h : g.overlaps d = true) : g.checkPair d = some .ringOverlap := if_pos h

theorem checkPair_binding {g d : ChanConfig} (h : g.overlaps d = false) (hb : g.sameBinding d = true) :
    g.checkPair d = some .dupBinding := by
  simp [checkPair, h, hb]

theorem checkPair_eq_none_iff (g d : ChanConfig) :
    g.checkPair d = none ↔ g.overlaps d = false ∧ g.sameBinding d = false := by
  unfold checkPair
  cases g.overlaps d <;> cases g.sameBinding d <;> decide

end ChanConfig

namespace State

theorem checkChannel_off {s : State} {c : ChanId} (h : (s.cfg c).kindCode = 0) : s.checkChannel c = none :=
  if_neg (by simp [ChanConfig.used_iff, h])

theorem checkChannel_alone {s : State} {c : ChanId} {code : RefusalCode} (h : (s.cfg c).kindCode ≠ 0)
    (hcode : (s.cfg c).checkAlone s.station.ownAddress = some code) : s.checkChannel c = some code := by
  rw [checkChannel, if_pos ((ChanConfig.used_iff _).2 h), hcode]

/-- The channels with which channel `c` is checked (R43). -/
def lowerChannels (s : State) (c : ChanId) : List ChanId := chanList.filter fun d => d < c && (s.cfg d).used

theorem mem_lowerChannels {s : State} {c d : ChanId} : d ∈ s.lowerChannels c ↔ d < c ∧ (s.cfg d).kindCode ≠ 0 := by
  simp [lowerChannels, chanList, ChanConfig.used_iff]

theorem checkChannel_pairs {s : State} {c : ChanId} (h : (s.cfg c).kindCode ≠ 0)
    (halone : (s.cfg c).checkAlone s.station.ownAddress = none) :
    s.checkChannel c = (s.lowerChannels c).findSome? fun d => (s.cfg c).checkPair (s.cfg d) := by
  rw [checkChannel, if_pos ((ChanConfig.used_iff _).2 h), halone, lowerChannels]

/-- The pair check that fails is the one with the lowest lower channel (R41, R43). -/
theorem checkChannel_pair {s : State} {c d : ChanId} {code : RefusalCode} (h : (s.cfg c).kindCode ≠ 0)
    (halone : (s.cfg c).checkAlone s.station.ownAddress = none) (hd : d < c) (hk : (s.cfg d).kindCode ≠ 0)
    (hlow : ∀ e, e < d → (s.cfg e).kindCode ≠ 0 →
      (s.cfg c).overlaps (s.cfg e) = false ∧ (s.cfg c).sameBinding (s.cfg e) = false)
    (hcode : (s.cfg c).checkPair (s.cfg d) = some code) : s.checkChannel c = some code := by
  rw [checkChannel_pairs h halone]
  refine findSome?_of_lowest (chanList_sorted.filter _) (mem_lowerChannels.2 ⟨hd, hk⟩) hcode fun e he hlt => ?_
  exact (ChanConfig.checkPair_eq_none_iff _ _).2 (hlow e hlt (mem_lowerChannels.1 he).2)

/-- The check of one channel of a kind other than OFF passes where those of the channel alone and of each pair do (R41). -/
theorem checkChannel_eq_none_iff {s : State} {c : ChanId} (h : (s.cfg c).kindCode ≠ 0) :
    s.checkChannel c = none ↔
      (s.cfg c).checkAlone s.station.ownAddress = none
        ∧ ∀ d, d < c → (s.cfg d).kindCode ≠ 0 →
          (s.cfg c).overlaps (s.cfg d) = false ∧ (s.cfg c).sameBinding (s.cfg d) = false := by
  cases halone : (s.cfg c).checkAlone s.station.ownAddress with
  | some code => simp [checkChannel_alone h halone]
  | none =>
    simp only [checkChannel_pairs h halone, List.findSome?_eq_none_iff, mem_lowerChannels, and_imp,
      ChanConfig.checkPair_eq_none_iff, true_and]

end State

/-- Settles O8: channel by channel; that two rings share a slot is said of rings that each have passed alone. -/
theorem channelCheckPassesExactlyOnGoodRecords : Obligations.ChannelCheckPassesExactlyOnGoodRecords := by
  intro s
  constructor
  · intro h c hc
    have hpass := fun d (hd : (s.cfg d).kindCode ≠ 0) => (State.checkChannel_eq_none_iff hd).1 (h d)
    obtain ⟨halone, hpairs⟩ := hpass c hc
    obtain ⟨hkind, hpayload, hlength, hring, hpeer⟩ := (ChanConfig.checkAlone_passes_iff _ _).1 halone
    refine ⟨hkind, hpayload, hlength, hring, hpeer, fun d hd hk => ?_⟩
    obtain ⟨-, -, hlength', -, -⟩ := (ChanConfig.checkAlone_passes_iff _ _).1 (hpass d hk).1
    obtain ⟨hover, hbound⟩ := hpairs d hd hk
    exact ⟨(ChanConfig.overlaps_eq_false_iff hlength hlength' hring).1 hover, (ChanConfig.sameBinding_eq_false_iff _ _).1 hbound⟩
  · intro h c
    by_cases hc : (s.cfg c).kindCode = 0
    · exact State.checkChannel_off hc
    · obtain ⟨hkind, hpayload, hlength, hring, hpeer, hpairs⟩ := h c hc
      refine (State.checkChannel_eq_none_iff hc).2
        ⟨(ChanConfig.checkAlone_passes_iff _ _).2 ⟨hkind, hpayload, hlength, hring, hpeer⟩, fun d hd hk => ?_⟩
      obtain ⟨-, -, hlength', -⟩ := h d hk
      obtain ⟨hslots, hbound⟩ := hpairs d hd hk
      exact ⟨(ChanConfig.overlaps_eq_false_iff hlength hlength' hring).2 hslots,
        (ChanConfig.sameBinding_eq_false_iff _ _).2 hbound⟩

/-- Settles O9: the checks of the channel alone in their order, then the pair check with the lowest channel that fails. -/
theorem channelCheckReportsTheFirstCode : Obligations.ChannelCheckReportsTheFirstCode := by
  intro s c hc g peered bad past selfPeer
  refine ⟨fun hb => ?_, fun hb hp => ?_, fun hb hp hs => ?_, fun hb hp hs d hd hk hlow => ?_⟩
  · exact State.checkChannel_alone hc (ChanConfig.checkAlone_bad _ hb)
  · exact State.checkChannel_alone hc (ChanConfig.checkAlone_past _ hb hp)
  · exact State.checkChannel_alone hc (ChanConfig.checkAlone_selfPeer hb hp hs)
  · have halone := ChanConfig.checkAlone_good (g := g) hb hp hs
    refine ⟨fun hover => ?_, fun hover hbound => ?_⟩
    · exact State.checkChannel_pair hc halone hd hk hlow (ChanConfig.checkPair_overlap hover)
    · exact State.checkChannel_pair hc halone hd hk hlow (ChanConfig.checkPair_binding hover hbound)

end Sys2Proof.Machine

/-! PROOFS. Configuration bytes written in SETUP (R40, R145, R178): what is stored of each, and what each reads back as. -/

namespace Sys2Proof.Machine

/-! ### The fields of a byte (R184) -/

/-- A field of the low `w` bits of a byte reads back with the bits above it as 0. -/
theorem zeroExtend_extractLsb' (v : Byte) (w : Nat) :
    (v.extractLsb' 0 w).zeroExtend 8 = v &&& BitVec.ofNat 8 (2 ^ w - 1) := by
  refine BitVec.eq_of_getLsbD_eq fun i hi => ?_
  rw [BitVec.getLsbD_and, BitVec.getLsbD_ofNat, Nat.testBit_two_pow_sub_one]
  simp [BitVec.getLsbD_extractLsb', hi, Bool.and_comm]

/-- The four bits of the byte of sleep and wake settings read back in their places. -/
theorem nibble_bits (v : Byte) :
    0#4 ++ bit (v.getLsbD 3) ++ bit (v.getLsbD 2) ++ bit (v.getLsbD 1) ++ bit (v.getLsbD 0) = v &&& 0x0F := by
  revert v
  decide +kernel

/-! ### The station configuration (R145) -/

namespace StationConfig

/-- The station configuration with a byte written to one of its registers from 1 to 10. -/
def stored (g : StationConfig) (addr : Nat) (v : Byte) : StationConfig :=
  if addr = 8 then { g with restartLimit := v.extractLsb' 0 4 } else g.writeByte addr v

theorem readByte_stored_same (g : StationConfig) {addr : Nat} (v : Byte) (h1 : 1 ≤ addr) (h2 : addr ≤ 10) :
    (g.stored addr v).readByte addr = v &&& fieldMask addr := by
  interval_cases addr
  · exact zeroExtend_extractLsb' v 2
  · exact BitVec.and_allOnes.symm
  · exact nibble_bits v
  · exact zeroExtend_extractLsb' v 4
  · exact BitVec.and_allOnes.symm
  · exact BitVec.and_allOnes.symm
  · exact BitVec.and_allOnes.symm
  · exact zeroExtend_extractLsb' v 4
  · exact BitVec.and_allOnes.symm
  · exact BitVec.and_allOnes.symm

theorem readByte_stored_ne (g : StationConfig) {addr b : Nat} (v : Byte) (h1 : 1 ≤ addr) (h2 : addr ≤ 10) (hb : b ≠ addr) :
    (g.stored addr v).readByte b = g.readByte b := by
  interval_cases addr <;> unfold readByte <;> split <;> trivial

end StationConfig

/-! ### The channel records (R40) -/

/-- The bits of byte `i` of a channel record that lie in a field (R184). -/
def recordMask (i : Nat) : Byte :=
  match i with
  | 0 => 0x07
  | 1 => 0x1F
  | 2 => 0x0F
  | 3 => 0x03
  | 4 => 0x03
  | 5 => 0xFF
  | 6 => 0x3F
  | _ => 0x7F

theorem fieldMask_record {a : Nat} (h : 0x200 ≤ a) : fieldMask a = recordMask (a % 8) := by
  unfold fieldMask
  split
  case h_5 => exact if_neg (by omega)
  all_goals omega

namespace ChanConfig

theorem readByte_writeByte_same (g : ChanConfig) {i : Nat} (v : Byte) (h : i < 8) :
    (g.writeByte i v).readByte i = v &&& recordMask i := by
  interval_cases i
  · exact zeroExtend_extractLsb' v 3
  · exact zeroExtend_extractLsb' v 5
  · exact zeroExtend_extractLsb' v 4
  · exact zeroExtend_extractLsb' v 2
  · exact zeroExtend_extractLsb' v 2
  · exact BitVec.and_allOnes.symm
  · exact zeroExtend_extractLsb' v 6
  · exact zeroExtend_extractLsb' v 7

theorem readByte_writeByte_ne (g : ChanConfig) {i k : Nat} (v : Byte) (h : i < 8) (hk : k ≠ i) :
    (g.writeByte i v).readByte k = g.readByte k := by
  interval_cases i <;> unfold readByte <;> split <;> trivial

end ChanConfig

/-! ### The write and the window (R178) -/

/-- The channel whose record holds a register address (R184). -/
def recordOf (addr : Word) : ChanId := Fin.ofNat 16 ((addr.toNat - 0x200) / 8)

/-- Two addresses of the channel records are one where channel and byte agree. -/
theorem recordOf_inj {a b : Word} (ha : 0x200 ≤ a.toNat ∧ a.toNat < 0x280) (hb : 0x200 ≤ b.toNat ∧ b.toNat < 0x280)
    (hc : recordOf b = recordOf a) (hi : b.toNat % 8 = a.toNat % 8) : b = a := by
  have hval := congrArg Fin.val hc
  simp only [recordOf, Fin.val_ofNat] at hval
  exact BitVec.eq_of_toNat_eq (by omega)

namespace State

theorem writeRegister_station {s : State} {addr : Word} {v : Byte} (hm : s.mc.mode = .setup) (h1 : 1 ≤ addr.toNat)
    (h2 : addr.toNat ≤ 0x00A) (hlimit : ¬ (addr.toNat = 8 ∧ (v.extractLsb' 0 4 = 0 ∨ v.extractLsb' 0 4 = 15))) :
    s.writeRegister addr v = { s with station := s.station.stored addr.toNat v } := by
  rw [writeRegister, if_pos h2, writeStationByte, if_neg (not_not_intro hm), if_neg (by omega), StationConfig.stored]
  split
  case isTrue h8 => exact if_neg fun h => hlimit ⟨h8, h⟩
  case isFalse => rfl

theorem writeRegister_channel {s : State} {addr : Word} {v : Byte} (hm : s.mc.mode = .setup) (h1 : 0x200 ≤ addr.toNat)
    (h2 : addr.toNat ≤ 0x27F) :
    s.writeRegister addr v =
      { s with
        configs := s.configs.set (recordOf addr) ((s.cfg (recordOf addr)).writeByte (addr.toNat % 8) v) } := by
  simp only [writeRegister]
  rw [if_neg (by omega), if_neg (by omega), if_neg (by omega), if_neg (by omega), if_neg (by omega), if_neg (by omega),
    if_pos ⟨h1, h2⟩]
  exact if_neg (not_not_intro hm)

theorem readRegister_station (s : State) {b : Word} (h : b.toNat ≤ 0x00A) :
    s.readRegister b = s.station.readByte b.toNat := by
  simp only [readRegister]
  rw [if_pos (by omega), readLow, if_pos h]

theorem readRegister_record (s : State) {b : Word} (h1 : 0x200 ≤ b.toNat) (h2 : b.toNat < 0x280) :
    s.readRegister b = (s.cfg (recordOf b)).readByte (b.toNat % 8) := by
  simp only [readRegister]
  rw [if_neg (by omega), if_neg (by omega), if_pos ⟨h1, h2⟩]
  rfl

/-- The window after a change of the station configuration: its own registers show it (R184). -/
theorem readRegister_withStation (s : State) (g : StationConfig) (b : Word) :
    ({ s with station := g, port := s.port.accessed } : State).readRegister b =
      if b.toNat ≤ 0x00A then g.readByte b.toNat else s.readRegister b := by
  unfold readRegister
  dsimp only
  by_cases h : b.toNat ≤ 0x00A
  · rw [if_pos (by omega), if_pos h, readLow, if_pos h]
  · rw [if_neg h, readLow, if_neg h, readLow, if_neg h]
    rfl

/-- The window after a change of the channel records: their own registers show it (R184). -/
theorem readRegister_withConfigs (s : State) (k : Table 16 ChanConfig) (b : Word) :
    ({ s with configs := k, port := s.port.accessed } : State).readRegister b =
      if 0x200 ≤ b.toNat ∧ b.toNat < 0x280 then (k.get (recordOf b)).readByte (b.toNat % 8) else s.readRegister b := by
  unfold readRegister
  dsimp only
  by_cases h : 0x200 ≤ b.toNat ∧ b.toNat < 0x280
  · rw [if_neg (by omega), if_neg (by omega), if_pos h, if_pos h]
    rfl
  · rw [if_neg h, if_neg h, if_neg h]
    rfl

/-- A register write of the host, taken (R178). -/
theorem exec_registerWrite {s : State} (h : s.hostOpen = true) (addr : Word) (v : Byte) :
    exec (.registerWrite addr v) s = .next (s.accessed.writeRegister addr v) :=
  congrArg Host.Outcome.next (access_open h _)

end State

namespace State

/-- A byte of the station configuration written in SETUP, read at each address. -/
theorem readRegister_stored (s : State) {addr : Word} (v : Byte) (h1 : 1 ≤ addr.toNat) (h2 : addr.toNat ≤ 0x00A) (b : Word) :
    ({ s with station := s.station.stored addr.toNat v, port := s.port.accessed } : State).readRegister b =
      if b = addr then v &&& fieldMask addr.toNat else s.readRegister b := by
  rw [readRegister_withStation]
  by_cases hb : b = addr
  · rw [if_pos hb, hb, if_pos h2, s.station.readByte_stored_same v h1 h2]
  · rw [if_neg hb]
    split
    case isFalse => rfl
    case isTrue hs =>
      rw [s.readRegister_station hs, s.station.readByte_stored_ne v h1 h2 (mt BitVec.eq_of_toNat_eq hb)]

/-- A byte of a channel record written in SETUP, read at each address. -/
theorem readRegister_written (s : State) {addr : Word} (v : Byte) (h1 : 0x200 ≤ addr.toNat) (h2 : addr.toNat < 0x280) (b : Word) :
    ({ s with
        configs := s.configs.set (recordOf addr) ((s.cfg (recordOf addr)).writeByte (addr.toNat % 8) v)
        port := s.port.accessed } : State).readRegister b =
      if b = addr then v &&& fieldMask addr.toNat else s.readRegister b := by
  have hbyte : addr.toNat % 8 < 8 := Nat.mod_lt _ (by decide)
  rw [readRegister_withConfigs]
  by_cases hb : b = addr
  · rw [if_pos hb, hb, if_pos ⟨h1, h2⟩, Table.get_set_same, ChanConfig.readByte_writeByte_same _ v hbyte, fieldMask_record h1]
  · rw [if_neg hb]
    split
    case isFalse => rfl
    case isTrue hr =>
      rw [s.readRegister_record hr.1 hr.2, Table.get_set]
      split
      case isFalse => rfl
      case isTrue hc =>
        rw [hc, ChanConfig.readByte_writeByte_ne _ v hbyte fun hi => hb (recordOf_inj ⟨h1, h2⟩ hr hc hi)]

end State

/-- Settles O21: the byte is stored in its own block of the window, where every other address reads another byte. -/
theorem configurationWrittenInSetupReadsBack : Obligations.ConfigurationWrittenInSetupReadsBack := by
  intro s addr v hopen hm haddr hlimit
  have hexec := State.exec_registerWrite hopen addr v
  obtain ⟨h1, h2⟩ | ⟨h1, h2⟩ := haddr
  · have hread := s.readRegister_stored v h1 h2
    rw [State.writeRegister_station (s := s.accessed) hm h1 h2 hlimit] at hexec
    exact ⟨_, hexec, (hread addr).trans (if_pos rfl), fun b hb => (hread b).trans (if_neg hb), rfl⟩
  · have hread := s.readRegister_written v h1 (Nat.lt_succ_of_le h2)
    rw [State.writeRegister_channel (s := s.accessed) hm h1 h2] at hexec
    exact ⟨_, hexec, (hread addr).trans (if_pos rfl), fun b hb => (hread b).trans (if_neg hb), rfl⟩

end Sys2Proof.Machine

/-! PROOFS. Channel commands (R48, R49, R55): the tests in their order, and START and KICK taken. -/

namespace Sys2Proof.Machine

/-! ### The tests of a channel command (R48) -/

theorem channelOf_eq {arg : Byte} {c : ChanId} (h : arg.toNat = c.val) : channelOf arg = some c := by
  have hlt : arg.toNat < 16 := h ▸ c.isLt
  rw [channelOf, dif_pos hlt]
  exact congrArg some (Fin.ext h)

theorem channelOf_eq_none {arg : Byte} (h : 16 ≤ arg.toNat) : channelOf arg = none := dif_neg (by omega)

namespace Kind

theorem commandable_of_ne {k : Kind} (h : k ≠ .off) : k.commandable = true := by cases k <;> trivial

theorem kickable_iff (k : Kind) : k.kickable = true ↔ k = .send ∨ k = .publish := by cases k <;> decide

end Kind

theorem ChanState.started_eq_false_iff (x : ChanState) : x.started = false ↔ x = .stopped ∨ x = .halted := by
  cases x <;> decide

theorem ChanState.started_iff (x : ChanState) : x.started = true ↔ x ≠ .stopped ∧ x ≠ .halted := by cases x <;> decide

namespace State

/-- The part as a control command finds it, its transaction over and nothing refused yet (R177). -/
def commanding (s : State) : State :=
  { s with port := { s.port with controlTaken := true, nowRefused := false, transfer := .none } }

theorem control_refuses {s : State} (h : s.hostOpen = true) {f : State → State} {code : RefusalCode} {c : Option ChanId}
    (hf : f s.commanding = s.commanding.refuse code c) : s.control f = s.refusedBy code c := by
  have hrise : s.control f = (f s.commanding).modPort fun p => { p with lastRefused := p.nowRefused } := control_open h f
  rw [hrise, hf]
  rfl

/-- A command that leaves the host port alone has been taken (R177). -/
theorem control_takes {s : State} (h : s.hostOpen = true) {f : State → State}
    (hf : (f s.commanding).port = s.commanding.port) : s.control f = { f s.commanding with port := s.port.taken } := by
  have hrise : s.control f = (f s.commanding).modPort fun p => { p with lastRefused := p.nowRefused } := control_open h f
  rw [hrise, modPort, hf]
  rfl

/-- A channel command in its control transaction (R48, R180). -/
def channelControl (s : State) (arg : Byte) (kindOk : Kind → Bool) (stateOk : ChanState → Bool)
    (effect : State → ChanId → State) : State :=
  s.control fun t => t.channelCommand arg kindOk stateOk effect

section

variable {s : State} {arg : Byte} {c : ChanId} {kindOk : Kind → Bool} {stateOk : ChanState → Bool}
  {effect : State → ChanId → State}

theorem channelControl_setup (h : s.hostOpen = true) (hm : s.mc.mode = .setup) :
    s.channelControl arg kindOk stateOk effect = s.refusedBy .wrongMode (channelOf arg) :=
  control_refuses h (if_pos hm)

theorem channelControl_beyond (h : s.hostOpen = true) (hm : s.mc.mode ≠ .setup) (harg : 16 ≤ arg.toNat) :
    s.channelControl arg kindOk stateOk effect = s.refusedBy .badValue none :=
  control_refuses h ((if_neg hm).trans (by rw [channelOf_eq_none harg]))

/-- Outside SETUP a command of a channel has two tests left. -/
theorem channelCommand_of (hm : s.mc.mode ≠ .setup) (harg : arg.toNat = c.val) :
    s.channelCommand arg kindOk stateOk effect =
      if !kindOk (s.cfg c).kind then s.refuse .wrongKind (some c)
      else if !stateOk (s.ctx c).state then s.refuse .wrongState (some c)
      else effect s c := by
  rw [channelCommand, if_neg hm, channelOf_eq harg]

theorem channelControl_kind (h : s.hostOpen = true) (hm : s.mc.mode ≠ .setup) (harg : arg.toNat = c.val)
    (hk : kindOk (s.cfg c).kind = false) :
    s.channelControl arg kindOk stateOk effect = s.refusedBy .wrongKind (some c) := by
  refine control_refuses h ((channelCommand_of (s := s.commanding) hm harg).trans ?_)
  rw [show s.commanding.cfg c = s.cfg c from rfl, hk]
  rfl

theorem channelControl_state (h : s.hostOpen = true) (hm : s.mc.mode ≠ .setup) (harg : arg.toNat = c.val)
    (hk : kindOk (s.cfg c).kind = true) (hs : stateOk (s.ctx c).state = false) :
    s.channelControl arg kindOk stateOk effect = s.refusedBy .wrongState (some c) := by
  refine control_refuses h ((channelCommand_of (s := s.commanding) hm harg).trans ?_)
  rw [show s.commanding.cfg c = s.cfg c from rfl, show s.commanding.ctx c = s.ctx c from rfl, hk, hs]
  rfl

/-- A channel command that passes its tests is taken with its effect, which leaves the host port alone. -/
theorem channelControl_takes (h : s.hostOpen = true) (hm : s.mc.mode ≠ .setup) (harg : arg.toNat = c.val)
    (hk : kindOk (s.cfg c).kind = true) (hs : stateOk (s.ctx c).state = true)
    (hport : (effect s.commanding c).port = s.commanding.port) :
    s.channelControl arg kindOk stateOk effect = { effect s.commanding c with port := s.port.taken } := by
  have hcommand : s.commanding.channelCommand arg kindOk stateOk effect = effect s.commanding c := by
    refine (channelCommand_of (s := s.commanding) hm harg).trans ?_
    rw [show s.commanding.cfg c = s.cfg c from rfl, show s.commanding.ctx c = s.ctx c from rfl, hk, hs]
    rfl
  have htaken := control_takes h (f := fun t => t.channelCommand arg kindOk stateOk effect) (by rw [hcommand]; exact hport)
  rw [hcommand] at htaken
  exact htaken

end

end State

theorem exec_start (arg : Byte) (s : State) :
    exec (.start arg) s = .next (s.channelControl arg Kind.commandable ChanState.startable State.startChannel) := rfl

theorem exec_halt (arg : Byte) (s : State) :
    exec (.halt arg) s = .next (s.channelControl arg Kind.commandable ChanState.started State.haltChannel) := rfl

theorem exec_clear (arg : Byte) (s : State) :
    exec (.clear arg) s = .next (s.channelControl arg Kind.commandable ChanState.clearable State.clearChannel) := rfl

theorem exec_kick (arg : Byte) (s : State) :
    exec (.kick arg) s = .next (s.channelControl arg Kind.kickable ChanState.started State.kickChannel) := rfl

/-- Each of the four commands is a channel command, which no OFF channel takes. -/
theorem exec_channelControl {i : Instr} {arg : Byte} (hi : i ∈ [Instr.start arg, .halt arg, .clear arg, .kick arg]) (s : State) :
    ∃ kindOk stateOk effect, kindOk .off = false ∧ exec i s = .next (s.channelControl arg kindOk stateOk effect) := by
  simp only [List.mem_cons, List.not_mem_nil, or_false] at hi
  obtain rfl | rfl | rfl | rfl := hi
  · exact ⟨_, _, _, rfl, exec_start arg s⟩
  · exact ⟨_, _, _, rfl, exec_halt arg s⟩
  · exact ⟨_, _, _, rfl, exec_clear arg s⟩
  · exact ⟨_, _, _, rfl, exec_kick arg s⟩

/-- Settles O15: each refusal is the first of the tests that fails. -/
theorem channelCommandsRefusedInOrder : Obligations.ChannelCommandsRefusedInOrder := by
  intro s arg h
  refine ⟨fun i hi => ?every, fun c harg hm hoff => ?byState⟩
  case every =>
    obtain ⟨kindOk, stateOk, effect, hoff, hexec⟩ := exec_channelControl hi s
    rw [hexec]
    refine ⟨fun hm hbig => ?_, fun hm hbig => ?_, fun c harg => ⟨fun hm => ?_, fun hm hk => ?_⟩⟩
    · rw [State.channelControl_setup h hm, channelOf_eq_none hbig]
    · rw [State.channelControl_beyond h hm hbig]
    · rw [State.channelControl_setup h hm, channelOf_eq harg]
    · rw [State.channelControl_kind h hm harg (by rw [hk]; exact hoff)]
  case byState =>
    have hcommandable := Kind.commandable_of_ne hoff
    refine ⟨fun h1 h2 => ?start, fun hs => ?halt, fun hs => ?clear, fun hk => ?kickKind, fun hk hs => ?kickState⟩
    case start =>
      have hstarted := (ChanState.started_iff _).2 ⟨h1, h2⟩
      rw [exec_start, State.channelControl_state h hm harg hcommandable (by rw [ChanState.startable, hstarted]; rfl)]
    case halt =>
      rw [exec_halt, State.channelControl_state h hm harg hcommandable ((ChanState.started_eq_false_iff _).2 hs)]
    case clear =>
      rw [exec_clear, State.channelControl_state h hm harg hcommandable (by simp [ChanState.clearable, hs])]
    case kickKind =>
      rw [exec_kick, State.channelControl_kind h hm harg]
      obtain hk | hk := hk <;> rw [hk] <;> rfl
    case kickState =>
      rw [exec_kick, State.channelControl_state h hm harg ((Kind.kickable_iff _).2 hk) ((ChanState.started_eq_false_iff _).2 hs)]

/-! ### START and KICK taken (R49, R55, R79, R80, R120) -/

/-- The entries toward which the gate lets an offer through (R80). -/
theorem gateOf_offer (e : Entry) (settling : Bool) :
    (gateOf e settling == .offer) = (e.state == .present || (e.state == .waking && !settling)) := by
  unfold gateOf
  cases e.state with
  | present => rfl
  | asleep => rfl
  | self => rfl
  | waking => cases settling <;> rfl
  | absent => cases e.wakeTried <;> rfl

/-- The entries toward which the gate asks for a wake pulse (R80). -/
theorem gateOf_wake (e : Entry) (settling : Bool) :
    (gateOf e settling == .wake) = (e.state == .asleep || (e.state == .absent && !e.wakeTried)) := by
  unfold gateOf
  cases e.state with
  | present => rfl
  | asleep => rfl
  | self => rfl
  | waking => cases settling <;> rfl
  | absent => cases e.wakeTried <;> rfl

/-- What a walk of the ring and the look after it leave, said from the state before the command, whose host port alone differs. -/
theorem Ringed.look_commanding {s u : State} {c : ChanId} (h : Ringed s.commanding u c) :
    ({ u.look c with port := s.port.taken } : State) = (({ s with port := s.port.taken } : State).withRing u c).look c := by
  rw [h.look]
  rfl

namespace State

/-- A channel that is neither OPENING nor RUNNING holds no offer and asks for no pulse (R79, R80, R120). -/
theorem look_idle {s : State} {c : ChanId} (h1 : (s.ctx c).state ≠ .opening) (h2 : (s.ctx c).state ≠ .running) :
    s.look c = s.modArb fun a => { a with offers := a.offers.set c false } := by
  have hsend : s.sendReady c = false := by simp [sendReady, h1, h2]
  have hpublish : s.publishReady c = false := by simp [publishReady, h2]
  have hoffer : s.mayOffer c = false := by
    unfold mayOffer
    split
    · simp [hsend]
    · exact hpublish
    · rfl
    · rfl
    · rfl
  simp [look, hoffer, wantsWake, hsend]

/-- The look of a SEND channel that has been opened: the presence gate of its peer (R79, R80). -/
theorem look_send {s : State} {c : ChanId} {a : Station} (hk : (s.cfg c).kind = .send)
    (ha : (s.cfg c).peerStation.toNat = a.val) (hs : (s.ctx c).state = .opening) :
    let ready := !s.ownsLatch c && (s.ctx c).backoff.isNone && (s.ctx c).pacing.isNone
    let e := s.entry a
    s.mayOffer c = (ready && (e.state == .present || (e.state == .waking && s.presence.settle.isNone)))
      ∧ s.wantsWake c = (ready && (e.state == .asleep || (e.state == .absent && !e.wakeTried))) := by
  have hstation : stationOf (s.cfg c).peerStation = some a := by
    have hlt : (s.cfg c).peerStation.toNat < 31 := ha ▸ a.isLt
    rw [stationOf, dif_pos hlt]
    exact congrArg some (Fin.ext ha)
  have hgate : s.gate c = gateOf (s.entry a) s.presence.settle.isSome := by simp [gate, entryOf, hstation]
  have hready : s.sendReady c = (!s.ownsLatch c && (s.ctx c).backoff.isNone && (s.ctx c).pacing.isNone) := by
    simp [sendReady, hs]
  refine ⟨?_, ?_⟩
  · simp [mayOffer, hk, hready, hgate, gateOf_offer]
  · simp [wantsWake, hk, hready, hgate, gateOf_wake]

/-- The look of a PUBLISH channel in RUNNING (R120). -/
theorem look_publish {s : State} {c : ChanId} (hk : (s.cfg c).kind = .publish) (hs : (s.ctx c).state = .running) :
    s.look c = s.modArb fun a => { a with offers := a.offers.set c (!s.ownsLatch c && (s.ctx c).pacing.isNone) } := by
  have hoffer : s.mayOffer c = (!s.ownsLatch c && (s.ctx c).pacing.isNone) := by simp [mayOffer, hk, publishReady, hs]
  have hwake : s.wantsWake c = false := by simp [wantsWake, hk]
  simp [look, hoffer, hwake]

/-- A channel in RUNNING with its halt cause cleared, as START leaves it (R49). -/
def running (s : State) (c : ChanId) : State := s.modCtx c fun x => { x with state := .running, haltCause := .none }

theorem running_ctx (s : State) (c : ChanId) :
    (s.running c).ctx c = { s.ctx c with state := .running, haltCause := .none } := modCtx_ctx_same _ _ _

theorem startChannel_send {s : State} {c : ChanId} (hk : (s.cfg c).kind = .send) :
    s.startChannel c = (s.modCtx c fun x => { x.rewind with haltCause := .none }).look c := by
  rw [startChannel, hk]

theorem startChannel_taking {s : State} {c : ChanId} (hk : (s.cfg c).kind = .take ∨ (s.cfg c).kind = .subscribe) :
    s.startChannel c = s.running c := by
  rw [startChannel]
  obtain hk | hk := hk <;> rw [hk] <;> rfl

theorem startChannel_publish {s : State} {c : ChanId} (hk : (s.cfg c).kind = .publish) :
    s.startChannel c = ((s.running c).fetch c).look c := by
  rw [startChannel, hk]
  rfl

@[simp] theorem startChannel_port (s : State) (c : ChanId) : (s.startChannel c).port = s.port := by
  unfold startChannel
  split <;> simp

theorem fetchMet_running {s : State} {c : ChanId} (hs : (s.ctx c).state = .running) : s.fetchMet c = s := by
  have hkeep : (if (s.ctx c).state = .drained then ChanState.running else (s.ctx c).state) = (s.ctx c).state :=
    if_neg (by simp [hs])
  rw [fetchMet, modCtx, hkeep]
  exact congrArg (fun t => ({ s with contexts := t } : State)) (Table.set_get _ _)

/-- A RUNNING channel that has its message fetches nothing (R62, R63). -/
theorem fetch_whole {s : State} {c : ChanId} (hs : (s.ctx c).state = .running)
    (hend : holdsEnd (s.ctx c).fetched = true) : s.fetch c = s := by
  cases hh : (s.ctx c).haltReq with
  | true => exact if_pos hh
  | false => rw [fetch_met s c hh (by simp [needMet, hend]), fetchMet_running hs]

@[simp] theorem kickChannel_port (s : State) (c : ChanId) : (s.kickChannel c).port = s.port := by
  unfold kickChannel
  split <;> simp

end State

/-- Settles O16: START by kind; a fetch gives what `fetch_gives` says, and the look follows it. -/
theorem startTakenByKind : Obligations.StartTakenByKind := by
  intro s arg c h harg hm hstate
  have htaken (hk : (s.cfg c).kind ≠ .off) :
      exec (.start arg) s = .next { s.commanding.startChannel c with port := s.port.taken } := by
    have hstartable : ((s.ctx c).state).startable = true := by
      rw [ChanState.startable, (ChanState.started_eq_false_iff _).2 hstate]
      rfl
    rw [exec_start, State.channelControl_takes h hm harg (Kind.commandable_of_ne hk) hstartable (State.startChannel_port _ _)]
  refine ⟨fun a hk ha => ?send, fun hk => ?taking, fun hk hend => ?whole, fun hk => ?fetch⟩
  case send =>
    intro x ready e open? wake?
    let v := s.commanding.modCtx c fun x => { x.rewind with haltCause := .none }
    have hv : v.ctx c = { x.rewind with haltCause := .none } := State.modCtx_ctx_same _ _ _
    obtain ⟨hoffer, hwake⟩ := State.look_send (s := v) hk ha (by rw [hv]; rfl)
    rw [hv] at hoffer hwake
    rw [htaken (by rw [hk]; nofun), State.startChannel_send (s := s.commanding) hk, State.look, hoffer, hwake]
    rfl
  case taking =>
    rw [htaken (by obtain hk | hk := hk <;> rw [hk] <;> nofun), State.startChannel_taking (s := s.commanding) hk]
    rfl
  case whole =>
    let v := s.commanding.running c
    have hv : v.ctx c = { s.ctx c with state := .running, haltCause := .none } := State.running_ctx _ _
    rw [htaken (by rw [hk]; nofun), State.startChannel_publish (s := s.commanding) hk,
      State.fetch_whole (s := v) (by rw [hv]) (by rw [hv]; exact hend), State.look_publish (s := v) hk (by rw [hv]), hv]
    rfl
  case fetch =>
    let v := s.commanding.running c
    have hgives := State.fetch_gives v c
    rw [State.running_ctx] at hgives
    refine ⟨v.fetch c, hgives.congr ⟨rfl, rfl, rfl⟩ ⟨rfl, rfl, rfl⟩ rfl, ?_⟩
    rw [htaken (by rw [hk]; nofun), State.startChannel_publish (s := s.commanding) hk]
    exact congrArg Host.Outcome.next (Ringed.look_commanding ((Ringed.modCtx _ c _).trans (Ringed.fetch v c)))

/-- Settles O20: in DRAINED the fetch and the look, elsewhere nothing. -/
theorem kickRetriesTheFetchInDrained : Obligations.KickRetriesTheFetchInDrained := by
  intro s arg c h harg hm hk x resting
  have htaken (hs : x.state.started = true) :
      exec (.kick arg) s = .next { s.commanding.kickChannel c with port := s.port.taken } := by
    rw [exec_kick, State.channelControl_takes h hm harg ((Kind.kickable_iff _).2 hk) hs (State.kickChannel_port _ _)]
  have hdrained (hs : x.state = .drained) :
      exec (.kick arg) s = .next { (s.commanding.fetch c).look c with port := s.port.taken } := by
    rw [htaken (by rw [hs]; rfl), State.kickChannel, if_pos (show (s.commanding.ctx c).state = .drained from hs)]
  have hresting (hs : x.state = .drained) (hf : s.commanding.fetch c = s.commanding) :
      exec (.kick arg) s = .next resting := by
    rw [hdrained hs, hf, State.look_idle (s := s.commanding) (c := c)]
    · rfl
    · exact fun ho => by cases hs.symm.trans ho
    · exact fun hr => by cases hs.symm.trans hr
  refine ⟨fun hs => ?other, fun hs => ?fetch, fun hs hh => ?halting, fun hs hneed hround hinvalid => ?dry⟩
  case other =>
    have hkick : s.commanding.kickChannel c = s.commanding := if_neg fun hd => by
      have hd : x.state = .drained := hd
      rw [hd] at hs
      simp at hs
    rw [htaken (by obtain hs | hs | hs := hs <;> rw [hs] <;> rfl), hkick]
    rfl
  case fetch =>
    refine ⟨s.commanding.fetch c, (State.fetch_gives s.commanding c).congr ⟨rfl, rfl, rfl⟩ ⟨rfl, rfl, rfl⟩ rfl, ?_⟩
    rw [hdrained hs]
    exact congrArg Host.Outcome.next (Ringed.look_commanding (Ringed.fetch s.commanding c))
  case halting => exact hresting hs (if_pos hh)
  case dry =>
    cases hh : x.haltReq with
    | true => exact hresting hs (if_pos hh)
    | false =>
      refine hresting hs ((State.fetch_dry s.commanding c hh hneed hround hinvalid).trans (if_neg fun hr => ?_))
      cases hs.symm.trans hr

end Sys2Proof.Machine

/-! PROOFS. CLEAR taken (R53, R54, R113, R114): the walk that writes a sending ring back, and the cut of an open message. -/

namespace Sys2Proof.Machine

/-! ### The walk of a ring (R53, R58) -/

/-- The slots of a walk, counted from its first slot as from the slot after it. -/
theorem ringStep_eq_after (g : ChanConfig) (i : SlotId) (n : Nat) : ringStep g i n = g.after i n := by
  have hnext : ∀ i n, g.after (g.next i) n = g.next (g.after i n) := fun i n => by
    induction n with
    | zero => rfl
    | succ n ih => rw [ChanConfig.after, ih, ChanConfig.after]
  induction n generalizing i with
  | zero => rfl
  | succ n ih => rw [ringStep, ih, hnext, ChanConfig.after]

/-- A walk of at most a ring's slots, and of at most the table's, meets no slot twice. -/
theorem ringStep_inj (g : ChanConfig) (i : SlotId) {n : Nat} (h : n ≤ g.ringLength.toNat) (h' : n ≤ 64) {j k : Nat} (hj : j < n)
    (hk : k < n) (e : ringStep g i j = ringStep g i k) : j = k := by
  rw [ringStep_eq_after, ringStep_eq_after] at e
  by_contra hne
  obtain hlt | hlt := Nat.lt_or_gt_of_ne hne
  · exact g.after_inj i hlt (by omega) (by omega) e
  · exact g.after_inj i hlt (by omega) (by omega) e.symm

/-- The context of a sending channel that CLEAR has stopped, its message given up and both indexes at one slot (R53). -/
def Context.givenUp (x : Context) (i : SlotId) : Context := (x.dropMessage i).stop

namespace State

/-- The copies of the `n` slots of a walk from slot `i` on. -/
def ringCopies (s : State) (c : ChanId) (i : SlotId) (n : Nat) : List SlotCopy :=
  (List.range n).map fun k => (s.slot (ringStep (s.cfg c) i k)).copy (ringStep (s.cfg c) i k)

theorem mem_ringCopies {s : State} {c : ChanId} {i : SlotId} {n : Nat} {d : SlotCopy} (h : d ∈ s.ringCopies c i n) :
    ∃ k < n, d.slot = ringStep (s.cfg c) i k := by
  obtain ⟨k, hk, rfl⟩ := List.mem_map.1 h
  exact ⟨k, List.mem_range.1 hk, rfl⟩

theorem ringCopies_succ (s : State) (c : ChanId) (i : SlotId) (n : Nat) :
    s.ringCopies c i (n + 1) = (s.slot i).copy i :: s.ringCopies c ((s.cfg c).next i) n := by
  simp only [ringCopies, List.range_succ_eq_map, List.map_cons, List.map_map]
  rfl

/-- A write-back with no end mark of the part's own leaves what a fetch would copy of each slot. -/
theorem writeBack_copy (s : State) (c : ChanId) (i j : SlotId) (st : Status) (n : Nat) :
    ((s.writeBack c i st n none).slot j).copy j = (s.slot j).copy j := by
  rw [writeBack_slot]
  split
  case isTrue h => rw [h]; rfl
  case isFalse => rfl

theorem writeBack_ringCopies (s : State) (c : ChanId) (j : SlotId) (st : Status) (m : Nat) (i : SlotId) (n : Nat) :
    (s.writeBack c j st m none).ringCopies c i n = s.ringCopies c i n := by
  simp only [ringCopies, writeBack_cfg, writeBack_copy]

/-- The walk of CLEAR over `n` valid slots of its own, up to the end of its rounds or an invalid slot (R53). -/
theorem abortWalk_eq (c : ChanId) (m n : Nat) (s : State) (i : SlotId) (hn : n ≤ m)
    (hown : ∀ j < n, ∀ k < n, ringStep (s.cfg c) i j = ringStep (s.cfg c) i k → j = k)
    (hvalid : ∀ k < n, (s.slot (ringStep (s.cfg c) i k)).valid = true)
    (hend : n = m ∨ (s.slot (ringStep (s.cfg c) i n)).valid = false) :
    s.abortWalk c i m =
      (s.writeBackList c .aborted (fun _ => 0) (s.ringCopies c i n), ringStep (s.cfg c) i n) := by
  induction n generalizing s i m with
  | zero =>
    cases m with
    | zero => rfl
    | succ m =>
      have hstop : ¬ (s.slot i).valid = true := by
        obtain h | h := hend
        · cases h
        · exact Bool.eq_false_iff.1 h
      exact if_neg hstop
  | succ n ih =>
    obtain ⟨m, rfl⟩ : ∃ k, m = k + 1 := ⟨m - 1, by omega⟩
    have hother (k : Nat) (hk : k < n) : ringStep (s.cfg c) ((s.cfg c).next i) k ≠ i := fun e => by
      have := hown (k + 1) (by omega) 0 (by omega) e
      omega
    have hgo : s.abortWalk c i (m + 1) = (s.writeBack c i .aborted 0 none).abortWalk c ((s.cfg c).next i) m :=
      if_pos (hvalid 0 (by omega))
    rw [hgo, ih m (s.writeBack c i .aborted 0 none) ((s.cfg c).next i) (by omega), writeBack_ringCopies, ringCopies_succ, writeBack_cfg]
    · rfl
    · intro j hj k hk e
      rw [writeBack_cfg] at e
      have := hown (j + 1) (by omega) (k + 1) (by omega) e
      omega
    · intro k hk
      rw [writeBack_cfg, writeBack_slot, if_neg (hother k hk)]
      exact hvalid (k + 1) (by omega)
    · rw [writeBack_cfg, writeBack_slot]
      obtain h | h := hend
      · exact .inl (by omega)
      · right
        split
        · rfl
        · exact h

/-! ### CLEAR by kind (R53, R54) -/

theorem clearChannel_sending {s : State} {c : ChanId} (hk : (s.cfg c).kind = .send ∨ (s.cfg c).kind = .publish) :
    s.clearChannel c = s.clearSending c := by
  rw [clearChannel]
  obtain hk | hk := hk <;> rw [hk]

theorem clearChannel_take {s : State} {c : ChanId} (hk : (s.cfg c).kind = .take) : s.clearChannel c = s.clearTaking c := by
  rw [clearChannel, hk]

theorem clearChannel_subscribe {s : State} {c : ChanId} (hk : (s.cfg c).kind = .subscribe) :
    s.clearChannel c = s.modCtx c Context.stop := by
  rw [clearChannel, hk]

@[simp] theorem clearChannel_port (s : State) (c : ChanId) : (s.clearChannel c).port = s.port := by
  unfold clearChannel clearSending clearTaking
  split <;> simp

/-- The part after the `n` slots of a walk from slot `i` have been written back ABORTED (R53). -/
def abortedSlots (s : State) (c : ChanId) (i : SlotId) (n : Nat) : State :=
  s.writeBackList c .aborted (fun _ => 0) (s.ringCopies c i n)

theorem abortedSlots_slot (s : State) (c : ChanId) (i : SlotId) {n k : Nat} (hk : k < n) :
    (s.abortedSlots c i n).slot (ringStep (s.cfg c) i k) =
      { s.slot (ringStep (s.cfg c) i k) with valid := false, status := 7, count := 0, msgNo := (s.ctx c).msgNo } :=
  writeBackList_slot c _ _ _ s _ 0 ⟨_, List.mem_map.2 ⟨k, List.mem_range.2 hk, rfl⟩, rfl⟩ fun _ _ _ => rfl

theorem abortedSlots_slot_ne (s : State) (c : ChanId) (i : SlotId) {n : Nat} {j : SlotId}
    (h : ∀ k, k < n → j ≠ ringStep (s.cfg c) i k) : (s.abortedSlots c i n).slot j = s.slot j :=
  writeBackList_slot_ne c _ _ _ s j fun _ hd e => by
    obtain ⟨k, hk, hslot⟩ := mem_ringCopies hd
    exact h k hk (e.symm.trans hslot)

theorem abortedSlots_flags (s : State) (c : ChanId) (i : SlotId) (n : Nat) :
    (s.abortedSlots c i n).notice.channels.get c =
      { s.notice.channels.get c with
        done :=
          (s.notice.channels.get c).done || (List.range n).any fun k => (s.slot (ringStep (s.cfg c) i k)).notify } := by
  rw [abortedSlots, writeBackList_flags, ringCopies, List.any_map]
  rfl

/-- CLEAR of a sending channel whose ring lies within slots 0 to 63, by the slots that its walk writes back (R53). -/
theorem clearSending_eq {s : State} {c : ChanId} {n : Nat} (hring : (s.cfg c).ringLength.toNat ≤ 64)
    (hn : n ≤ (s.cfg c).ringLength.toNat)
    (hvalid : ∀ k, k < n → (s.slot (ringStep (s.cfg c) (s.ctx c).msgStart k)).valid = true)
    (hend : n = (s.cfg c).ringLength.toNat ∨ (s.slot (ringStep (s.cfg c) (s.ctx c).msgStart n)).valid = false) :
    s.clearSending c =
      (s.abortedSlots c (s.ctx c).msgStart n).modCtx c fun x =>
        x.givenUp (ringStep (s.cfg c) (s.ctx c).msgStart n) := by
  rw [clearSending, abortWalk_eq c _ n s _ hn (fun j hj k hk => ringStep_inj _ _ hn (by omega) hj hk) hvalid hend]
  rfl

/-- CLEAR of a TAKE channel with no open message (R54, R113). -/
theorem clearTaking_closed {s : State} {c : ChanId} (h : (s.ctx c).current = none) :
    s.clearTaking c =
      s.modCtx c fun x =>
        { x with
          state := .stopped, haltCause := .none, drainNoted := false
          acceptance := x.acceptance.map fun r => { r with withdrawn := true } } := by
  rw [clearTaking, cut_none _ c (by rw [modCtx_ctx_same]; exact h)]
  simp only [modCtx, ctx, Table.get_set_same, Table.set_set]
  rfl

/-- A cut of a channel that does not stand in RUNNING, where no slot holds it (R114, R115). -/
theorem cut_stopped {s : State} {c : ChanId} {d : SlotCopy} (h : (s.ctx c).current = some d)
    (hs : (s.ctx c).state ≠ .running) :
    s.cut c = (s.writeBack c d.slot .cut (s.ctx c).bytesUsed (some true)).modCtx c Context.endMessage := by
  have hhold : ∀ b : Bool, ∀ n, (s.writeBack c d.slot .cut n (some true)).holdAfter c b =
      s.writeBack c d.slot .cut n (some true) := fun b n => if_neg fun hb => hs (by
    simpa only [ctx, writeBack_contexts] using hb.2)
  rw [cut, h]
  simp only [closeCurrent, hhold]

/-- CLEAR of a HALTED TAKE channel with an open message: the slot is written back CUT, and the message has ended (R54, R114). -/
theorem clearTaking_open {s : State} {c : ChanId} {d : SlotCopy} (h : (s.ctx c).current = some d)
    (hs : (s.ctx c).state = .halted) :
    s.clearTaking c =
      (s.writeBack c d.slot .cut (s.ctx c).bytesUsed (some true)).modCtx c fun x =>
        { x with
          state := .stopped, haltCause := .none, drainNoted := false, msgNo := x.msgNo + 1
          current := none, openMsg := false, openBytes := 0, bytesUsed := 0, acc := { sum := 0, pending := none }
          acceptance := x.acceptance.map fun r => { r with withdrawn := true } } := by
  let v := s.modCtx c fun x => { x with acceptance := x.acceptance.map fun r => { r with withdrawn := true } }
  have hv : v.ctx c = { s.ctx c with acceptance := (s.ctx c).acceptance.map fun r => { r with withdrawn := true } } :=
    modCtx_ctx_same _ _ _
  rw [clearTaking, cut_stopped (s := v) (d := d) (by rw [hv]; exact h) (by rw [hv, hs]; nofun), writeBack_eq, writeBack_eq, hv]
  simp only [v, modCtx, ctx, Table.get_set_same, Table.set_set]
  rfl

end State

/-- A channel command CLEAR taken by a HALTED channel. -/
theorem exec_clear_taken {s : State} {arg : Byte} {c : ChanId} (h : s.hostOpen = true) (hm : s.mc.mode ≠ .setup)
    (harg : arg.toNat = c.val) (hk : (s.cfg c).kind ≠ .off) (hs : (s.ctx c).state = .halted) :
    exec (.clear arg) s = .next { s.commanding.clearChannel c with port := s.port.taken } := by
  rw [exec_clear, State.channelControl_takes h hm harg (Kind.commandable_of_ne hk) (by rw [hs]; rfl) (State.clearChannel_port _ _)]

/-- Settles O18: the walk by `abortWalk_eq`, whose slots are a ring's own by the invariant. -/
theorem clearAbortsTheSendingRing : Obligations.ClearAbortsTheSendingRing := by
  intro s arg c h harg hm hring hk hs n hn hvalid hend
  have hoff : (s.cfg c).kind ≠ .off := by obtain hk | hk := hk <;> rw [hk] <;> nofun
  obtain ⟨hlength, -⟩ := hring hm c hoff
  let w := s.commanding.abortedSlots c (s.ctx c).msgStart n
  let i := ringStep (s.cfg c) (s.ctx c).msgStart n
  have hclear : s.commanding.clearChannel c = w.modCtx c fun x => x.givenUp i :=
    (State.clearChannel_sending (s := s.commanding) hk).trans
      (State.clearSending_eq (s := s.commanding) ((Nat.le_add_left _ _).trans hlength) hn hvalid hend)
  have hlocal : Local s.commanding w c := State.writeBackList_local c _ _ _ _
  have hsame : w.ctx c = s.ctx c := State.writeBackList_ctx _ _ _ _ _ _
  have hctx : (w.modCtx c fun x => x.givenUp i).ctx c = (s.ctx c).givenUp i := by rw [State.modCtx_ctx_same, hsame]
  have hothers (d : ChanId) (hd : d ≠ c) : (w.modCtx c fun x => x.givenUp i).ctx d = s.ctx d :=
    (State.modCtx_ctx_ne _ _ hd).trans (hlocal.ctx d hd)
  refine ⟨_, exec_clear_taken h hm harg hoff hs, ?_⟩
  rw [hclear]
  refine ⟨fun k hk => s.commanding.abortedSlots_slot c _ hk, fun i hi => s.commanding.abortedSlots_slot_ne c _ hi, hctx,
    fun d hd => ⟨hothers d hd, hlocal.flags d hd⟩, s.commanding.abortedSlots_flags c _ n, ?_⟩
  simp [w, State.abortedSlots, State.commanding]

/-- Settles O19: by kind, and of a TAKE channel by whether a message is open. -/
theorem clearCutsTheTakingChannel : Obligations.ClearCutsTheTakingChannel := by
  intro s arg c h harg hm hs
  refine ⟨fun hk hopen => ?closed, fun d hk hopen => ?opened, fun hk => ?subscribe⟩
  case closed =>
    rw [exec_clear_taken h hm harg (by rw [hk]; nofun) hs, State.clearChannel_take (s := s.commanding) hk,
      State.clearTaking_closed (s := s.commanding) hopen]
    rfl
  case opened =>
    rw [exec_clear_taken h hm harg (by rw [hk]; nofun) hs, State.clearChannel_take (s := s.commanding) hk,
      State.clearTaking_open (s := s.commanding) hopen hs, State.writeBack_eq]
    rfl
  case subscribe =>
    rw [exec_clear_taken h hm harg (by rw [hk]; nofun) hs, State.clearChannel_subscribe (s := s.commanding) hk]
    rfl

end Sys2Proof.Machine

/-! PROOFS. HALT (R47, R50 to R52): at once, or when the outcome of the latched attempt has been applied (R51, R85, R86). -/

namespace Sys2Proof.Machine

/-- A channel has entered HALTED with a cause: its context, its offer and its notice (R47). -/
structure State.HaltedWith (t : State) (c : ChanId) (y : Context) (cause : HaltCause) : Prop where
  ctx : t.ctx c = y.haltedBy cause
  offer : t.arb.offers.get c = false
  notice : (t.notice.channels.get c).halted = true

/-- The part at the end of an attempt that waited for its answer: what the window's close has left as it was, before the outcome
reaches the owner (R18). The line record, the Presence Table and the offers toward a station heard may have changed. -/
structure State.Attended (s v : State) : Prop where
  station : v.station = s.station
  configs : v.configs = s.configs
  contexts : v.contexts = s.contexts
  slots : v.slots = s.slots
  ram : v.ram = s.ram
  mc : v.mc = s.mc
  port : v.port = s.port
  pending : v.pending = s.pending
  latch : v.arb.latch = s.arb.latch
  pointers : v.arb.pointers = s.arb.pointers
  beaconOffer : v.arb.beaconOffer = s.arb.beaconOffer
  announceOffer : v.arb.announceOffer = s.arb.announceOffer

namespace State

/-! ### HALT taken (R50, R52) -/

theorem haltChannel_free {s : State} {c : ChanId} (h : s.ownsLatch c = false) : s.haltChannel c = s.enterHalted c .host :=
  if_neg (by simp [h])

theorem haltChannel_latched {s : State} {c : ChanId} (h : s.ownsLatch c = true) :
    s.haltChannel c = s.modCtx c fun x => { x with haltReq := true } := if_pos h

@[simp] theorem haltChannel_port (s : State) (c : ChanId) : (s.haltChannel c).port = s.port := by
  unfold haltChannel
  split <;> rfl

/-! ### A HALT that waits (R51) -/

theorem enterHalted_haltedWith (s : State) (c : ChanId) (cause : HaltCause) :
    (s.enterHalted c cause).HaltedWith c (s.ctx c) cause :=
  ⟨enterHalted_ctx_same s c cause, Table.get_set_same _ _ _, by simp⟩

theorem settleHalt_waiting {s : State} {c : ChanId} (h : (s.ctx c).haltReq = true) : s.settleHalt c = s.enterHalted c .host :=
  if_pos h

/-- An outcome that leaves the channel with the HALT waiting: it halts with cause HOST (R51). -/
theorem settleHalt_deferred {s : State} {c : ChanId} {x y : Context} (hctx : s.ctx c = x) (h : x.haltReq = true)
    (hy : x.haltedBy .host = y.haltedBy .host) : (s.settleHalt c).HaltedWith c y .host := by
  have hhalted := s.enterHalted_haltedWith c .host
  rw [settleHalt_waiting (by rw [hctx]; exact h)]
  exact ⟨hhalted.ctx.trans (hctx ▸ hy), hhalted.offer, hhalted.notice⟩

/-- An outcome that has halted the channel: it keeps its cause (R51). -/
theorem settleHalt_halted (s : State) (c : ChanId) (cause : HaltCause) :
    ((s.enterHalted c cause).settleHalt c).HaltedWith c (s.ctx c) cause := by
  have hhalted := s.enterHalted_haltedWith c cause
  have hno : ((s.enterHalted c cause).ctx c).haltReq = false := by rw [hhalted.ctx]; rfl
  rw [settleHalt_look hno, look_idle (by rw [hhalted.ctx]; nofun) (by rw [hhalted.ctx]; nofun)]
  exact ⟨hhalted.ctx, Table.get_set_same _ _ _, hhalted.notice⟩

/-- With a HALT waiting nothing is fetched (R62). -/
theorem fetch_waiting {s : State} {c : ChanId} (h : (s.ctx c).haltReq = true) : s.fetch c = s := if_pos h

/-- A message completed with a HALT waiting: its slots are written back, the state alone is open, and nothing is fetched (R62, R67). -/
theorem completeMessage_waiting {s : State} {c : ChanId} (h : (s.ctx c).haltReq = true) :
    ∃ x, s.completeMessage c =
      (s.writeBackList c .done (fun d => d.length.toNat) (s.ctx c).fetched).modCtx c fun _ =>
        { messageOver (s.ctx c) with state := x } := by
  have hsame : (s.writeBackList c .done (fun d => d.length.toNat) (s.ctx c).fetched).ctx c = s.ctx c :=
    writeBackList_ctx _ _ _ _ _ _
  refine ⟨if ((s.ctx c).fetched.any fun d => (s.slot d.slot).holds) ∧ (s.ctx c).state = .running then .holding
    else (s.ctx c).state, ?_⟩
  unfold completeMessage
  dsimp only
  rw [fetch_waiting (by rw [modCtx_ctx_same, hsame]; exact h), ite_self]
  exact modCtx_congr (by rw [hsame]; rfl)

/-- LOST and WAKE_COLLISION at a channel with a HALT waiting (R51, R89, R122). -/
theorem endAttempt_unsent_waiting {s : State} {c : ChanId} {img : Frame} {p : AttemptPhase} {o : AttemptOutcome}
    (ho : o = .lost ∨ o = .wakeCollision)
    (ha : s.arb.latch = some { owner := .channel c, form := .frame img, phase := p }) (hq : s.mc.pendingSleep ≠ .quiet)
    (hh : (s.ctx c).haltReq = true) : s.endAttempt o = s.unlatched.enterHalted c .host := by
  rw [endAttempt_channel o ha hq, channelOutcome_unsent _ _ _ ho, settleHalt_waiting (s := s.unlatched) hh]
  obtain rfl | rfl := ho <;> rfl

/-! ### The end of an attempt that waited for its answer (R18, R36) -/

theorem stationHeard_attended (s : State) (a : Station) : s.Attended (s.stationHeard a) := by
  constructor <;> simp

theorem Attended.refl (s : State) : s.Attended s := ⟨rfl, rfl, rfl, rfl, rfl, rfl, rfl, rfl, rfl, rfl, rfl, rfl⟩

theorem destinationHeard_attended (s : State) : s.Attended s.destinationHeard := by
  unfold destinationHeard
  split
  · split
    · exact s.stationHeard_attended _
    · exact .refl s
  · exact .refl s

theorem Attended.modLine {s v : State} (h : s.Attended v) (f : LineRecord → LineRecord) : s.Attended (v.modLine f) := { h with }

theorem Attended.ctx {s v : State} (h : s.Attended v) (c : ChanId) : v.ctx c = s.ctx c := by rw [State.ctx, h.contexts, ← State.ctx]

theorem Attended.cfg {s v : State} (h : s.Attended v) (c : ChanId) : v.cfg c = s.cfg c := by rw [State.cfg, h.configs, ← State.cfg]

/-- The outcome of a SEND channel's frame touches the context of its own channel only (5.3). -/
theorem sendOutcome_ctx_ne (s : State) {c d : ChanId} (img : Frame) (o : AttemptOutcome) (h : d ≠ c) :
    (s.sendOutcome c img o).ctx d = s.ctx d := by
  have hretry : (s.countRetry c).ctx d = s.ctx d := by
    unfold countRetry exhaust
    split
    · exact modCtx_ctx_ne _ _ h
    · rw [look_ctx, presenceExhausted_ctx, modCtx_ctx_ne _ _ h]
  unfold sendOutcome
  split
  · split
    · exact (openAcked_local s c).ctx d h
    · exact (dataAcked_local s c img).ctx d h
  · exact (nakAnswered_local s c).ctx d h
  · exact enterHalted_ctx_ne s _ h
  · split
    · exact hretry
    · exact modCtx_ctx_ne _ _ h
  · exact hretry
  · exact hretry
  all_goals rfl

section

variable {s v : State} {c : ChanId} {img : Frame} {o : AttemptOutcome}

/-- The attempt of a SEND channel that waited for its answer ends (R36). -/
theorem AtAnswer.endAttempt (h : s.AtAnswer c img) (hv : s.Attended v) (o : AttemptOutcome) :
    v.endAttempt o = ((v.unlatched.sendOutcome c img o).settleHalt c).outcomeReports o := by
  have hkind : (v.unlatched.cfg c).kind = .send := (hv.cfg c).symm ▸ h.kind
  rw [endAttempt_channel o (hv.latch.trans h.latch) (hv.mc ▸ h.awake), channelOutcome, hkind]

/-- A window closed with an answer: the destination is heard, then the attempt ends with it (R18; log entry 13). -/
theorem AtAnswer.closeWindow_answered (h : s.AtAnswer c img) {b : Byte} {a : Answer} (hb : Answer.ofByte b = some a) :
    s.closeWindow (some b) =
      (s.destinationHeard.modLine fun l => l.closeWindow (idleAtClose (some b))).endAttempt (.answered a) := by
  simp [closeWindow, takeAnswer, h.inWindow, h.awaitsAnswer, hb]

theorem AtAnswer.closeWindow_none (h : s.AtAnswer c img) :
    s.closeWindow none = (s.modLine fun l => l.closeWindow (idleAtClose none)).endAttempt .none :=
  closeWindow_sender h.inWindow h.awaitsAnswer rfl

/-- The outcome at the channel, the reports apart: the frame of the end of an attempt, with the Mode Controller as before. -/
theorem Attended.outcome_frame (hv : s.Attended v) (c : ChanId) (img : Frame) (o : AttemptOutcome) :
    let u := (v.unlatched.sendOutcome c img o).settleHalt c
    AttemptFrame s u c ∧ u.mc = s.mc := by
  intro u
  have hmc : u.mc = s.mc := by rw [settleHalt_mc, sendOutcome_mc]; exact hv.mc
  refine ⟨?_, hmc⟩
  exact
    { latch := by rw [settleHalt_latch, sendOutcome_latch]; rfl
      pointers := by rw [settleHalt_pointers, sendOutcome_pointers]; exact hv.pointers
      beaconOffer := by rw [settleHalt_beaconOffer, sendOutcome_beaconOffer]; exact hv.beaconOffer
      announceOffer := by rw [settleHalt_announceOffer, sendOutcome_announceOffer]; exact hv.announceOffer
      contexts := fun d hd => by rw [settleHalt_ctx_ne _ hd, sendOutcome_ctx_ne _ _ _ hd]; exact hv.ctx d
      ram := by rw [settleHalt_ram, sendOutcome_ram]; exact hv.ram
      station := by rw [settleHalt_station, sendOutcome_station]; exact hv.station
      configs := by rw [settleHalt_configs, sendOutcome_configs]; exact hv.configs
      port := by rw [settleHalt_port, sendOutcome_port]; exact hv.port
      pending := by rw [settleHalt_pending, sendOutcome_pending]; exact hv.pending
      mode := by rw [hmc] }

/-- The reports of an answer and of NONE: the station heard, and one good transmission, or none at all (R36, R142, R150). -/
theorem outcomeReports_cases {u : State} (hm : u.mc.mode = .active) (ho : o = .none ∨ ∃ a, o = .answered a) :
    ∃ n e, u.outcomeReports o = { u with beaconTimer := n, mc := { u.mc with lineErrors := e } } := by
  obtain rfl | ⟨a, rfl⟩ := ho
  · exact ⟨u.beaconTimer, u.mc.lineErrors, rfl⟩
  · exact ⟨_, _, outcomeReports_sent hm⟩

/-- An attempt that waited for its answer ends with the channel halted: what is left of the rest of the part (R36, R51). -/
theorem AtAnswer.ends_halted (h : s.AtAnswer c img) (hv : s.Attended v) (ho : o = .none ∨ ∃ a, o = .answered a) {y : Context}
    {cause : HaltCause} (hend : ((v.unlatched.sendOutcome c img o).settleHalt c).HaltedWith c y cause) :
    AttemptFrame s (v.endAttempt o) c ∧ (v.endAttempt o).HaltedWith c y cause := by
  obtain ⟨hframe, hmc⟩ := hv.outcome_frame c img o
  rw [h.endAttempt hv]
  generalize (v.unlatched.sendOutcome c img o).settleHalt c = u at hframe hmc hend
  obtain ⟨n, e, hreports⟩ := outcomeReports_cases (u := u) (o := o) (by rw [hmc]; exact h.mode) ho
  rw [hreports]
  exact ⟨{ hframe with mode := by rw [hmc] }, hend.ctx, hend.offer, hend.notice⟩

/-- An answer, with the outcome at the channel as it is on the part in which the destination has been heard. -/
theorem AtAnswer.answered_halts (h : s.AtAnswer c img) {b : Byte} {a : Answer} (hb : Answer.ofByte b = some a) {y : Context}
    {cause : HaltCause}
    (hend : ∀ w : State, w.ctx c = s.ctx c → w.station = s.station →
      ((w.sendOutcome c img (.answered a)).settleHalt c).HaltedWith c y cause) :
    ∃ t, exec (.windowClose (some b)) s = .next t ∧ AttemptFrame s t c ∧ t.HaltedWith c y cause := by
  let v := s.destinationHeard.modLine fun l => l.closeWindow (idleAtClose (some b))
  have hv : s.Attended v := s.destinationHeard_attended.modLine _
  exact ⟨_, congrArg Host.Outcome.next (h.closeWindow_answered hb),
    h.ends_halted hv (.inr ⟨a, rfl⟩) (hend v.unlatched (hv.ctx c) hv.station)⟩

end

/-! ### The outcomes of a frame with a HALT waiting (R82 to R88) -/

section

variable {w : State} {c : ChanId} {x : Context} (img : Frame)

theorem openAcked_waiting (hx : w.ctx c = x) (h : x.haltReq = true) :
    (w.openAcked c).ctx c = { x with toggle := false, retry := 0, nak := 0, state := .running } := by
  rw [openAcked, fetch_waiting (by rw [modCtx_ctx_same, hx]; exact h), modCtx_ctx_same, hx]

/-- The context of a channel whose DATA frame has been acknowledged (R83). -/
theorem advance_ctx (s : State) (c : ChanId) :
    (s.advance c img).ctx c =
      { s.ctx c with
        toggle := !(s.ctx c).toggle, retry := 0, nak := 0, acc := (s.ctx c).acc.feedAll img.payload
        stream := (s.ctx c).stream + img.payload.length, pacing := startTimer (s.cfg c).pacing.toNat } := modCtx_ctx_same _ _ _

/-- The ACK of a frame that is not the last of its message (R83). -/
theorem dataAcked_waiting (hx : w.ctx c = x) (h : x.haltReq = true) (he : img.position.ends = false) :
    (w.dataAcked c img).ctx c =
      { x with
        toggle := !x.toggle, retry := 0, nak := 0, acc := x.acc.feedAll img.payload
        stream := x.stream + img.payload.length, pacing := startTimer (w.cfg c).pacing.toNat } := by
  have hadvance := advance_ctx img w c
  rw [hx] at hadvance
  have hfetch : w.dataAcked c img = (w.advance c img).fetch c := if_neg (by simp [he])
  rw [hfetch, fetch_waiting (by rw [hadvance]; exact h), hadvance]

/-- The ACK of the last frame of a message (R84, R67). -/
theorem dataAcked_last_waiting (hx : w.ctx c = x) (h : x.haltReq = true) (he : img.position.ends = true) :
    ∃ r, (w.dataAcked c img).ctx c =
      { messageOver x with
        toggle := !x.toggle, retry := 0, nak := 0, pacing := startTimer (w.cfg c).pacing.toNat, state := r } := by
  have hadvance := advance_ctx img w c
  rw [hx] at hadvance
  have hcomplete : w.dataAcked c img = (w.advance c img).completeMessage c := if_pos he
  obtain ⟨r, hr⟩ := completeMessage_waiting (s := w.advance c img) (c := c) (by rw [hadvance]; exact h)
  refine ⟨r, ?_⟩
  rw [hcomplete, hr, modCtx_ctx_same, hadvance]
  rfl

/-- A NAK below the NAK patience, and one without a patience (R85). -/
theorem nakAnswered_unbounded (hx : w.ctx c = x) (hp : w.station.nakPatience = 0) :
    (w.nakAnswered c).ctx c = { x with nak := saturate x.nak, backoff := startTimer w.station.nakBackoff.toNat } := by
  have hzero : w.station.nakPatience.toNat = 0 := by rw [hp]; rfl
  simp only [nakAnswered]
  rw [if_pos hzero, modCtx_ctx_same, hx]

theorem nakAnswered_below (hx : w.ctx c = x) (hp : x.nak + 1 < w.station.nakPatience.toNat) :
    (w.nakAnswered c).ctx c = { x with nak := x.nak + 1, backoff := startTimer w.station.nakBackoff.toNat } := by
  simp only [nakAnswered]
  rw [if_neg (by omega), hx, if_pos hp, modCtx_ctx_same, hx]

/-- A NAK that reaches the NAK patience halts the channel (R85). -/
theorem nakAnswered_busy (hx : w.ctx c = x) (h0 : w.station.nakPatience ≠ 0) (hp : w.station.nakPatience.toNat ≤ x.nak + 1) :
    w.nakAnswered c = w.enterHalted c .peerBusy := by
  have hpos : w.station.nakPatience.toNat ≠ 0 := fun e => h0 (BitVec.eq_of_toNat_eq e)
  simp only [nakAnswered]
  rw [if_neg hpos, hx, if_neg (by omega)]

end

end State

theorem Position.ends_of_last {p : Position} (h : p = .last ∨ p = .only) : p.ends = true := by
  obtain rfl | rfl := h <;> rfl

theorem Position.ends_of_first {p : Position} (h : p = .first ∨ p = .middle) : p.ends = false := by
  obtain rfl | rfl := h <;> rfl

namespace State

/-! ### HALT, deferred, at each outcome (R51) -/

/-- HALT taken by a started channel (R50, R52). -/
theorem exec_halt_taken {s : State} {arg : Byte} {c : ChanId} (h : s.hostOpen = true) (harg : arg.toNat = c.val)
    (hm : s.mc.mode ≠ .setup) (hk : (s.cfg c).kind ≠ .off) (h1 : (s.ctx c).state ≠ .stopped) (h2 : (s.ctx c).state ≠ .halted) :
    exec (.halt arg) s = .next { s.commanding.haltChannel c with port := s.port.taken } := by
  rw [exec_halt, channelControl_takes h hm harg (Kind.commandable_of_ne hk) ((ChanState.started_iff _).2 ⟨h1, h2⟩)
    (haltChannel_port _ _)]

/-- A publication of one region SENT with a HALT waiting: DONE is written back, and the channel halts (R51, R67, R121). -/
theorem channelOutcome_sent_waiting {s : State} {c : ChanId} {d : SlotCopy} (img : Frame) (hk : (s.cfg c).kind = .publish)
    (hh : (s.ctx c).haltReq = true) (hd : (s.ctx c).fetched = [d]) :
    ∃ x, s.channelOutcome c img .sent =
      ((s.writeBack c d.slot .done d.length.toNat none).modCtx c fun _ =>
        { messageOver (s.ctx c) with
          pacing := startTimer (s.cfg c).pacing.toNat, state := x }).enterHalted c .host := by
  have hpaced := s.paced_ctx c
  obtain ⟨x, hx⟩ := completeMessage_waiting (s := s.paced c) (c := c) (by rw [hpaced]; exact hh)
  have hsent : s.channelOutcome c img .sent = ((s.paced c).completeMessage c).settleHalt c := by
    rw [channelOutcome, hk]
    rfl
  refine ⟨x, ?_⟩
  rw [hsent, settleHalt_waiting (by rw [hx, modCtx_ctx_same, hpaced]; exact hh), hx, hpaced, hd]
  simp only [writeBackList, writeBack_eq, hpaced, modCtx]
  simp only [paced, modCtx, Table.set_set]
  rfl

/-- A slot written back by a channel that then halts: its context, the slot, its flags, its offer,
and what stays. -/
theorem writeBack_halted (s : State) (c : ChanId) (i : SlotId) (st : Status) (n : Nat) (x : Context) :
    let u := ((s.writeBack c i st n none).modCtx c fun _ => x).enterHalted c .host
    u.ctx c = x.haltedBy .host
      ∧ u.slots =
          s.slots.set i
            { s.slot i with valid := false, status := st.code, count := BitVec.ofNat 12 n, msgNo := (s.ctx c).msgNo }
      ∧ u.notice.channels.get c =
          { s.notice.channels.get c with done := (s.notice.channels.get c).done || (s.slot i).notify, halted := true }
      ∧ u.arb = { s.arb with offers := s.arb.offers.set c false } ∧ u.mc = s.mc ∧ ∀ e, e ≠ c → u.ctx e = s.ctx e := by
  intro u
  refine ⟨?_, ?_, ?_, ?_, ?_, fun e he => ?_⟩
  · rw [enterHalted_ctx_same, modCtx_ctx_same]
    rfl
  · rw [enterHalted_slots, modCtx_slots, writeBack_eq]
    rfl
  · rw [enterHalted_notice, modCtx_notice, Table.get_set_same, writeBack_flags]
  · rw [enterHalted_arb, modCtx_arb, writeBack_arb]
  · rw [enterHalted_mc, modCtx_mc, writeBack_mc]
  · rw [enterHalted_ctx_ne _ _ he, modCtx_ctx_ne _ _ he, (writeBack_local s c i st n none).ctx e he]

/-- The end of the own frame of such a publication, on the line record that it leaves (R33, R51). -/
theorem ownFrameDone_waiting {s : State} {c : ChanId} {img : Frame} {p : AttemptPhase} {d : SlotCopy} (hm : s.mc.mode = .active)
    (hq : s.mc.pendingSleep ≠ .quiet)
    (ha : s.arb.latch = some { owner := .channel c, form := .frame img, phase := p }) (hp : p = .arbitration ∨ p = .sending)
    (hi : img.kind = .publish) (hk : (s.cfg c).kind = .publish) (hh : (s.ctx c).haltReq = true) (hd : (s.ctx c).fetched = [d]) :
    ∃ x, s.ownFrameDone =
      (((((s.modLine fun l => l.after img .sender).unlatched.writeBack c d.slot .done d.length.toNat none).modCtx c fun _ =>
        { messageOver (s.ctx c) with
          pacing := startTimer (s.cfg c).pacing.toNat, state := x }).enterHalted c .host).outcomeReports .sent) := by
  let v := s.modLine fun l => l.after img .sender
  obtain ⟨x, hx⟩ := channelOutcome_sent_waiting (s := v.unlatched) img hk hh hd
  have hdone : s.ownFrameDone = v.endAttempt .sent := (ownFrameDone_of hm ha hp).trans (if_pos (by rw [hi]; rfl))
  exact ⟨x, by rw [hdone, endAttempt_channel (s := v) _ ha hq, hx]; rfl⟩

end State

/-- Settles O17: HALT by who owns the latch; deferred, by `settleHalt_deferred` at each outcome that leaves it waiting, and by
`settleHalt_halted` at those that halt the channel themselves. -/
theorem haltTakenAtOnceOrDeferred : Obligations.HaltTakenAtOnceOrDeferred := by
  refine ⟨fun s arg c h harg hm hk h1 h2 => ?taken, fun s c img p hm hq ha hh => ?attempt, fun s c img h hh => ?answer⟩
  case taken =>
    have hexec := State.exec_halt_taken h harg hm hk h1 h2
    refine ⟨fun hfree => ?_, fun hown => ?_⟩
    · rw [hexec, State.haltChannel_free (s := s.commanding) hfree]
      rfl
    · rw [hexec, State.haltChannel_latched (s := s.commanding) hown]
      rfl
  case attempt =>
    intro stopped
    refine ⟨fun hp => ?lost, fun hp => ?collision, fun d hp hi hk hd => ?sent⟩
    case lost =>
      exact congrArg Host.Outcome.next
        ((State.loseArbitration_of hm ha hp).trans (State.endAttempt_unsent_waiting (.inl rfl) ha hq hh))
    case collision =>
      refine congrArg Host.Outcome.next ((State.collide_of hm ha hp).trans ?_)
      exact State.endAttempt_unsent_waiting (s := s.modLine fun l => l.upset 0 16) (.inr rfl) ha hq hh
    case sent =>
      obtain ⟨x, hdone⟩ := State.ownFrameDone_waiting hm hq ha hp hi hk hh hd
      let v := (s.modLine fun l => l.after img .sender).unlatched
      obtain ⟨hctx, hslots, hflags, harb, hmc, hothers⟩ :=
        v.writeBack_halted c d.slot .done d.length.toNat
          { State.messageOver (s.ctx c) with pacing := startTimer (s.cfg c).pacing.toNat, state := x }
      rw [State.outcomeReports_sent ((congrArg ModeController.mode hmc).trans hm)] at hdone
      rw [BitVec.ofNat_toNat, BitVec.setWidth_eq] at hslots
      refine ⟨_, congrArg Host.Outcome.next hdone, hctx, hslots, hflags, congrArg Arbiter.latch harb, ?_, hothers⟩
      exact (congrArg (fun a : Arbiter => a.offers.get c) harb).trans (Table.get_set_same _ _ _)
  case answer =>
    intro x g halts
    have answered {b : Byte} {a : Answer} (hb : Answer.ofByte b = some a) {y : Context} {cause : HaltCause}
        (hend : ∀ w : State, w.ctx c = x → w.station = g →
          ((w.sendOutcome c img (.answered a)).settleHalt c).HaltedWith c y cause) :
        halts (.windowClose (some b)) y cause := by
      obtain ⟨t, hexec, hframe, hctx, hoffer, hnotice⟩ := h.answered_halts hb hend
      exact ⟨t, hexec, hframe, hctx, hoffer, hnotice⟩
    refine ⟨fun hi => ?openAck, fun hi => ⟨fun hpos => ?ack, fun hpos => ?lastAck⟩, fun hp => ?nak, fun hp => ?nakBelow,
      fun h0 hp => ?nakBusy, ?halt, fun hi => ?reopen, fun hr => ?silence⟩
    case openAck =>
      refine answered (a := .ack) rfl fun w hw _ => ?_
      rw [show w.sendOutcome c img (.answered .ack) = w.openAcked c from if_pos hi]
      exact State.settleHalt_deferred (State.openAcked_waiting hw hh) hh rfl
    case ack =>
      refine answered (a := .ack) rfl fun w hw _ => ?_
      rw [show w.sendOutcome c img (.answered .ack) = w.dataAcked c img from if_neg (by rw [hi]; nofun)]
      exact State.settleHalt_deferred (State.dataAcked_waiting img hw hh (Position.ends_of_first hpos)) hh rfl
    case lastAck =>
      refine answered (a := .ack) rfl fun w hw _ => ?_
      obtain ⟨r, hr⟩ := State.dataAcked_last_waiting img hw hh (Position.ends_of_last hpos)
      rw [show w.sendOutcome c img (.answered .ack) = w.dataAcked c img from if_neg (by rw [hi]; nofun)]
      exact State.settleHalt_deferred hr hh rfl
    case nak =>
      refine answered (a := .nak) rfl fun w hw hg => ?_
      exact State.settleHalt_deferred (State.nakAnswered_unbounded hw (hg ▸ hp)) hh rfl
    case nakBelow =>
      refine answered (a := .nak) rfl fun w hw hg => ?_
      exact State.settleHalt_deferred (State.nakAnswered_below hw (hg ▸ hp)) hh rfl
    case nakBusy =>
      refine answered (a := .nak) rfl fun w hw hg => ?_
      rw [State.sendOutcome, State.nakAnswered_busy hw (hg ▸ h0) (hg ▸ hp), ← hw]
      exact w.settleHalt_halted c .peerBusy
    case halt =>
      refine answered (a := .halt) rfl fun w hw _ => ?_
      rw [← hw]
      exact w.settleHalt_halted c .peerHalt
    case reopen =>
      refine answered (a := .reopen) rfl fun w hw _ => ?_
      rw [show w.sendOutcome c img (.answered .reopen) = w.modCtx c Context.rewind from if_neg (by rw [hi]; nofun)]
      exact State.settleHalt_deferred ((State.modCtx_ctx_same _ _ _).trans (congrArg _ hw)) hh rfl
    case silence =>
      let v := s.modLine fun l => l.closeWindow (idleAtClose none)
      have hend : ((v.unlatched.sendOutcome c img .none).settleHalt c).HaltedWith c { x with retry := x.retry + 1 } .host := by
        rw [State.sendOutcome, State.countRetry_below (s := v.unlatched) hr]
        exact State.settleHalt_deferred (State.modCtx_ctx_same _ _ _) hh rfl
      obtain ⟨hframe, hctx, hoffer, hnotice⟩ :=
        h.ends_halted ((State.Attended.refl s).modLine _) (.inl rfl) hend
      exact ⟨_, congrArg Host.Outcome.next h.closeWindow_none, hframe, hctx, hoffer, hnotice⟩

end Sys2Proof.Machine

/-! PROOFS. Buffer RAM (R74): what a command stores is one run of bytes, or nothing, so that every step keeps the canonical form. -/

namespace Sys2Proof.Machine

namespace State

/-! ### Operations that leave Buffer RAM: channels and modes -/

@[simp] theorem release_ram (s : State) (c : ChanId) : (s.release c).ram = s.ram := by
  unfold release
  dsimp only
  repeat' split
  all_goals simp

@[simp] theorem clearChannelFlags_ram (s : State) (c : ChanId) (mask : Byte) : (s.clearChannelFlags c mask).ram = s.ram := by
  unfold clearChannelFlags
  dsimp only
  split <;> simp

theorem startChannel_ram (s : State) (c : ChanId) : (s.startChannel c).ram = s.ram := by
  unfold startChannel
  split <;> simp

theorem haltChannel_ram (s : State) (c : ChanId) : (s.haltChannel c).ram = s.ram := by
  unfold haltChannel
  split <;> simp

theorem clearChannel_ram (s : State) (c : ChanId) : (s.clearChannel c).ram = s.ram := by
  unfold clearChannel clearSending clearTaking
  split <;> simp

theorem kickChannel_ram (s : State) (c : ChanId) : (s.kickChannel c).ram = s.ram := by
  unfold kickChannel
  split <;> simp

/-- A channel command leaves Buffer RAM where its effect does (R48). -/
theorem channelCommand_ram {effect : State → ChanId → State} (h : ∀ t c, (effect t c).ram = t.ram) (s : State) (arg : Byte)
    (kindOk : Kind → Bool) (stateOk : ChanState → Bool) : (s.channelCommand arg kindOk stateOk effect).ram = s.ram := by
  unfold channelCommand
  split
  · rfl
  split
  · rfl
  split
  · rfl
  split
  · rfl
  · exact h s _

theorem join_ram (s : State) : s.join.ram = s.ram := by
  unfold join
  repeat' split
  all_goals rfl

theorem sleepCommand_ram (s : State) (arg : Byte) : (s.sleepCommand arg).ram = s.ram := by
  unfold sleepCommand
  repeat' split
  all_goals simp

theorem wakeCommand_ram (s : State) : s.wakeCommand.ram = s.ram := by
  unfold wakeCommand
  repeat' split
  all_goals simp

theorem resume_ram (s : State) : s.resume.ram = s.ram := by
  unfold resume
  repeat' split
  all_goals simp

theorem clearLimp_ram (s : State) : s.clearLimp.ram = s.ram := by
  unfold clearLimp
  split <;> rfl

/-! ### Operations that leave Buffer RAM: transactions of the host -/

/-- A control command leaves Buffer RAM where its effect does (R180). -/
theorem control_ram {f : State → State} (h : ∀ t, (f t).ram = t.ram) (s : State) : (s.control f).ram = s.ram := by
  unfold control atRise commanded
  split
  · exact h _
  · rfl

/-- A byte access leaves Buffer RAM where its effect does. -/
theorem access_ram {f : State → State} (h : ∀ t, (f t).ram = t.ram) (s : State) : (s.access f).ram = s.ram := by
  unfold access
  split
  · exact h _
  · rfl

theorem writeStationByte_ram (s : State) (addr : Nat) (v : Byte) : (s.writeStationByte addr v).ram = s.ram := by
  unfold writeStationByte setOwnAddress writeRestartLimit
  repeat' split
  all_goals simp

theorem writeChannelByte_ram (s : State) (c : ChanId) (i : Nat) (v : Byte) : (s.writeChannelByte c i v).ram = s.ram := by
  unfold writeChannelByte
  split <;> rfl

theorem writeRegister_ram (s : State) (addr : Word) (v : Byte) : (s.writeRegister addr v).ram = s.ram := by
  unfold writeRegister clearStationFlags clearMarks
  dsimp only
  repeat' split
  all_goals simp [writeStationByte_ram, writeChannelByte_ram]

theorem writeSlot_ram (s : State) (i : SlotId) (bytes : List Byte) : (s.writeSlot i bytes).ram = s.ram := by
  unfold writeSlot
  split <;> rfl

theorem endTransaction_ram (s : State) : (s.atRise endTransaction).ram = s.ram := by
  unfold atRise
  split <;> rfl

/-! ### Operations that leave Buffer RAM: events of the line -/

theorem startBit_ram (s : State) : s.startBit.ram = s.ram := by
  unfold startBit
  split <;> rfl

theorem gapComplete_ram (s : State) : s.gapComplete.ram = s.ram := by
  unfold gapComplete startWaiting
  repeat' split
  all_goals simp

theorem resyncComplete_ram (s : State) : s.resyncComplete.ram = s.ram := by
  unfold resyncComplete
  repeat' split
  all_goals rfl

theorem badHeader_ram (s : State) (h0 h1 h2 h3 : Byte) : (s.badHeader h0 h1 h2 h3).ram = s.ram := by
  unfold badHeader
  split <;> simp

theorem badFraming_ram (s : State) (kind : FramingFault) : (s.badFraming kind).ram = s.ram := by
  unfold badFraming
  repeat' split
  all_goals simp

@[simp] theorem presenceHears_ram (s : State) (f : Frame) : (s.presenceHears f).ram = s.ram := by
  unfold presenceHears
  repeat' split
  all_goals simp

@[simp] theorem respond_ram (s : State) (f : Frame) : (s.respond f).ram = s.ram := s.decide_ram f.channel f

@[simp] theorem followAnnounce_ram (s : State) : s.followAnnounce.ram = s.ram := by
  unfold followAnnounce
  split <;> simp

@[simp] theorem destinationHeard_ram (s : State) : s.destinationHeard.ram = s.ram := by
  unfold destinationHeard
  repeat' split
  all_goals simp

@[simp] theorem takeAnswer_ram (s : State) (read : Option Byte) : (s.takeAnswer read).ram = s.ram := by
  unfold takeAnswer
  repeat' split
  all_goals simp

theorem closeWindow_ram (s : State) (read : Option Byte) : (s.closeWindow read).ram = s.ram := by
  unfold closeWindow
  dsimp only
  repeat' split
  all_goals simp

theorem breakWindow_ram (s : State) : s.breakWindow.ram = s.ram := by
  unfold breakWindow
  repeat' split
  all_goals simp

theorem clashSeen_ram (s : State) : s.clashSeen.ram = s.ram := by
  unfold clashSeen
  split <;> simp

@[simp] theorem halfMs_ram (s : State) : s.halfMs.ram = s.ram := by
  unfold halfMs endByRun
  repeat' split
  all_goals simp

theorem countHeldError_ram (s : State) : s.countHeldError.ram = s.ram := by
  unfold countHeldError
  split <;> simp

theorem pulseHeard_ram (s : State) : s.pulseHeard.ram = s.ram := by
  unfold pulseHeard pulseAtDetector pulseAtTable
  dsimp only
  repeat' split
  all_goals simp

theorem stuckRun_ram (s : State) : s.stuckRun.ram = s.ram := by
  unfold stuckRun
  repeat' split
  all_goals simp

/-! ### Operations that leave Buffer RAM: the own attempts, timers and the WAKE pin -/

theorem pickOffer_ram (s : State) (atOnce : Bool) : (s.pickOffer atOnce).ram = s.ram := by
  unfold pickOffer
  dsimp only
  repeat' split
  all_goals simp

theorem loseArbitration_ram (s : State) : s.loseArbitration.ram = s.ram := by
  unfold loseArbitration
  split <;> simp

theorem readBackFault_ram (s : State) (fault : ReadBackFault) : (s.readBackFault fault).ram = s.ram := by
  unfold readBackFault
  repeat' split
  all_goals simp

theorem collide_ram (s : State) : s.collide.ram = s.ram := by
  unfold collide
  split <;> simp

theorem ownFrameDone_ram (s : State) : s.ownFrameDone.ram = s.ram := by
  unfold ownFrameDone
  dsimp only
  repeat' split
  all_goals simp

theorem pulseDone_ram (s : State) (held : Bool) : (s.pulseDone held).ram = s.ram := by
  unfold pulseDone
  split <;> simp

theorem backoffExpired_ram (s : State) (c : ChanId) : (s.backoffExpired c).ram = s.ram := by
  unfold backoffExpired
  split <;> simp

theorem pacingExpired_ram (s : State) (c : ChanId) : (s.pacingExpired c).ram = s.ram := by
  unfold pacingExpired
  split <;> simp

theorem beaconExpired_ram (s : State) : s.beaconExpired.ram = s.ram := by
  unfold beaconExpired
  split <;> rfl

theorem settleExpired_ram (s : State) : s.settleExpired.ram = s.ram := by
  unfold settleExpired
  split <;> simp

theorem presenceTimedOut_ram (s : State) (a : Station) : (s.presenceTimedOut a).ram = s.ram := by
  unfold presenceTimedOut
  split <;> simp

theorem listenExpired_ram (s : State) : s.listenExpired.ram = s.ram := by
  unfold listenExpired
  split <;> simp

theorem restartExpired_ram (s : State) : s.restartExpired.ram = s.ram := by
  unfold restartExpired
  split <;> simp

theorem safeExpired_ram (s : State) : s.safeExpired.ram = s.ram := by
  unfold safeExpired
  split <;> simp

theorem pinShows_ram (s : State) (pin : PinEvent) : (s.pinShows pin).ram = s.ram := by
  cases pin with
  | moves level => rfl
  | held level =>
    unfold pinShows pinAccepted
    dsimp only
    repeat' split
    all_goals simp

@[simp] theorem tick_ram (s : State) : s.tick.ram = s.ram := rfl

/-- With no command waiting the part leaves Buffer RAM (log entry 2). -/
theorem idle_ram (s : State) : s.idle.ram = s.ram := by
  have hbit : s.h0Bit.ram = s.ram := by
    unfold h0Bit
    dsimp only
    split <;> simp
  unfold idle bitStep msStep
  dsimp only
  repeat' split
  all_goals simp [hbit]

end State

/-! ### Operations that store a run of bytes (R109, R127, R179) -/

/-- From `s` to `t` Buffer RAM is left, or one run of bytes is stored in it (R74). -/
def StoresRun (s t : State) : Prop := ∃ a bytes, t.ram = Memory.writeBytes s.ram a bytes

namespace StoresRun

theorem of_ram {s t : State} (h : t.ram = s.ram) : StoresRun s t := ⟨0, [], h⟩

/-- What leaves Buffer RAM may come before and after. -/
theorem congr {s s' t t' : State} (h : StoresRun s t) (hs : s.ram = s'.ram) (ht : t'.ram = t.ram) : StoresRun s' t' := by
  obtain ⟨a, bytes, hram⟩ := h
  exact ⟨a, bytes, by rw [ht, hram, hs]⟩

theorem wf {s t : State} (h : StoresRun s t) (hs : Memory.wf s.ram) : Memory.wf t.ram := by
  obtain ⟨a, bytes, hram⟩ := h
  rw [hram]
  exact Memory.writeBytes_wf hs a bytes

/-- The commit of a STORE record stores its payload where a descriptor is current (R109). -/
theorem commitStore (s : State) (c : ChanId) (w : StoreWork) : StoresRun s (s.commitStore c w) := by
  have hbytes (t : State) : StoresRun t (t.commitBytes c w) := by
    unfold State.commitBytes
    dsimp only
    split
    · exact ⟨_, _, rfl⟩
    · exact of_ram rfl
  have hstored := (hbytes (s.commitTarget c w)).congr (s.commitTarget_ram c w) rfl
  unfold State.commitStore
  dsimp only
  split
  · exact hstored.congr rfl (State.completeTaken_ram _ _ _)
  · exact hstored

/-- The commit of an acceptance record (R108 to R113). -/
theorem commit (s : State) (c : ChanId) : StoresRun s (s.commit c) := by
  unfold State.commit
  split
  case h_1 => exact of_ram rfl
  case h_2 r _ =>
    dsimp only
    split
    · exact of_ram (by simp)
    split
    · exact commitStore _ c _
    · exact of_ram (by simp)
    · exact of_ram rfl

/-- The end of the own response byte (R108). -/
theorem endResponse (s : State) (r : Response) : StoresRun s (s.endResponse r) := by
  unfold State.endResponse
  dsimp only
  split
  · exact commit _ r.channel
  · exact of_ram rfl

theorem responseSent (s : State) : StoresRun s s.responseSent := by
  unfold State.responseSent
  split
  · exact of_ram rfl
  · exact (endResponse s _).congr rfl rfl

theorem responseFaulted (s : State) : StoresRun s s.responseFaulted := by
  unfold State.responseFaulted
  split
  · exact of_ram rfl
  · exact (endResponse s _).congr rfl (State.reportRise_ram _ _)

/-- A publication heard stores its payload in the slot that the search finds (R127). -/
theorem publishHeard (s : State) (f : Frame) : StoresRun s (s.publishHeard f) := by
  have hsubscribed (c : ChanId) : StoresRun s (s.subscribed c f) := by
    have hsearch {t : State} {found : Search} (h : s.search c = (t, found)) : t.ram = s.ram := by
      rw [← s.search_ram c, h]
    unfold State.subscribed
    split
    · exact of_ram rfl
    split
    · exact of_ram (s.dropFrame_ram c)
    split
    case h_1 t d hfound => exact ⟨d.offset, f.payload, by simp [State.storePublished, hsearch hfound]⟩
    case h_2 t hnone => exact of_ram ((t.dropFrame_ram c).trans (hsearch hnone))
    case h_3 t hbad => exact of_ram ((t.dropFrame_ram c).trans (hsearch hbad))
  unfold State.publishHeard
  split
  · exact hsubscribed _
  · exact of_ram rfl

/-- The deliveries of a valid frame (R15). -/
theorem deliver (s : State) (f : Frame) : StoresRun s (s.deliver f) := by
  unfold State.deliver
  dsimp only
  split
  · split
    case h_1 | h_2 => exact of_ram (by split <;> simp)
    case h_3 => exact (publishHeard _ f).congr (s.presenceHears_ram f) rfl
    case h_4 => exact of_ram (s.presenceHears_ram f)
    case h_5 => exact of_ram (by simp)
  · split
    case h_1 | h_2 => exact of_ram (by split <;> simp)
    case h_3 | h_4 | h_5 => exact of_ram (s.presenceHears_ram f)

/-- The end of a received frame (R9, R12). -/
theorem receiveFrame (s : State) (bytes : List Byte) : StoresRun s (s.receiveFrame bytes) := by
  have hgood (f : Frame) : StoresRun s (s.goodFrame f bytes) := by
    unfold State.goodFrame
    dsimp only
    split
    · exact of_ram (by simp)
    · exact (deliver _ f).congr (by simp) rfl
  unfold State.receiveFrame
  split
  · split
    · exact of_ram rfl
    split
    · exact hgood _
    · exact of_ram (State.reportRise_ram _ _)
  · exact of_ram rfl

theorem bufferWrite (s : State) (offset : Word) (v : Byte) :
    StoresRun s (s.access fun t => t.store (offsetOf offset) [v]) := by
  unfold State.access
  split
  · exact ⟨_, _, rfl⟩
  · exact of_ram rfl

end StoresRun

/-- A command other than RESET leaves Buffer RAM, or stores one run of bytes in it (R74). -/
theorem exec_storesRun {i : Instr} {s t : State} (hrun : exec i s = .next t) (hreset : i ≠ .reset) : StoresRun s t := by
  cases i
  case reset => exact absurd rfl hreset
  case clearNoticeFlags reg mask =>
    cases reg with
    | station =>
      obtain rfl := Host.Outcome.next.inj hrun
      exact .of_ram (s.access_ram fun _ => by rfl)
    | channel c =>
      obtain rfl := Host.Outcome.next.inj hrun
      exact .of_ram (s.access_ram fun t => t.clearChannelFlags_ram c mask)
  all_goals obtain rfl := Host.Outcome.next.inj hrun
  case bufferWrite offset v => exact .bufferWrite s offset v
  case frameEnd bytes => exact .receiveFrame s bytes
  case responseByteEnd => exact .responseSent s
  case responseBitError => exact .responseFaulted s
  all_goals refine .of_ram ?_
  case join => exact s.control_ram State.join_ram
  case sleep arg => exact s.control_ram fun t => t.sleepCommand_ram arg
  case wake => exact s.control_ram State.wakeCommand_ram
  case start arg => exact s.control_ram fun t => t.channelCommand_ram State.startChannel_ram _ _ _
  case halt arg => exact s.control_ram fun t => t.channelCommand_ram State.haltChannel_ram _ _ _
  case clear arg => exact s.control_ram fun t => t.channelCommand_ram State.clearChannel_ram _ _ _
  case kick arg => exact s.control_ram fun t => t.channelCommand_ram State.kickChannel_ram _ _ _
  case resume => exact s.control_ram State.resume_ram
  case clearLimp => exact s.control_ram State.clearLimp_ram
  case softReset | clearRestarts | unknownCommand => exact s.control_ram fun _ => by rfl
  case registerWrite addr v => exact s.access_ram fun t => t.writeRegister_ram addr v
  case ownAddressWrite v => exact s.access_ram fun t => t.writeStationByte_ram 0 v
  case clearDone c => exact s.access_ram fun t => t.clearChannelFlags_ram c 1
  case clearChangedMarks | bufferRead | descriptorRead => exact s.access_ram fun _ => by rfl
  case descriptorWrite index bytes => exact s.access_ram fun t => t.writeSlot_ram _ bytes
  case transactionEnd => exact s.endTransaction_ram
  case wakePinAccepted pin => exact s.pinShows_ram pin
  case pick atOnce => exact s.pickOffer_ram atOnce
  case formatError h0 h1 h2 h3 => exact s.badHeader_ram h0 h1 h2 h3
  case framingError kind => exact s.badFraming_ram kind
  case windowClose read => exact s.closeWindow_ram read
  case windowOutOfPlace => exact s.breakWindow_ram
  case clashResponseSeen => exact s.clashSeen_ram
  case clashWatchDisarmed => rfl
  case idleGapComplete => exact s.gapComplete_ram
  case resyncEnd => exact s.resyncComplete_ram
  case dominantRunHalfMs => exact s.halfMs_ram
  case heldErrorCounted => exact s.countHeldError_ram
  case wakePulseHeard => exact s.pulseHeard_ram
  case lineStuck => exact s.stuckRun_ram
  case arbitrationLost => exact s.loseArbitration_ram
  case bitError fault => exact s.readBackFault_ram fault
  case wakeCollision => exact s.collide_ram
  case ownFrameEnd => exact s.ownFrameDone_ram
  case pulseSent held => exact s.pulseDone_ram held
  case startBitBegins => exact s.startBit_ram
  case backoffExpiry c => exact s.backoffExpired_ram c
  case pacingExpiry c => exact s.pacingExpired_ram c
  case beaconTimerExpiry => exact s.beaconExpired_ram
  case wakeSettleExpiry => exact s.settleExpired_ram
  case presenceTimeout a => exact s.presenceTimedOut_ram a
  case listenTimerExpiry => exact s.listenExpired_ram
  case restartTimerExpiry => exact s.restartExpired_ram
  case safeTimerExpiry => exact s.safeExpired_ram

/-- Settles O56: the idle step leaves Buffer RAM, RESET empties it, and every other command is `exec_storesRun`. -/
theorem stepKeepsBufferRamCanonical : Obligations.StepKeepsBufferRamCanonical := by
  intro s t hs hrun
  unfold step at hrun
  split at hrun
  case h_1 =>
    obtain rfl := Host.Outcome.next.inj hrun
    rw [s.idle_ram]
    exact hs
  case h_2 i rest _ =>
    by_cases hi : i = .reset
    · subst hi
      obtain rfl := Host.Outcome.next.inj hrun
      exact Memory.wf_nil
    · exact (exec_storesRun hrun hi).wf hs

end Sys2Proof.Machine

/-! PROOFS. The transactions of Buffer RAM and the reads of the Descriptor Table (R59, R74, R179): a byte or a slot at a time. -/

namespace Sys2Proof.Machine

namespace State

/-! ### A byte or a slot of a transaction, taken -/

theorem exec_bufferWrite {s : State} (h : s.hostOpen = true) (offset : Word) (v : Byte) :
    exec (.bufferWrite offset v) s = .next (s.accessed.store (offsetOf offset) [v]) :=
  congrArg Host.Outcome.next (access_open h _)

theorem exec_bufferRead {s : State} (h : s.hostOpen = true) (offset : Word) (place : Nat) :
    exec (.bufferRead offset place) s =
      .next (s.accessed.shiftOut [Memory.read s.ram (offsetOf offset + BitVec.ofNat 12 place)]) :=
  congrArg Host.Outcome.next (access_open h _)

theorem exec_descriptorRead {s : State} (h : s.hostOpen = true) (index : Byte) (place : Nat) :
    exec (.descriptorRead index place) s = .next (s.accessed.shiftOut (s.slot (Fin.ofNat 64 (index.toNat + place))).bytes) := by
  rw [← slotOf_add]
  exact congrArg Host.Outcome.next (access_open h _)

/-! ### The queue of commands (R165, R177) -/

theorem hostTransaction_held {s : State} (h : s.resetLow = true) (mosi : List Byte) : s.hostTransaction mosi = s := if_pos h

theorem hostTransaction_queued {s : State} (h : s.resetLow = false) (mosi : List Byte) :
    s.hostTransaction mosi = { s with pending := s.pending ++ transaction mosi } := if_neg (ne_true_of_eq_false h)

end State

/-- Settles O27: a byte stored reads back by `Memory.read_write`, and the commands of a buffer write are `bufferWrites_eq`. -/
theorem bufferAndReadTransactionsMoveEachByte : Obligations.BufferAndReadTransactionsMoveEachByte := by
  refine ⟨fun s offset v h hwf => ?write, fun s offset place h => State.exec_bufferRead h offset place,
    fun s index place h => State.exec_descriptorRead h index place, fun hi lo data => ⟨?writes, rfl⟩,
    fun index data => rfl,
    fun s mosi => ⟨fun h => State.hostTransaction_held h mosi, fun h => State.hostTransaction_queued h mosi⟩⟩
  case write => exact ⟨_, State.exec_bufferWrite h offset v, Memory.read_write hwf (offsetOf offset) v, rfl⟩
  case writes => exact congrArg (· ++ [Instr.transactionEnd]) (bufferWrites_eq (wordOf hi lo) data)

end Sys2Proof.Machine

/-! PROOFS. The Descriptor Table as the host writes and reads it (R59, R179, R184): the eight bytes of a slot. -/

namespace Sys2Proof

/-! ### The fields of a slot in their bytes (R184) -/

/-- A field of 12 bits reads back from the two bytes in which it stands. -/
theorem wordOf_low_field (x : BitVec 12) :
    (wordOf ((x.zeroExtend 16).extractLsb' 8 8) ((x.zeroExtend 16).extractLsb' 0 8)).extractLsb' 0 12 = x := by
  rw [wordOf_wordBytes]
  refine BitVec.eq_of_getLsbD_eq fun i hi => ?_
  simp [hi]
  omega

/-- Two bytes written to a field of 12 bits read back with the upper four bits as 0. -/
theorem wordBytes_low_field (hi lo : Byte) :
    wordBytes (((wordOf hi lo).extractLsb' 0 12).zeroExtend 16) = [hi &&& 0x0F, lo] := by
  have hmask : (hi &&& 0x0F).toNat = hi.toNat % 16 := by
    rw [BitVec.toNat_and]
    exact Nat.and_two_pow_sub_one_eq_mod hi.toNat 4
  have hlo := lo.isLt
  have hhigh : (((wordOf hi lo).extractLsb' 0 12).zeroExtend 16).extractLsb' 8 8 = hi &&& 0x0F := by
    refine BitVec.eq_of_toNat_eq ?_
    rw [hmask]
    simp [Machine.wordOf_toNat, Nat.shiftRight_eq_div_pow]
    omega
  have hlow : (((wordOf hi lo).extractLsb' 0 12).zeroExtend 16).extractLsb' 0 8 = lo := by
    refine BitVec.eq_of_toNat_eq ?_
    simp [Machine.wordOf_toNat]
    omega
  rw [wordBytes, hhigh, hlow]

end Sys2Proof

namespace Sys2Proof.Machine

namespace Slot

/-- The first byte of a slot: its four marks and its status. -/
def markByte (d : Slot) : Byte := bit d.valid ++ bit d.endMark ++ bit d.notify ++ bit d.hold ++ d.status

theorem bytes_eq (d : Slot) :
    d.bytes =
      d.markByte :: (wordBytes (d.offset.zeroExtend 16) ++ wordBytes (d.length.zeroExtend 16)
        ++ wordBytes (d.count.zeroExtend 16) ++ [d.msgNo]) := rfl

theorem markByte_status (d : Slot) : d.markByte.extractLsb' 0 4 = d.status := BitVec.extractLsb'_append_eq_right

theorem markByte_marks (d : Slot) :
    d.markByte.getLsbD 7 = d.valid ∧ d.markByte.getLsbD 6 = d.endMark ∧ d.markByte.getLsbD 5 = d.notify
      ∧ d.markByte.getLsbD 4 = d.hold := by
  have hbits : ∀ (v e n h : Bool) (st : BitVec 4),
      (bit v ++ bit e ++ bit n ++ bit h ++ st).getLsbD 7 = v ∧ (bit v ++ bit e ++ bit n ++ bit h ++ st).getLsbD 6 = e
        ∧ (bit v ++ bit e ++ bit n ++ bit h ++ st).getLsbD 5 = n
        ∧ (bit v ++ bit e ++ bit n ++ bit h ++ st).getLsbD 4 = h := by decide +kernel
  exact hbits d.valid d.endMark d.notify d.hold d.status

/-- The eight bytes of a slot say the whole slot. -/
theorem ofBytes_bytes (d : Slot) : ofBytes d.bytes = some d := by
  obtain ⟨hvalid, hend, hnotify, hhold⟩ := d.markByte_marks
  simp only [bytes_eq, wordBytes, List.cons_append, List.nil_append, ofBytes, hvalid, hend, hnotify, hhold, markByte_status,
    wordOf_low_field]

/-- Fewer or more than eight bytes say no slot (R59). -/
theorem ofBytes_partial {bytes : List Byte} (h : bytes.length ≠ 8) : ofBytes bytes = none := by
  unfold ofBytes
  split
  · simp at h
  · rfl

/-- The slot that eight bytes write reads back as those bytes, the upper bits of its three fields as 0 (R179). -/
theorem bytes_ofBytes (b0 o1 o0 l1 l0 c1 c0 n : Byte) :
    ∃ d, ofBytes [b0, o1, o0, l1, l0, c1, c0, n] = some d
      ∧ d.bytes = [b0, o1 &&& 0x0F, o0, l1 &&& 0x0F, l0, c1 &&& 0x0F, c0, n] := by
  have hmarks : ∀ b : Byte,
      bit (b.getLsbD 7) ++ bit (b.getLsbD 6) ++ bit (b.getLsbD 5) ++ bit (b.getLsbD 4) ++ b.extractLsb' 0 4 = b := by
    decide +kernel
  refine ⟨_, rfl, ?_⟩
  rw [bytes_eq, markByte, wordBytes_low_field, wordBytes_low_field, wordBytes_low_field, hmarks]
  rfl

end Slot

/-! ### Transactions of the Descriptor Table (R59, R179) -/

theorem slotOf_eq (index : Byte) : slotOf index = Fin.ofNat 64 index.toNat := by
  simpa using slotOf_add index 0

/-- Fewer than eight bytes give no command. -/
theorem descriptorWrites_partial {index : Byte} {rest : List Byte} (h : rest.length < 8) : descriptorWrites index rest = [] := by
  unfold descriptorWrites
  split
  · simp only [List.length_cons] at h
    omega
  · rfl

namespace State

theorem writeSlot_whole {s : State} {bytes : List Byte} {d : Slot} (h : Slot.ofBytes bytes = some d) (i : SlotId) :
    s.writeSlot i bytes = s.modSlot i fun _ => d := by
  rw [writeSlot, h]

theorem writeSlot_partial {s : State} {bytes : List Byte} (h : bytes.length ≠ 8) (i : SlotId) : s.writeSlot i bytes = s := by
  rw [writeSlot, Slot.ofBytes_partial h]

theorem exec_descriptorWrite {s : State} (h : s.hostOpen = true) (index : Byte) (bytes : List Byte) :
    exec (.descriptorWrite index bytes) s = .next (s.accessed.writeSlot (Fin.ofNat 64 index.toNat) bytes) := by
  rw [← slotOf_eq]
  exact congrArg Host.Outcome.next (access_open h _)

end State

/-- Settles O28: eight bytes say a slot and read back (`Slot.bytes_ofBytes`), and another number of bytes says none. -/
theorem descriptorWriteReplacesTheSlot : Obligations.DescriptorWriteReplacesTheSlot := by
  refine ⟨fun s index b0 o1 o0 l1 l0 c1 c0 n h => ?whole, fun s index bytes h hlen => ?short, ?slots,
    fun index rest hlen => ?rest, Slot.ofBytes_bytes⟩
  case whole =>
    obtain ⟨d, hd, hbytes⟩ := Slot.bytes_ofBytes b0 o1 o0 l1 l0 c1 c0 n
    refine ⟨s.accessed.modSlot (Fin.ofNat 64 index.toNat) fun _ => d, ?_, ?_,
      fun i hi => State.modSlot_slot_ne s.accessed _ hi, rfl⟩
    · rw [State.exec_descriptorWrite h, State.writeSlot_whole hd]
    · rw [State.modSlot_slot_same, hbytes]
  case short => rw [State.exec_descriptorWrite h, State.writeSlot_partial hlen]
  case slots => exact fun index b0 b1 b2 b3 b4 b5 b6 b7 rest => rfl
  case rest => exact congrArg (· ++ [Instr.transactionEnd]) (descriptorWrites_partial hlen)

end Sys2Proof.Machine

/-! PROOFS. The clearing of DONE (R73, R182), which releases a channel in HOLDING. -/

namespace Sys2Proof.Machine

theorem ChanFlags.clearBits_done (f : ChanFlags) : f.clearBits 1 = { f with done := false } := by
  simp [clearBits]

namespace State

/-! ### The release of a channel (R73) -/

theorem release_idle {s : State} {c : ChanId} (h : (s.ctx c).state ≠ .holding) : s.release c = s := if_neg h

theorem release_taking {s : State} {c : ChanId} (h : (s.ctx c).state = .holding) (hk : (s.cfg c).kind.sends = false) :
    s.release c = s.modCtx c fun x => { x with state := .running } := by
  rw [release, if_pos h, hk]
  rfl

theorem release_sending {s : State} {c : ChanId} (h : (s.ctx c).state = .holding) (hk : (s.cfg c).kind.sends = true) :
    s.release c = ((s.modCtx c fun x => { x with state := .running }).fetch c).look c := by
  rw [release, if_pos h, hk]
  rfl

/-- The part with a byte access begun and the DONE flag of a channel cleared, its release apart (R182). -/
def doneCleared (s : State) (c : ChanId) : State := s.accessed.modChanFlags c fun f => { f with done := false }

theorem exec_clearDone {s : State} (h : s.hostOpen = true) (c : ChanId) :
    exec (.clearDone c) s = .next ((s.doneCleared c).release c) := by
  have hclear : s.accessed.clearChannelFlags c 1 = (s.doneCleared c).release c := by
    simp only [clearChannelFlags, ChanFlags.clearBits_done]
    rfl
  rw [← hclear]
  exact congrArg Host.Outcome.next (access_open h _)

end State

/-- Settles O25: by the state of the channel and its kind; a fetch gives what `fetch_gives` says, and the look follows it. -/
theorem clearDoneReleasesAHoldingChannel : Obligations.ClearDoneReleasesAHoldingChannel := by
  intro s c hopen flags
  refine ⟨fun h => ?other, fun h hk => ?taking, fun h hk => ?sending⟩
  all_goals rw [State.exec_clearDone hopen]
  case other => exact congrArg Host.Outcome.next (State.release_idle (s := s.doneCleared c) h)
  case taking => exact congrArg Host.Outcome.next (State.release_taking (s := s.doneCleared c) h hk)
  case sending =>
    let running := (s.doneCleared c).modCtx c fun x => { x with state := .running }
    have hgives := State.fetch_gives running c
    rw [State.modCtx_ctx_same] at hgives
    refine ⟨running.fetch c, hgives.congr ⟨rfl, rfl, rfl⟩ ⟨rfl, rfl, rfl⟩ rfl, ?_⟩
    rw [State.release_sending (s := s.doneCleared c) h hk]
    exact congrArg Host.Outcome.next ((Ringed.modCtx _ c _).trans (Ringed.fetch running c)).look

end Sys2Proof.Machine

/-! PROOFS. What an offer depends on (R79, R80, R120), and what an operation keeps of the invariants of the offers, the latch and the
TAKE channels: a relation that composes, with the channels whose look is still to come left out. -/

namespace Sys2Proof.Machine

/-! ### What an offer depends on (R79, R80, R120) -/

/-- A context that the offer conditions read as another: state, and which timers run. -/
structure Context.ReadAs (y x : Context) : Prop where
  state : y.state = x.state
  backoff : y.backoff.isNone = x.backoff.isNone
  pacing : y.pacing.isNone = x.pacing.isNone

theorem Context.ReadAs.of_eq {x y : Context} (h : y = x) : y.ReadAs x := by
  subst h
  exact ⟨rfl, rfl, rfl⟩

/-- What only a TAKE channel holds: its acceptance record and its current descriptor (R97). -/
def Context.held (x : Context) : Option Acceptance × Option SlotCopy := (x.acceptance, x.current)

/-- An entry that the presence gate reads as another (R80). -/
theorem gateOf_congr {e f : Entry} (hstate : f.state = e.state) (htried : f.wakeTried = e.wakeTried) (settling : Bool) :
    gateOf f settling = gateOf e settling := by
  rw [gateOf, hstate, htried, ← gateOf]

/-- The wake-settle timer bears on WAKING entries alone (R80, R136). -/
theorem gateOf_settle {e : Entry} (h : e.state ≠ .waking) (b b' : Bool) : gateOf e b = gateOf e b' := by
  unfold gateOf
  cases he : e.state with
  | waking => exact absurd he h
  | present | asleep | self | absent => rfl

namespace State

/-- A channel holds an offer exactly when its conditions hold (R79, R120). -/
def OfferExact (s : State) (c : ChanId) : Prop := s.arb.offers.get c = s.mayOffer c

/-- In SETUP every channel stands in STOPPED (R45). -/
def StoppedInSetup (s : State) : Prop := s.mc.mode = .setup → ∀ c, (s.ctx c).state = .stopped

theorem offersExact_iff (s : State) : s.OffersExact ↔ (∀ c, s.OfferExact c) ∧ s.StoppedInSetup := Iff.rfl

theorem takingExact_iff (s : State) :
    s.TakingExact ↔ ∀ c, (s.cfg c).kind ≠ .take ∨ s.mc.mode = .setup → (s.ctx c).held = (none, none) := by
  simp only [TakingExact, Context.held, Prod.mk.injEq]

theorem ownsLatch_congr {s t : State} (h : t.arb.latch = s.arb.latch) (c : ChanId) : t.ownsLatch c = s.ownsLatch c := by
  rw [ownsLatch, h, ← ownsLatch]

/-- The gate of a channel follows from what it reads of its peer's entry (R80). -/
theorem gate_congr {s t : State} {c : ChanId} (hcfg : t.cfg c = s.cfg c)
    (h : ∀ a, stationOf (s.cfg c).peerStation = some a →
      gateOf (t.entry a) t.presence.settle.isSome = gateOf (s.entry a) s.presence.settle.isSome) :
    t.gate c = s.gate c := by
  unfold gate entryOf
  rw [hcfg]
  cases ha : stationOf (s.cfg c).peerStation with
  | none => rfl
  | some a => exact h a ha

/-- All that an offer depends on. -/
theorem mayOffer_congr {s t : State} {c : ChanId} (hcfg : t.cfg c = s.cfg c) (hctx : (t.ctx c).ReadAs (s.ctx c))
    (howns : t.ownsLatch c = s.ownsLatch c) (hgate : (s.cfg c).kind = .send → t.gate c = s.gate c) :
    t.mayOffer c = s.mayOffer c := by
  obtain ⟨hstate, hbackoff, hpacing⟩ := hctx
  unfold mayOffer
  rw [hcfg]
  split
  case h_1 hk => simp only [sendReady, hstate, howns, hbackoff, hpacing, hgate hk]
  case h_2 => simp only [publishReady, hstate, howns, hpacing]
  all_goals rfl

/-- TAKE, SUBSCRIBE and OFF channels hold no offer (R79, R120). -/
theorem mayOffer_taking {s : State} {c : ChanId} (hk : (s.cfg c).kind.sends = false) : s.mayOffer c = false := by
  unfold mayOffer
  split
  case h_1 h | h_2 h => simp [h, Kind.sends] at hk
  all_goals rfl

/-- Nor does a channel that is neither OPENING nor RUNNING. -/
theorem mayOffer_idle {s : State} {c : ChanId} (h1 : (s.ctx c).state ≠ .opening) (h2 : (s.ctx c).state ≠ .running) :
    s.mayOffer c = false := by
  unfold mayOffer
  split
  · simp [sendReady, h1, h2]
  · simp [publishReady, h2]
  all_goals rfl

theorem offerExact_idle {s : State} {c : ChanId} (h1 : (s.ctx c).state ≠ .opening) (h2 : (s.ctx c).state ≠ .running) :
    s.OfferExact c ↔ s.arb.offers.get c = false := by
  rw [OfferExact, mayOffer_idle h1 h2]

theorem offerExact_stopped {s : State} {c : ChanId} (h : (s.ctx c).state = .stopped) :
    s.OfferExact c ↔ s.arb.offers.get c = false :=
  offerExact_idle (by rw [h]; nofun) (by rw [h]; nofun)

/-- Nor the owner of the latched attempt. -/
theorem mayOffer_owner {s : State} {c : ChanId} (h : s.ownsLatch c = true) : s.mayOffer c = false := by
  unfold mayOffer
  split
  · simp [sendReady, h]
  · simp [publishReady, h]
  all_goals rfl

theorem mayOffer_look (s : State) (c d : ChanId) : (s.look c).mayOffer d = s.mayOffer d := rfl

end State

/-! ### What an operation keeps -/

/-- From `s` to `t` the form of the latched attempt is kept, so is what TAKE channels alone hold, and, where both hold, the offer of
every channel but those that are still to look. -/
structure KeepsBut (p : ChanId → Prop) (s t : State) : Prop where
  formed : s.LatchFormed → t.LatchFormed
  taking : s.TakingExact → t.TakingExact
  stopped : s.TakingExact → s.StoppedInSetup → t.StoppedInSetup
  offers : s.LatchFormed → s.TakingExact → s.StoppedInSetup → ∀ c, ¬ p c → s.OfferExact c → t.OfferExact c

/-- An operation after which no channel is still to look. -/
abbrev Keeps (s t : State) : Prop := KeepsBut (fun _ => False) s t

namespace KeepsBut

variable {p q : ChanId → Prop} {s t u : State} {c : ChanId}

theorem refl (p : ChanId → Prop) (s : State) : KeepsBut p s s := ⟨id, id, fun _ => id, fun _ _ _ _ _ => id⟩

theorem trans (h : KeepsBut p s t) (k : KeepsBut p t u) : KeepsBut p s u :=
  ⟨k.formed ∘ h.formed, k.taking ∘ h.taking, fun ht hs => k.stopped (h.taking ht) (h.stopped ht hs),
    fun hl ht hs c hc => k.offers (h.formed hl) (h.taking ht) (h.stopped ht hs) c hc ∘ h.offers hl ht hs c hc⟩

/-- More channels may be still to look. -/
theorem mono (h : KeepsBut p s t) (hpq : ∀ c, p c → q c) : KeepsBut q s t :=
  { h with offers := fun hl ht hs c hc => h.offers hl ht hs c (hc ∘ hpq c) }

/-- An operation after which no channel is still to look, among others. -/
theorem but (h : Keeps s t) : KeepsBut p s t := h.mono fun _ => False.elim

/-- What an operation keeps, from what it does to the configuration, the latch, the mode, and channel by channel. -/
theorem of_channels (hconfigs : t.configs = s.configs) (hlatch : t.arb.latch = s.arb.latch)
    (hmode : t.mc.mode = .setup → s.mc.mode = .setup)
    (hheld : ∀ c, (s.cfg c).kind ≠ .take ∨ s.mc.mode = .setup → (s.ctx c).held = (none, none) → (t.ctx c).held = (none, none))
    (hstop : ∀ c, s.mc.mode = .setup → (s.ctx c).state = .stopped → (t.ctx c).state = .stopped)
    (hoffer : ∀ c, ¬ p c → t.arb.offers.get c = s.arb.offers.get c ∧ t.mayOffer c = s.mayOffer c) : KeepsBut p s t := by
  have hcfg : ∀ c, t.cfg c = s.cfg c := fun c => by rw [State.cfg, hconfigs, ← State.cfg]
  refine ⟨fun hl => ?formed, fun ht => ?taking, fun _ hs hm c => hstop c (hmode hm) (hs (hmode hm) c),
    fun _ _ _ c hc ho => ?offers⟩
  case formed => rwa [State.LatchFormed, hlatch]
  case taking =>
    rw [State.takingExact_iff] at ht ⊢
    intro c hc
    rw [hcfg] at hc
    have hc := hc.imp_right hmode
    exact hheld c hc (ht c hc)
  case offers =>
    obtain ⟨hsame, hmay⟩ := hoffer c hc
    rw [State.OfferExact, hsame, hmay]
    exact ho

/-- The look of a channel (R79 to R81, R120). -/
theorem look (h : KeepsBut (· = c) s t) : Keeps s (t.look c) := by
  refine ⟨h.formed, h.taking, h.stopped, fun hl ht hs d _ ho => ?_⟩
  rw [State.OfferExact, State.look_arb, State.mayOffer_look, Table.get_set]
  split
  case isTrue hd => rw [hd]
  case isFalse hd => exact h.offers hl ht hs d hd ho

/-- The one channel that is still to look has its offer exact already. -/
theorem settled (h : KeepsBut (· = c) s t) (ho : t.OfferExact c) : Keeps s t := by
  refine { h with offers := fun hl ht hs d _ hd => ?_ }
  by_cases hdc : d = c
  · subst hdc
    exact ho
  · exact h.offers hl ht hs d hdc hd

end KeepsBut

/-! ### Operations that leave every offer and what it depends on -/

/-- What the invariants read of a part, the mode apart. -/
def State.offerView (s : State) :
    Table 16 ChanConfig × Table 16 Context × PresenceTable × Option Attempt × Table 16 Bool :=
  (s.configs, s.contexts, s.presence, s.arb.latch, s.arb.offers)

namespace Keeps

variable {s t u : State} {c : ChanId}

theorem refl (s : State) : Keeps s s := KeepsBut.refl _ s

theorem trans (h : Keeps s t) (k : Keeps t u) : Keeps s u := KeepsBut.trans h k

/-- An operation that leaves what the invariants read, and does not enter SETUP. -/
theorem of_view (h : t.offerView = s.offerView) (hmode : t.mc.mode = .setup → s.mc.mode = .setup) : Keeps s t := by
  simp only [State.offerView, Prod.mk.injEq] at h
  obtain ⟨hconfigs, hcontexts, hpresence, hlatch, hoffers⟩ := h
  have hctx : ∀ c, t.ctx c = s.ctx c := fun c => by rw [State.ctx, hcontexts, ← State.ctx]
  have hcfg : ∀ c, t.cfg c = s.cfg c := fun c => by rw [State.cfg, hconfigs, ← State.cfg]
  refine .of_channels hconfigs hlatch hmode (fun c _ => by rw [hctx]; exact id) (fun c _ => by rw [hctx]; exact id)
    fun c _ => ⟨by rw [hoffers], ?_⟩
  refine State.mayOffer_congr (hcfg c) (.of_eq (hctx c)) (State.ownsLatch_congr hlatch c) fun _ => ?_
  exact State.gate_congr (hcfg c) fun a _ => by simp only [State.entry, hpresence]

/-- An operation that leaves what the invariants read, and the mode. -/
theorem of_same (h : t.offerView = s.offerView) (hmode : t.mc.mode = s.mc.mode) : Keeps s t :=
  .of_view h fun hm => hmode ▸ hm

end Keeps

/-! ### Operations of one channel -/

/-- An operation of one channel, which may withdraw its offer: the other contexts, the configuration, the Presence Table, the mode
and the rest of the Station Arbiter are as before. -/
structure Turn (s t : State) (c : ChanId) : Prop where
  ctx : ∀ d, d ≠ c → t.ctx d = s.ctx d
  configs : t.configs = s.configs
  presence : t.presence = s.presence
  mode : t.mc.mode = s.mc.mode
  arb : t.arb = s.arb ∨ t.arb = { s.arb with offers := s.arb.offers.set c false }

namespace Turn

variable {s t u : State} {c : ChanId}

theorem of_ringed (h : Ringed s t c) : Turn s t c := by
  obtain ⟨x, w, f, a, ha, rfl⟩ := h
  exact ⟨fun d hd => Table.get_set_ne _ _ hd, rfl, rfl, rfl, ha⟩

theorem modCtx (s : State) (c : ChanId) (f : Context → Context) : Turn s (s.modCtx c f) c := .of_ringed (.modCtx s c f)

theorem trans (h : Turn s t c) (k : Turn t u c) : Turn s u c := by
  refine ⟨fun d hd => (k.ctx d hd).trans (h.ctx d hd), k.configs.trans h.configs, k.presence.trans h.presence,
    k.mode.trans h.mode, ?_⟩
  obtain h | h := h.arb <;> obtain k | k := k.arb <;> rw [k, h] <;> simp

theorem latch (h : Turn s t c) : t.arb.latch = s.arb.latch := by
  obtain h | h := h.arb <;> rw [h]

/-- After a turn the channel alone is still to look, if it holds no more than before and, in SETUP, stays in STOPPED. -/
theorem keepsBut (h : Turn s t c)
    (hheld : (s.cfg c).kind ≠ .take ∨ s.mc.mode = .setup → (t.ctx c).held = (s.ctx c).held)
    (hstop : s.mc.mode = .setup → (s.ctx c).state = .stopped → (t.ctx c).state = .stopped) : KeepsBut (· = c) s t := by
  have hcfg : ∀ d, t.cfg d = s.cfg d := fun d => by rw [State.cfg, h.configs, ← State.cfg]
  refine .of_channels h.configs h.latch (fun hm => h.mode ▸ hm) (fun d hd => ?held) (fun d hm => ?stop) fun d hd => ⟨?offer, ?may⟩
  case held =>
    by_cases hdc : d = c
    · subst hdc
      rw [hheld hd]
      exact id
    · rw [h.ctx d hdc]
      exact id
  case stop =>
    by_cases hdc : d = c
    · subst hdc
      exact hstop hm
    · rw [h.ctx d hdc]
      exact id
  case offer =>
    obtain ha | ha := h.arb
    · rw [ha]
    · rw [ha]
      exact Table.get_set_ne _ _ hd
  case may =>
    refine State.mayOffer_congr (hcfg d) (.of_eq (h.ctx d hd)) (State.ownsLatch_congr h.latch d) fun _ => ?_
    exact State.gate_congr (hcfg d) fun a _ => by simp only [State.entry, h.presence]

/-- A turn of a TAKE, SUBSCRIBE or OFF channel: it holds no offer before or after. -/
theorem keeps_taking (h : Turn s t c) (hk : (s.cfg c).kind.sends = false)
    (hheld : (s.cfg c).kind ≠ .take ∨ s.mc.mode = .setup → (t.ctx c).held = (s.ctx c).held)
    (hstop : s.mc.mode = .setup → (s.ctx c).state = .stopped → (t.ctx c).state = .stopped) : Keeps s t := by
  have hkeeps := h.keepsBut hheld hstop
  have hk' : (t.cfg c).kind.sends = false := by rw [State.cfg, h.configs]; exact hk
  refine { hkeeps with offers := fun hl ht hs d _ hd => ?_ }
  by_cases hdc : d = c
  · subst hdc
    rw [State.OfferExact, State.mayOffer_taking hk] at hd
    rw [State.OfferExact, State.mayOffer_taking hk']
    obtain ha | ha := h.arb
    · rw [ha, hd]
    · rw [ha]
      exact Table.get_set_same _ _ _
  · exact hkeeps.offers hl ht hs d hdc hd

/-- A turn of a TAKE channel outside SETUP. -/
theorem keeps_take (h : Turn s t c) (hk : (s.cfg c).kind = .take) (hm : s.mc.mode ≠ .setup) : Keeps s t :=
  h.keeps_taking (by rw [hk]; rfl) (fun hno => hno.elim (absurd hk) (absurd · hm)) fun hs => absurd hs hm

end Turn

namespace KeepsBut

variable {s t : State} {c : ChanId}

/-- One context changed, in fields that only a sending channel moves. -/
theorem modCtx {f : Context → Context} (hheld : (f (s.ctx c)).held = (s.ctx c).held)
    (hstop : s.mc.mode = .setup → (s.ctx c).state = .stopped → (f (s.ctx c)).state = .stopped) :
    KeepsBut (· = c) s (s.modCtx c f) :=
  (Turn.modCtx s c f).keepsBut (fun _ => by rw [State.modCtx_ctx_same]; exact hheld) fun hm hs => by
    rw [State.modCtx_ctx_same]
    exact hstop hm hs

/-- A channel enters HALTED, which withdraws its offer (R47). -/
theorem enterHalted (h : KeepsBut (· = c) s t) (hm : t.mc.mode ≠ .setup) (cause : HaltCause) : Keeps s (t.enterHalted c cause) := by
  have hturn : Turn t (t.enterHalted c cause) c := .of_ringed (.enterHalted t c cause)
  have hkeeps := h.trans (hturn.keepsBut (fun _ => by simp [Context.held]) fun hs => absurd hs hm)
  exact hkeeps.settled ((State.offerExact_idle (by simp) (by simp)).2 (by simp))

end KeepsBut

/-- One context changed in fields that no offer depends on. -/
theorem Keeps.modCtx {s : State} {c : ChanId} {f : Context → Context} (hheld : (f (s.ctx c)).held = (s.ctx c).held)
    (hread : (f (s.ctx c)).ReadAs (s.ctx c)) : Keeps s (s.modCtx c f) := by
  have hkeeps : KeepsBut (· = c) s (s.modCtx c f) := .modCtx hheld fun _ hs => hread.state.trans hs
  have hmay : (s.modCtx c f).mayOffer c = s.mayOffer c :=
    State.mayOffer_congr rfl (by rw [State.modCtx_ctx_same]; exact hread) rfl fun _ => rfl
  refine { hkeeps with offers := fun hl ht hs d _ hd => ?_ }
  by_cases hdc : d = c
  · subst hdc
    exact hd.trans hmay.symm
  · exact hkeeps.offers hl ht hs d hdc hd

end Sys2Proof.Machine

/-! PROOFS. Offers under the Presence Table (R80, R81, R130 to R138): whoever an entry's change concerns looks again. -/

namespace Sys2Proof.Machine

namespace State

/-! ### Looks of several channels (R81) -/

theorem lookWhere_mayOffer (s : State) (p : ChanId → Bool) (c : ChanId) : (s.lookWhere p).mayOffer c = s.mayOffer c := by
  refine mayOffer_congr (lookWhere_cfg s p c) (.of_eq (lookWhere_ctx s p c)) (ownsLatch_congr (lookWhere_latch s p) c) fun _ => ?_
  exact gate_congr (lookWhere_cfg s p c) fun a _ => by rw [lookWhere_entry, lookWhere_presence]

/-- The channels named look; the others keep their offers. -/
theorem lookWhere_offers (s : State) (p : ChanId → Bool) (c : ChanId) :
    (s.lookWhere p).arb.offers.get c = if p c = true then s.mayOffer c else s.arb.offers.get c := by
  have hlist : ∀ (l : List ChanId) (t : State), (∀ d, t.mayOffer d = s.mayOffer d) →
      (l.foldl (fun (u : State) d => if p d then u.look d else u) t).arb.offers.get c =
        if c ∈ l ∧ p c = true then s.mayOffer c else t.arb.offers.get c := by
    intro l
    induction l with
    | nil => exact fun t _ => by simp
    | cons d l ih =>
      intro t ht
      rw [List.foldl_cons]
      split
      case isTrue hd =>
        rw [ih (t.look d) ht, look_arb, Table.get_set, ht]
        by_cases hcd : c = d
        · subst hcd
          simp [hd]
        · simp [hcd]
      case isFalse hd =>
        rw [ih t ht]
        by_cases hcd : c = d
        · subst hcd
          simp [hd]
        · simp [hcd]
  exact (hlist chanList s fun _ => rfl).trans (by simp [chanList])

/-- A SEND channel's peer is read through its entry alone. -/
theorem sendPeer_of {s : State} {c : ChanId} {a : Station} (hk : (s.cfg c).kind = .send)
    (ha : stationOf (s.cfg c).peerStation = some a) (q : Station → Bool) : s.sendPeer c q = q a := by
  simp [sendPeer, hk, ha]

/-- The part with its wake-settle timer at a value (R136). -/
def withSettle (s : State) (n : Option Nat) : State := { s with presence := { s.presence with settle := n } }

theorem withSettle_entry (s : State) (n : Option Nat) (a : Station) : (s.withSettle n).entry a = s.entry a := rfl

theorem sendPeer_mono {s t : State} {c : ChanId} {q r : Station → Bool} (hcfg : t.cfg c = s.cfg c)
    (h : ∀ a, q a = true → r a = true) (hq : s.sendPeer c q = true) : t.sendPeer c r = true := by
  unfold sendPeer at hq ⊢
  rw [hcfg]
  cases ha : stationOf (s.cfg c).peerStation with
  | none => simp [ha] at hq
  | some a =>
    simp only [ha, Bool.and_eq_true] at hq ⊢
    exact ⟨hq.1, h a hq.2⟩

end State

namespace KeepsBut

variable {p : ChanId → Prop} {s t : State}

/-- The channels named look, and none is still to look. -/
theorem lookWhere {q : ChanId → Bool} (h : KeepsBut p s t) (hpq : ∀ c, p c → q c = true) : Keeps s (t.lookWhere q) := by
  refine ⟨fun hl => ?_, fun ht => ?_, fun ht hs => ?_, fun hl ht hs c _ hc => ?_⟩
  · rw [State.LatchFormed, State.lookWhere_latch]
    exact h.formed hl
  · simpa [State.TakingExact] using h.taking ht
  · simpa [State.StoppedInSetup] using h.stopped ht hs
  · rw [State.OfferExact, State.lookWhere_offers, State.lookWhere_mayOffer]
    split
    case isTrue => rfl
    case isFalse hq => exact h.offers hl ht hs c (fun hp => hq (hpq c hp)) hc

/-- A change of the Presence Table leaves to look the SEND channels whose peer's entry the gate may read differently (R80). -/
theorem of_presence {q : Station → Bool} (hconfigs : t.configs = s.configs) (hcontexts : t.contexts = s.contexts)
    (harb : t.arb = s.arb) (hmode : t.mc = s.mc)
    (hq : ∀ a, q a = false →
      gateOf (t.entry a) t.presence.settle.isSome = gateOf (s.entry a) s.presence.settle.isSome) :
    KeepsBut (fun c => s.sendPeer c q = true) s t := by
  have hctx : ∀ c, t.ctx c = s.ctx c := fun c => by rw [State.ctx, hcontexts, ← State.ctx]
  have hcfg : ∀ c, t.cfg c = s.cfg c := fun c => by rw [State.cfg, hconfigs, ← State.cfg]
  refine .of_channels hconfigs (by rw [harb]) (fun hm => hmode ▸ hm) (fun c _ => by rw [hctx]; exact id)
    (fun c _ => by rw [hctx]; exact id) fun c hc => ⟨by rw [harb], ?_⟩
  refine State.mayOffer_congr (hcfg c) (.of_eq (hctx c)) (State.ownsLatch_congr (by rw [harb]) c) fun hk => ?_
  refine State.gate_congr (hcfg c) fun a ha => hq a ?_
  simpa [State.sendPeer_of hk ha] using hc

/-- The wake-settle timer changed: the SEND channels toward WAKING peers are still to look (R136). -/
theorem settle (s : State) (n : Option Nat) :
    KeepsBut (fun c => (s.sendPeer c fun a => (s.entry a).state == .waking) = true) s (s.withSettle n) :=
  .of_presence rfl rfl rfl rfl fun a ha => gateOf_settle (e := s.entry a) (by simpa using ha) _ _

/-- The entries replaced, and whoever that concerns looking again (R81, R139). -/
theorem replaceEntries (h : KeepsBut p s t) (new : Table 31 Entry)
    (hp : ∀ c, p c → (t.sendPeer c fun a => (t.entry a).changed (new.get a)) = true) : Keeps s (t.replaceEntries new) := by
  have hentries : KeepsBut (fun c => (t.sendPeer c fun a => (t.entry a).changed (new.get a)) = true) t (t.withEntries new) := by
    refine .of_presence rfl rfl rfl rfl fun a ha => ?_
    simp only [Entry.changed, Bool.or_eq_false_iff, bne_eq_false_iff_eq] at ha
    exact gateOf_congr ha.1.symm ha.2.symm _
  exact ((h.mono hp).trans hentries).lookWhere fun _ => id

end KeepsBut

namespace Keeps

theorem replaceEntries (s : State) (new : Table 31 Entry) : Keeps s (s.replaceEntries new) :=
  KeepsBut.replaceEntries (KeepsBut.refl (fun _ => False) s) new fun _ => False.elim

theorem updateEntries (s : State) (f : Station → Entry → Entry) : Keeps s (s.updateEntries f) := .replaceEntries s _

theorem updateEntry (s : State) (a : Station) (f : Entry → Entry) : Keeps s (s.updateEntry a f) := .updateEntries s _

theorem presenceHears (s : State) (f : Frame) : Keeps s (s.presenceHears f) := by
  unfold State.presenceHears
  split
  · exact .refl s
  · split
    · exact .updateEntry s _ _
    · exact .updateEntries s _
    all_goals exact .updateEntry s _ _

theorem destinationHeard (s : State) : Keeps s s.destinationHeard := by
  unfold State.destinationHeard
  split
  · split
    · exact .updateEntry s _ _
    · exact .refl s
  · exact .refl s

theorem presenceExhausted (s : State) (peer : BitVec 5) : Keeps s (s.presenceExhausted peer) := by
  unfold State.presenceExhausted
  split
  · exact .updateEntry s _ _
  · exact .refl s

/-- The wake-settle timer runs out: whoever it held back looks (R136). -/
theorem settleExpired (s : State) : Keeps s s.settleExpired := by
  unfold State.settleExpired
  split
  · exact (KeepsBut.settle s none).lookWhere fun _ => id
  · exact .refl s

/-- A wake pulse leaves a WAKING entry WAKING, so the channels that the settle timer concerns look at the end (R135, R136). -/
theorem presencePulse (s : State) : Keeps s s.presencePulse := by
  have hpulse : s.presencePulse =
      ((s.withSettle (startTimer s.station.settleMs)).updateEntries fun _ e => e.pulsed).lookWaking := rfl
  have hkeeps := (KeepsBut.settle s (startTimer s.station.settleMs)).trans
    (Keeps.updateEntries _ fun _ e => e.pulsed).but
  rw [hpulse]
  refine hkeeps.lookWhere fun c hc => State.sendPeer_mono (State.updateEntries_cfg _ _ c) (fun a ha => ?_) hc
  have hwaking : (s.entry a).state = .waking := by simpa using ha
  have hpulsed : (s.entry a).pulsed = s.entry a := Entry.pulsed_other (by rw [hwaking]; nofun) (by rw [hwaking]; nofun)
  simp [State.updateEntries_entry, State.withSettle_entry, hpulsed, hwaking]

/-- The table cleared: a WAKING entry changes, so the channels that the settle timer concerns look (R138). -/
theorem presenceClear (s : State) : Keeps s s.presenceClear := by
  have hclear : s.presenceClear = (s.withSettle none).replaceEntries
      ((s.withSettle none).presence.entries.mapIdx fun _ e => if e.state = .self then e else Entry.absent) := rfl
  rw [hclear]
  refine (KeepsBut.settle s none).replaceEntries _ fun c hc => State.sendPeer_mono (t := s.withSettle none) rfl (fun a ha => ?_) hc
  have hwaking : (s.entry a).state = .waking := by simpa using ha
  rw [Table.get_mapIdx, ← State.entry, State.withSettle_entry]
  simp [Entry.changed, hwaking, Entry.absent]

end Keeps

end Sys2Proof.Machine

/-! PROOFS. Offers under the operations of one channel (R47, R51, R62 to R69, R82 to R91, R97 to R128): what each does with the
acceptance record and the current descriptor, and that the look comes last. -/

namespace Sys2Proof.Machine

namespace State

/-! ### Walks leave what a TAKE channel holds (R62 to R67, R69) -/

theorem fetchTooLong_held (s : State) (c : ChanId) : ((s.fetchTooLong c).ctx c).held = (s.ctx c).held := by
  simp [fetchTooLong, Context.held, Context.dropMessage]

theorem fetchBadRange_held (s : State) (c : ChanId) : ((s.fetchBadRange c).ctx c).held = (s.ctx c).held := by
  simp [fetchBadRange, Context.held, Context.dropMessage]

theorem fetchDry_held (s : State) (c : ChanId) : ((s.fetchDry c).ctx c).held = (s.ctx c).held := by
  unfold fetchDry
  split <;> simp [Context.held]

theorem fetchLoop_held (c : ChanId) (n : Nat) (s : State) : ((s.fetchLoop c n).ctx c).held = (s.ctx c).held := by
  induction n generalizing s with
  | zero => rfl
  | succ n ih =>
    unfold fetchLoop
    dsimp only
    split
    · simp [fetchMet, Context.held]
    split
    · exact s.fetchTooLong_held c
    split
    · exact s.fetchDry_held c
    split
    · exact s.fetchBadRange_held c
    split
    · exact (fetchTooLong_held _ c).trans (by simp [Context.held])
    · exact (ih _).trans (by simp [Context.held])

theorem fetch_held (s : State) (c : ChanId) : ((s.fetch c).ctx c).held = (s.ctx c).held := by
  unfold fetch
  split
  · rfl
  · exact fetchLoop_held c 65 s

theorem completeMessage_held (s : State) (c : ChanId) : ((s.completeMessage c).ctx c).held = (s.ctx c).held := by
  unfold completeMessage
  dsimp only
  split
  · exact (fetch_held _ c).trans (by simp [Context.held])
  · simp [Context.held]

theorem searchLoop_held (c : ChanId) (n : Nat) (s : State) : ((s.searchLoop c n).1.ctx c).held = (s.ctx c).held := by
  induction n generalizing s with
  | zero => rfl
  | succ n ih =>
    unfold searchLoop
    dsimp only
    split
    · rfl
    split
    · rfl
    split
    · simp [stepWalker, Context.held]
    split
    · exact (ih _).trans (by simp [stepWalker, Context.held])
    · rfl

end State

/-! ### Turns of a channel -/

namespace Turn

theorem fetch (s : State) (c : ChanId) : Turn s (s.fetch c) c := .of_ringed (.fetch s c)

theorem completeMessage (s : State) (c : ChanId) : Turn s (s.completeMessage c) c := by
  have hdone (f : Context → Context) :
      Turn s ((s.writeBackList c .done (fun d => d.length.toNat) (s.ctx c).fetched).modCtx c f) c :=
    (of_ringed (.writeBackList c .done (fun d => d.length.toNat) (s.ctx c).fetched s)).trans (.modCtx _ c f)
  unfold State.completeMessage
  dsimp only
  split
  · exact (hdone _).trans (.fetch _ c)
  · exact hdone _

theorem searchLoop (c : ChanId) (n : Nat) (s : State) : Turn s (s.searchLoop c n).1 c := by
  have hstep (st : Status) : Turn s ((s.writeBack c (s.ctx c).walker st 0 (some false)).stepWalker c) c :=
    (of_ringed (.writeBack s c _ st 0 (some false))).trans (.modCtx _ c _)
  induction n generalizing s with
  | zero => exact .of_ringed (.refl s c)
  | succ n ih =>
    unfold State.searchLoop
    dsimp only
    split
    · exact .of_ringed (.refl s c)
    split
    · exact .of_ringed (.refl s c)
    split
    · exact (hstep .badRange).trans (.of_ringed (.enterHalted _ c _))
    split
    · exact (hstep .unfit).trans (ih _ fun st => (of_ringed (.writeBack _ c _ st 0 (some false))).trans (.modCtx _ c _))
    · exact .of_ringed (.refl s c)

theorem search {s t : State} {c : ChanId} {r : Search} (h : s.search c = (t, r)) : Turn s t c := by
  have hturn := searchLoop c (s.cfg c).ringLength.toNat s
  rw [← State.search, h] at hturn
  exact hturn

/-- An operation that touches one channel's context, and neither configuration, Presence Table, mode nor Station Arbiter. -/
theorem of_local {s t : State} {c : ChanId} (h : Local s t c) (hconfigs : t.configs = s.configs)
    (hpresence : t.presence = s.presence) (hmc : t.mc = s.mc) (harb : t.arb = s.arb) : Turn s t c :=
  ⟨h.ctx, hconfigs, hpresence, by rw [hmc], .inl harb⟩

theorem commit (s : State) (c : ChanId) : Turn s (s.commit c) c :=
  .of_local (State.commit_local s c) (by simp) (by simp) (by simp) (by simp)

theorem cut (s : State) (c : ChanId) : Turn s (s.cut c) c :=
  .of_local (State.cut_local s c) (by simp) (by simp) (by simp) (by simp)

theorem decideFresh (s : State) (c : ChanId) (f : Frame) (k : Closes) : Turn s (s.decideFresh c f k).1 c := by
  unfold State.decideFresh
  split
  case h_1 h => exact (search h).trans (.of_local (State.accept_local _ c _) rfl rfl rfl rfl)
  case h_2 h => exact (search h).trans (.of_local (State.lackOfSpace_local _ c) (by simp) (by simp) (by simp) (by simp))
  case h_3 h => exact search h

theorem decide (s : State) (c : ChanId) (f : Frame) : Turn s (s.decide c f).1 c := by
  have stays : Turn s s c := .of_ringed (.refl s c)
  have accepts (form : AcceptForm) : Turn s (s.accept c form).1 c := .of_local (State.accept_local s c form) rfl rfl rfl rfl
  have hdata : Turn s (s.decideData c f).1 c := by
    unfold State.decideData
    dsimp only
    split
    · exact decideFresh s c f _
    split
    · exact stays
    split
    · exact accepts _
    · exact decideFresh s c f _
  unfold State.decide
  dsimp only
  split
  · exact stays
  split
  · exact stays
  split
  case h_5 =>
    split
    · exact accepts _
    · exact stays
  case h_6 =>
    split
    · exact accepts _
    split
    · exact accepts _
    · exact hdata
  all_goals exact stays

theorem subscribed (s : State) (c : ChanId) (f : Frame) : Turn s (s.subscribed c f) c := by
  have drops (t : State) : Turn t (t.dropFrame c) c := .of_local (State.dropFrame_local t c) rfl rfl rfl rfl
  unfold State.subscribed
  split
  · exact .of_ringed (.refl s c)
  split
  · exact drops s
  split
  case h_1 h => exact (search h).trans (.of_local (State.storePublished_local _ c _ _) (by simp) (by simp) (by simp) (by simp))
  case h_2 h | h_3 h => exact (search h).trans (drops _)

end Turn

theorem State.subscribed_held (s : State) (c : ChanId) (f : Frame) : ((s.subscribed c f).ctx c).held = (s.ctx c).held := by
  have hsearch {t : State} {r : Search} (h : s.search c = (t, r)) : (t.ctx c).held = (s.ctx c).held := by
    rw [← searchLoop_held c (s.cfg c).ringLength.toNat s, ← State.search, h]
  unfold subscribed
  split
  · rfl
  split
  · simp [dropFrame, Context.held]
  split
  case h_1 h => exact .trans (by simp [storePublished, stepWalker, Context.held]) (hsearch h)
  case h_2 h | h_3 h => exact .trans (by simp [dropFrame, Context.held]) (hsearch h)

/-! ### Taking channels (R97 to R128) -/

namespace Keeps

theorem cut {s : State} {c : ChanId} (hk : (s.cfg c).kind = .take) (hm : s.mc.mode ≠ .setup) : Keeps s (s.cut c) :=
  (Turn.cut s c).keeps_take hk hm

/-- The cuts of a withdrawal (R116). -/
theorem cutAll {s : State} (hm : s.mc.mode ≠ .setup) : Keeps s s.cutAll := by
  unfold State.cutAll State.forChannels
  generalize chanList = l
  induction l generalizing s with
  | nil => exact .refl s
  | cons c l ih =>
    rw [List.foldl_cons]
    split
    case isTrue hk => exact (Keeps.cut hk hm).trans (ih (s := s.cut c) (by rw [State.cut_mc]; exact hm))
    case isFalse => exact ih hm

/-- The commit of a record, which a TAKE channel alone holds (R97, R108). -/
theorem commit (s : State) (c : ChanId) : Keeps s (s.commit c) := by
  have hlatch : (s.commit c).arb = s.arb := by simp
  by_cases ht : s.TakingExact
  · by_cases htake : (s.cfg c).kind = .take ∧ s.mc.mode ≠ .setup
    · exact (Turn.commit s c).keeps_take htake.1 htake.2
    · have hnone : (s.ctx c).acceptance = none := (ht c (by tauto)).1
      have hcommit : s.commit c = s := by simp only [State.commit, hnone]
      rw [hcommit]
      exact .refl s
  · exact ⟨fun hl => by rwa [State.LatchFormed, hlatch], fun h => absurd h ht, fun h => absurd h ht, fun _ h => absurd h ht⟩

/-- The response decision, which a TAKE channel alone makes its own (R98, R99). -/
theorem decide {s : State} (hm : s.mc.mode ≠ .setup) (c : ChanId) (f : Frame) : Keeps s (s.decide c f).1 := by
  by_cases hk : (s.cfg c).kind = .take
  · exact (Turn.decide s c f).keeps_take hk hm
  · have hstays : (s.decide c f).1 = s := by simp [State.decide, hk]
    rw [hstays]
    exact .refl s

/-- A publication at the SUBSCRIBE channel that matches it (R126). -/
theorem publishHeard {s : State} (hm : s.mc.mode ≠ .setup) (f : Frame) : Keeps s (s.publishHeard f) := by
  unfold State.publishHeard
  split
  case h_1 c h =>
    have hmatch : s.matches f c = true := List.find?_some h
    simp only [State.matches, Bool.and_eq_true, beq_iff_eq] at hmatch
    obtain ⟨⟨hk, -⟩, -⟩ := hmatch
    exact (Turn.subscribed s c f).keeps_taking (by rw [hk]; rfl) (fun _ => s.subscribed_held c f) fun hs => absurd hs hm
  case h_2 => exact .refl s

end Keeps

/-! ### Sending channels (R62 to R67, R82 to R91) -/

namespace KeepsBut

theorem fetch {s t : State} {c : ChanId} (h : KeepsBut (· = c) s t) (hm : t.mc.mode ≠ .setup) : KeepsBut (· = c) s (t.fetch c) :=
  h.trans ((Turn.fetch t c).keepsBut (fun _ => t.fetch_held c) fun hs => absurd hs hm)

theorem completeMessage {s t : State} {c : ChanId} (h : KeepsBut (· = c) s t) (hm : t.mc.mode ≠ .setup) :
    KeepsBut (· = c) s (t.completeMessage c) :=
  h.trans ((Turn.completeMessage t c).keepsBut (fun _ => t.completeMessage_held c) fun hs => absurd hs hm)

variable {s : State} {c : ChanId} (hm : s.mc.mode ≠ .setup)

include hm

/-- One context changed outside SETUP. -/
theorem modCtx_out (f : Context → Context) (hheld : (f (s.ctx c)).held = (s.ctx c).held) : KeepsBut (· = c) s (s.modCtx c f) :=
  .modCtx hheld fun hs => absurd hs hm

theorem nakAnswered : KeepsBut (· = c) s (s.nakAnswered c) := by
  unfold State.nakAnswered
  dsimp only
  split
  · exact .modCtx_out hm _ rfl
  split
  · exact .modCtx_out hm _ rfl
  · exact (KeepsBut.enterHalted (.refl _ s) hm _).but

theorem countRetry : KeepsBut (· = c) s (s.countRetry c) := by
  unfold State.countRetry
  split
  · exact .modCtx_out hm _ rfl
  · exact (((KeepsBut.modCtx_out hm _ rfl).trans (Keeps.presenceExhausted _ _).but).look).but

theorem dataAcked (img : Frame) : KeepsBut (· = c) s (s.dataAcked c img) := by
  have hadvance : KeepsBut (· = c) s (s.advance c img) := .modCtx_out hm _ rfl
  unfold State.dataAcked
  dsimp only
  split
  · exact hadvance.completeMessage hm
  · exact hadvance.fetch hm

/-- The outcome of a SEND channel's frame, its look apart (5.3). -/
theorem sendOutcome (img : Frame) (o : AttemptOutcome) : KeepsBut (· = c) s (s.sendOutcome c img o) := by
  unfold State.sendOutcome
  split
  case h_1 =>
    split
    · exact (KeepsBut.modCtx_out hm _ rfl).fetch hm
    · exact .dataAcked hm img
  case h_2 => exact .nakAnswered hm
  case h_3 => exact (KeepsBut.enterHalted (.refl _ s) hm _).but
  case h_4 =>
    split
    · exact .countRetry hm
    · exact .modCtx_out hm _ rfl
  case h_5 | h_6 => exact .countRetry hm
  all_goals exact .refl _ s

theorem publishOutcome (o : AttemptOutcome) : KeepsBut (· = c) s (s.publishOutcome c o) := by
  unfold State.publishOutcome
  split
  · exact (KeepsBut.modCtx_out hm _ rfl).completeMessage hm
  all_goals exact .refl _ s

end KeepsBut

/-- After an outcome the channel halts, or looks (R51, R79). -/
theorem KeepsBut.settleHalt {s t : State} {c : ChanId} (h : KeepsBut (· = c) s t) (hm : t.mc.mode ≠ .setup) :
    Keeps s (t.settleHalt c) := by
  unfold State.settleHalt
  split
  · exact h.enterHalted hm _
  · exact h.look

/-- An outcome at the channel that owned the attempt (R36). -/
theorem KeepsBut.channelOutcome {s t : State} {c : ChanId} (h : KeepsBut (· = c) s t) (hm : t.mc.mode ≠ .setup) (img : Frame)
    (o : AttemptOutcome) : Keeps s (t.channelOutcome c img o) := by
  unfold State.channelOutcome
  dsimp only
  split
  · exact (h.trans (.sendOutcome hm img o)).settleHalt (by rw [State.sendOutcome_mc]; exact hm)
  · exact (h.trans (.publishOutcome hm o)).settleHalt (by rw [State.publishOutcome_mc]; exact hm)
  all_goals exact h.settleHalt hm

end Sys2Proof.Machine

/-! PROOFS. Offers at the ends of attempts (R35, R36) and at the entries to the modes (R148 to R172). -/

namespace Sys2Proof.Machine

theorem Mode.ne_setup_of_listens {m : Mode} (h : m.listens = true) : m ≠ .setup := by
  rintro rfl
  exact absurd h (by decide)

theorem Mode.ne_setup_of_active {m : Mode} (h : m = .active) : m ≠ .setup := by
  subst h
  nofun

/-! ### The latch (R23, R29) -/

/-- With the latch emptied its owner alone is still to look. -/
theorem KeepsBut.unlatched (s : State) : KeepsBut (fun c => s.ownsLatch c = true) s s.unlatched := by
  refine ⟨fun _ _ => nofun, id, fun _ => id, fun _ _ _ c hc ho => ?_⟩
  have hmay : s.unlatched.mayOffer c = s.mayOffer c :=
    State.mayOffer_congr rfl (.of_eq rfl) (by rw [Bool.not_eq_true] at hc; rw [hc]; rfl) fun _ => rfl
  exact ho.trans hmay.symm

namespace Keeps

variable {s : State}

/-- The latch emptied at an attempt that is no channel's. -/
theorem unlatched {a : Attempt} (ha : s.arb.latch = some a) (ho : ∀ c, a.owner ≠ .channel c) : Keeps s s.unlatched :=
  (KeepsBut.unlatched s).mono fun c hc => ho c (by simpa [State.ownsLatch, ha] using hc)

/-- A channel's attempt is a frame (R29), so that no pulse of one leaves its owner without a look. -/
theorem unlatched_pulse {a : Attempt} {c : ChanId} (ha : s.arb.latch = some a) (ho : a.owner = .channel c)
    (hf : a.form = .pulse) : Keeps s s.unlatched :=
  { KeepsBut.unlatched s with
    offers := fun hl => by
      have howner := (hl a ha).1 hf
      rw [ho] at howner
      cases howner }

/-- The end of a channel's frame, with its outcome (R36). -/
theorem channelEnd (hm : s.mc.mode ≠ .setup) {a : Attempt} {c : ChanId} (ha : s.arb.latch = some a)
    (ho : a.owner = .channel c) (img : Frame) (o : AttemptOutcome) : Keeps s (s.unlatched.channelOutcome c img o) := by
  have howner : KeepsBut (· = c) s s.unlatched := (KeepsBut.unlatched s).mono fun d hd => by
    have hd : a.owner = .channel d := by simpa [State.ownsLatch, ha] using hd
    rw [ho] at hd
    cases hd
    rfl
  exact howner.channelOutcome hm img o

/-- What the outcome does at the owner, the latch emptied (R25, R36, R142, R169). -/
theorem ownerOutcome (hm : s.mc.mode ≠ .setup) {a : Attempt} (ha : s.arb.latch = some a) (o : AttemptOutcome) :
    Keeps s (s.unlatched.ownerOutcome a o) := by
  have station {t : State} (ho : ∀ c, a.owner ≠ .channel c) (h : Keeps s.unlatched t) : Keeps s t := (Keeps.unlatched ha ho).trans h
  unfold State.ownerOutcome
  split
  case h_1 c img ho _ => exact .channelEnd hm ha ho img o
  case h_2 c ho hf => exact .unlatched_pulse ha ho hf
  case h_3 ho =>
    refine station (by rw [ho]; nofun) ?_
    split
    case h_1 | h_2 | h_3 => exact .of_same rfl rfl
    all_goals exact .refl _
  case h_4 ho =>
    refine station (by rw [ho]; nofun) ?_
    split
    case h_1 | h_2 | h_3 => exact .of_same rfl rfl
    all_goals exact .refl _
  case h_5 ho =>
    refine station (by rw [ho]; nofun) ?_
    split
    case h_1 =>
      have hdone : Keeps s.unlatched (s.unlatched.modArb fun b => { b with wakeRequest := false }) := .of_same rfl rfl
      exact hdone.trans (.presencePulse _)
    all_goals exact .refl _

/-- A latched attempt ends ABANDONED (R35). -/
theorem abandonLatch (hm : s.mc.mode ≠ .setup) : Keeps s s.abandonLatch := by
  unfold State.abandonLatch
  split
  case h_1 => exact .refl s
  case h_2 a ha =>
    dsimp only
    split
    case h_1 c img ho hf => exact .channelEnd hm ha ho img .abandoned
    case h_2 hno =>
      cases hf : a.form with
      | frame img => exact .unlatched ha fun c ho => hno c img ho hf
      | pulse =>
        by_cases ho : ∃ c, a.owner = .channel c
        · obtain ⟨c, ho⟩ := ho
          exact .unlatched_pulse ha ho hf
        · exact .unlatched ha fun c hc => ho ⟨c, hc⟩

/-! ### Entries to modes (R148 to R172) -/

/-- Every acceptance record discarded (R116). -/
theorem discardAcceptances (s : State) : Keeps s s.discardAcceptances := by
  have hctx := s.discardAcceptances_ctx
  refine .of_channels rfl rfl id (fun c _ hc => ?_) (fun c _ hs => ?_) fun c _ => ⟨rfl, ?_⟩
  · simp only [Context.held, Prod.mk.injEq] at hc
    rw [hctx]
    exact Prod.ext rfl hc.2
  · rw [hctx]
    exact hs
  · exact State.mayOffer_congr rfl (by rw [hctx]; exact ⟨rfl, rfl, rfl⟩) rfl fun _ => rfl

/-- The withdrawal of the station from the line (R154). -/
theorem withdraw (hm : s.mc.mode ≠ .setup) : Keeps s s.withdraw := by
  have hdropped : Keeps s s.dropPendingSleep.stopBeacon := .of_same rfl rfl
  have hdiscarded := (hdropped.trans (.abandonLatch hm)).trans (.discardAcceptances _)
  exact (hdiscarded.trans (.cutAll (by simpa using hm))).trans (.presenceClear _)

theorem enterRestart (hm : s.mc.mode ≠ .setup) (cause : EntryCause) : Keeps s (s.enterRestart cause) := by
  have hwithdrawn := Keeps.withdraw hm
  unfold State.enterRestart
  generalize s.withdraw = t at hwithdrawn ⊢
  exact hwithdrawn.trans (.of_view rfl nofun)

theorem enterSafe (hm : s.mc.mode ≠ .setup) (fault : SafeFault) : Keeps s (s.enterSafe fault) := by
  have hwithdrawn := Keeps.withdraw hm
  unfold State.enterSafe
  generalize s.withdraw = t at hwithdrawn ⊢
  exact hwithdrawn.trans (.of_view rfl nofun)

theorem enterSleep (hm : s.mc.mode ≠ .setup) (cause : EntryCause) : Keeps s (s.enterSleep cause) := by
  have hdropped : Keeps s s.dropPendingSleep.stopBeacon := .of_same rfl rfl
  have hended := (hdropped.trans (.abandonLatch hm)).trans (.discardAcceptances _)
  unfold State.enterSleep
  generalize s.dropPendingSleep.stopBeacon.abandonLatch.discardAcceptances = t at hended ⊢
  exact hended.trans (.of_view rfl nofun)

theorem enterSleepFromSafe (s : State) (cause : EntryCause) : Keeps s (s.enterSleepFromSafe cause) := .of_view rfl nofun

theorem enterListen (s : State) : Keeps s s.enterListen := .of_view rfl nofun

theorem enterActive (s : State) : Keeps s s.enterActive := .of_view rfl nofun

/-! ### Reports (R150 to R160) -/

theorem escalate (hm : s.mc.mode ≠ .setup) : Keeps s s.escalate := by
  have hcount (f : ModeController → ModeController) (hf : (f s.mc).mode = s.mc.mode) : Keeps s (s.modMc f) := .of_same rfl hf
  unfold State.escalate
  split
  · refine (hcount _ rfl).trans (.enterRestart ?_ _)
    exact hm
  · refine (hcount _ rfl).trans (.enterSafe ?_ _)
    exact hm

theorem reportRise (s : State) (n : Nat) : Keeps s (s.reportRise n) := by
  by_cases hm : s.mc.mode.listens = true
  · have herrors : Keeps s (s.withErrors (min Config.countTop (s.mc.lineErrors + n))) := .of_same rfl rfl
    rw [State.reportRise_eq hm]
    dsimp only
    split
    · exact herrors.trans (.escalate (Mode.ne_setup_of_listens hm))
    · exact herrors
  · rw [State.reportRise, if_neg hm]
    exact .refl s

theorem reportGood (s : State) : Keeps s s.reportGood := by
  unfold State.reportGood
  split
  · exact .of_same rfl rfl
  · exact .refl s

theorem reportClash (s : State) : Keeps s s.reportClash := by
  unfold State.reportClash
  split
  case isTrue hm => exact .enterSafe (Mode.ne_setup_of_listens hm) _
  case isFalse => exact .refl s

theorem wakeEvent (s : State) : Keeps s s.wakeEvent := by
  unfold State.wakeEvent
  split
  case h_1 hm =>
    split
    · exact .enterRestart (by rw [hm]; nofun) _
    · exact .enterSleepFromSafe s _
  case h_2 hm =>
    split
    · exact .enterRestart (by rw [hm]; nofun) _
    · exact .refl s
  all_goals exact .refl s

/-! ### The end of an attempt (R36, R169, R170) -/

theorem outcomeReports (s : State) (o : AttemptOutcome) : Keeps s (s.outcomeReports o) := by
  have hgood : Keeps s s.heardOnLine.reportGood := by
    refine Keeps.trans ?_ (.reportGood _)
    unfold State.heardOnLine
    split
    · exact .of_same rfl rfl
    · exact .refl s
  cases o with
  | answered _ | sent => exact hgood
  | bitError => exact .reportRise s _
  | none | lost | wakeCollision | abandoned => exact .refl s

theorem handOver (hm : s.mc.mode ≠ .setup) (o : AttemptOutcome) : Keeps s (s.handOver o) := by
  cases ha : s.arb.latch with
  | none =>
    rw [State.handOver, ha]
    exact .refl s
  | some a =>
    rw [State.handOver_latched ha]
    exact (Keeps.ownerOutcome hm ha o).trans (.outcomeReports _ o)

theorem finishQuiet (s : State) : Keeps s s.finishQuiet := by
  unfold State.finishQuiet
  split
  case isTrue h => exact .enterSleep (Mode.ne_setup_of_active h.1) _
  case isFalse => exact .refl s

theorem endAttempt (hm : s.mc.mode ≠ .setup) (o : AttemptOutcome) : Keeps s (s.endAttempt o) := by
  unfold State.endAttempt
  dsimp only
  refine (Keeps.handOver hm o).trans ?_
  split
  case isTrue h =>
    obtain ⟨-, -, hactive⟩ := h
    exact .enterSleep (Mode.ne_setup_of_active hactive) _
  case isFalse => exact .finishQuiet _

end Keeps

end Sys2Proof.Machine

/-! PROOFS. Offers at the events of the line, of the station's own attempts and of its timers, and at a step with no command waiting. -/

namespace Sys2Proof.Machine

namespace State

/-! ### The latch at a pick (R26 to R30) -/

theorem latchAttempt_ownsLatch (s : State) (o : Owner) (c : ChanId) : (s.latchAttempt o).ownsLatch c = (o == .channel c) := rfl

/-- The picked offer leaves the set (R24). -/
theorem latchAttempt_offer (s : State) (o : Owner) (c : ChanId) :
    (s.latchAttempt o).arb.offers.get c = if o = .channel c then false else s.arb.offers.get c := by
  cases o with
  | channel d =>
    show (s.arb.offers.set d false).get c = _
    rw [Table.get_set]
    simp only [Owner.channel.injEq, eq_comm]
  | beacon | announcer | wakeRequest => rfl

/-- The form of an attempt follows from its owner (R29). -/
theorem formOf_pulse (s : State) (o : Owner) : s.formOf o = .pulse ↔ o = .wakeRequest := by
  cases o <;> simp [formOf]

/-- A report in ACTIVE does not take the station to SETUP. -/
theorem reportRise_ne_setup {s : State} (hm : s.mc.mode.listens = true) (n : Nat) : (s.reportRise n).mc.mode ≠ .setup := by
  rw [reportRise_eq hm]
  dsimp only
  split
  · unfold escalate
    split
    · rw [(enterRestart_spec _ _).mc]
      nofun
    · rw [(enterSafe_spec _ _).mc]
      nofun
  · exact Mode.ne_setup_of_listens hm

theorem awaitsAnswer_active {s : State} (h : s.awaitsAnswer = true) : s.mc.mode = .active := by
  simp only [awaitsAnswer, Bool.and_eq_true, beq_iff_eq] at h
  exact h.1

theorem sendingFrame_active {s : State} (h : s.sendingFrame = true) : s.mc.mode = .active := by
  simp only [sendingFrame, Bool.and_eq_true, beq_iff_eq] at h
  exact h.1

theorem checking_active {s : State} (h : s.checking = true) : s.mc.mode = .active := by
  simp only [checking, Bool.and_eq_true, beq_iff_eq] at h
  exact h.1

theorem inWindow_listens {s : State} (h : s.inWindow = true) : s.mc.mode.listens = true := by
  simp only [inWindow, Bool.and_eq_true] at h
  exact h.1.1

end State

namespace Keeps

variable {s : State}

theorem modLine (s : State) (f : LineRecord → LineRecord) : Keeps s (s.modLine f) := .of_same rfl rfl

theorem modClock (s : State) (f : BitClock → BitClock) : Keeps s (s.modClock f) := .of_same rfl rfl

/-- The latched attempt passes to another phase. -/
theorem latchPhase {a : Attempt} (ha : s.arb.latch = some a) (p : AttemptPhase) :
    Keeps s (s.modArb fun b => { b with latch := some { a with phase := p } }) := by
  let t := s.modArb fun b => { b with latch := some { a with phase := p } }
  have howns (c : ChanId) : t.ownsLatch c = s.ownsLatch c := by simp only [t, State.ownsLatch, State.modArb, ha]
  have hmay (c : ChanId) : t.mayOffer c = s.mayOffer c := State.mayOffer_congr rfl (.of_eq rfl) (howns c) fun _ => rfl
  refine ⟨fun hl b hb => ?_, id, fun _ => id, fun _ _ _ c _ hc => hc.trans (hmay c).symm⟩
  cases hb
  exact hl a ha

theorem setPhase (s : State) (p : AttemptPhase) : Keeps s (s.setPhase p) := by
  cases ha : s.arb.latch with
  | none => exact .of_same (by simp [State.offerView, State.setPhase, ha]) rfl
  | some a =>
    rw [State.setPhase_latched ha]
    exact .latchPhase ha p

theorem beginAttempt (s : State) : Keeps s s.beginAttempt := by
  unfold State.beginAttempt
  split
  case h_1 => exact .refl s
  case h_2 a ha => exact ((Keeps.latchPhase ha _).trans (.modLine _ _)).trans (.modClock _ _)

/-- The pick latches an offer and takes it from the set: its owner may hold none while it owns the latch (R24, R79, R120). -/
theorem latchAttempt (hnone : s.arb.latch = none) (o : Owner) : Keeps s (s.latchAttempt o) := by
  have hctx : ∀ c, (s.latchAttempt o).ctx c = s.ctx c := s.latchAttempt_ctx o
  refine ⟨fun _ a ha => ?formed, fun ht => ?taking, fun _ hs => ?stopped, fun _ _ _ c _ hc => ?offers⟩
  case formed =>
    cases ha
    exact s.formOf_pulse o
  case taking => simpa [State.TakingExact] using ht
  case stopped => simpa [State.StoppedInSetup] using hs
  case offers =>
    rw [State.OfferExact, State.latchAttempt_offer]
    by_cases ho : o = .channel c
    · rw [if_pos ho, State.mayOffer_owner (by rw [State.latchAttempt_ownsLatch, ho]; simp)]
    · rw [if_neg ho, hc]
      refine (State.mayOffer_congr (s.latchAttempt_cfg o c) (.of_eq (hctx c)) ?_ fun _ => ?_).symm
      · rw [State.latchAttempt_ownsLatch, State.ownsLatch, hnone]
        simpa using ho
      · exact State.gate_congr (s.latchAttempt_cfg o c) fun a _ => by rw [State.latchAttempt_entry, State.latchAttempt_presence]

/-! ### The line in reception (R4 to R15) -/

theorem startBit (s : State) : Keeps s s.startBit := by
  unfold State.startBit
  split
  · exact .modLine s _
  · exact .refl s

theorem startWaiting (s : State) : Keeps s s.startWaiting := by
  unfold State.startWaiting
  split
  · exact .beginAttempt s
  · exact .refl s

theorem gapComplete (s : State) : Keeps s s.gapComplete := by
  unfold State.gapComplete
  split
  · exact .modLine s _
  split
  · exact (Keeps.modLine s _).trans (.startWaiting _)
  · exact .refl s

theorem resyncComplete (s : State) : Keeps s s.resyncComplete := by
  unfold State.resyncComplete
  split
  · exact .modLine s _
  split
  · exact .modLine s _
  · exact .refl s

theorem badHeader (s : State) (h0 h1 h2 h3 : Byte) : Keeps s (s.badHeader h0 h1 h2 h3) := by
  unfold State.badHeader
  split
  · exact (Keeps.modLine s _).trans (.reportRise _ _)
  · exact .refl s

theorem badFraming (s : State) (kind : FramingFault) : Keeps s (s.badFraming kind) := by
  unfold State.badFraming
  split
  · split
    · exact .modLine s _
    · exact (Keeps.modLine s _).trans (.reportRise _ _)
  · exact .refl s

theorem followAnnounce (hm : s.mc.mode ≠ .setup) : Keeps s s.followAnnounce := by
  unfold State.followAnnounce
  split
  · exact .enterSleep hm _
  · exact .refl s

theorem respond (hm : s.mc.mode ≠ .setup) (f : Frame) : Keeps s (s.respond f) :=
  (Keeps.decide hm f.channel f).trans (.of_same rfl rfl)

/-- The deliveries of a valid frame (R15). -/
theorem deliver (s : State) (f : Frame) : Keeps s (s.deliver f) := by
  have hears := Keeps.presenceHears s f
  have hmode : (s.presenceHears f).mc = s.mc := by
    unfold State.presenceHears
    split
    · rfl
    · split <;> simp
  unfold State.deliver
  dsimp only
  split
  case isTrue hactive =>
    have hm : (s.presenceHears f).mc.mode ≠ .setup := by rw [hmode]; exact Mode.ne_setup_of_active hactive
    split
    case h_1 | h_2 =>
      split
      · exact hears.trans (.respond hm f)
      · exact hears
    case h_3 => exact hears.trans (.publishHeard hm f)
    case h_4 => exact hears
    case h_5 => exact hears.trans (.followAnnounce hm)
  case isFalse =>
    split
    case h_1 | h_2 =>
      split
      · exact hears.trans (.modLine _ _)
      · exact hears
    case h_3 | h_4 | h_5 => exact hears

theorem receiveFrame (s : State) (bytes : List Byte) : Keeps s (s.receiveFrame bytes) := by
  have hgood (f : Frame) : Keeps s (s.goodFrame f bytes) := by
    unfold State.goodFrame
    dsimp only
    split
    · exact ((Keeps.modLine s _).trans (.reportGood _)).trans (.reportClash _)
    · exact ((Keeps.modLine s _).trans (.reportGood _)).trans (.deliver _ f)
  unfold State.receiveFrame
  split
  · split
    · exact .refl s
    split
    · exact hgood _
    · exact (Keeps.modLine s _).trans (.reportRise _ _)
  · exact .refl s

/-- An attempt that ends in ACTIVE on a line record of its own. -/
theorem endAttempt_modLine (hm : s.mc.mode = .active) (f : LineRecord → LineRecord) (o : AttemptOutcome) :
    Keeps s ((s.modLine f).endAttempt o) :=
  (Keeps.modLine s f).trans (.endAttempt (s := s.modLine f) (Mode.ne_setup_of_active hm) o)

/-! ### Response bytes and windows (R16 to R19, R108) -/

theorem endResponse (s : State) (r : Response) : Keeps s (s.endResponse r) := by
  unfold State.endResponse
  dsimp only
  split
  · exact (Keeps.modLine s _).trans (.commit _ _)
  · exact .modLine s _

theorem responseSent (s : State) : Keeps s s.responseSent := by
  unfold State.responseSent
  split
  · exact .refl s
  · exact (Keeps.endResponse s _).trans (.modLine _ _)

theorem responseFaulted (s : State) : Keeps s s.responseFaulted := by
  unfold State.responseFaulted
  split
  · exact .refl s
  · exact ((Keeps.endResponse s _).trans (.modLine _ _)).trans (.reportRise _ _)

theorem takeAnswer (hm : s.mc.mode.listens = true) (read : Option Byte) : Keeps s (s.takeAnswer read) := by
  have hsetup := Mode.ne_setup_of_listens hm
  unfold State.takeAnswer
  split
  · exact .endAttempt hsetup _
  split
  · exact .endAttempt hsetup _
  · exact (Keeps.reportRise s 1).trans (.endAttempt (State.reportRise_ne_setup hm 1) _)

theorem closeWindow (s : State) (read : Option Byte) : Keeps s (s.closeWindow read) := by
  unfold State.closeWindow
  split
  case isTrue hin =>
    dsimp only
    have hheard : Keeps s (if s.awaitsAnswer = true ∧ (read.bind Answer.ofByte).isSome = true then s.destinationHeard else s)
        ∧ (if s.awaitsAnswer = true ∧ (read.bind Answer.ofByte).isSome = true then s.destinationHeard else s).mc = s.mc := by
      split
      · exact ⟨.destinationHeard s, s.destinationHeard_attended.mc⟩
      · exact ⟨.refl s, rfl⟩
    obtain ⟨hkeeps, hmc⟩ := hheard
    have hclosed := hkeeps.trans (.modLine _ fun l => l.closeWindow (idleAtClose read))
    split
    · refine hclosed.trans (.takeAnswer ?_ read)
      rw [State.modLine_mc, hmc]
      exact State.inWindow_listens hin
    · exact hclosed
  case isFalse => exact .refl s

theorem breakWindow (s : State) : Keeps s s.breakWindow := by
  unfold State.breakWindow
  split
  · split
    case isTrue ha => exact .endAttempt_modLine (State.awaitsAnswer_active ha) _ _
    case isFalse => exact .modLine s _
  · exact .refl s

theorem clashSeen (s : State) : Keeps s s.clashSeen := by
  unfold State.clashSeen
  split
  · exact (Keeps.modLine s _).trans (.reportClash _)
  · exact .refl s

/-! ### Dominant runs (R20, R21) -/

theorem endByRun (hm : s.mc.mode ≠ .setup) : Keeps s s.endByRun := by
  unfold State.endByRun
  split
  case h_1 | h_2 | h_3 | h_4 => exact .endAttempt hm _
  case h_5 | h_6 | h_7 => exact .refl s

theorem halfMs (s : State) : Keeps s s.halfMs := by
  unfold State.halfMs
  split
  case isTrue hm =>
    refine (Keeps.modLine s _).trans (.endByRun ?_)
    exact Mode.ne_setup_of_listens hm
  case isFalse =>
    split
    · exact .modLine s _
    · exact .refl s

theorem countHeldError (s : State) : Keeps s s.countHeldError := by
  unfold State.countHeldError
  split
  · exact (Keeps.modLine s _).trans (.reportRise _ _)
  · exact .refl s

theorem pulseHeard (s : State) : Keeps s s.pulseHeard := by
  have htable (t : State) : Keeps t t.pulseAtTable := by
    unfold State.pulseAtTable
    split
    · exact .presencePulse t
    · exact .refl t
  have hdetector (t : State) : Keeps t t.pulseAtDetector := by
    unfold State.pulseAtDetector
    split
    · exact .wakeEvent t
    · exact .refl t
  unfold State.pulseHeard
  split
  · have hrun := (Keeps.halfMs s).trans (.modLine _ fun l => l.recessive 1)
    dsimp only
    split
    · exact hrun
    · exact (hrun.trans (htable _)).trans (hdetector _)
  · exact .refl s

theorem stuckRun (s : State) : Keeps s s.stuckRun := by
  unfold State.stuckRun
  split
  case isTrue hm =>
    refine (Keeps.modLine s _).trans (.enterSafe ?_ _)
    exact Mode.ne_setup_of_listens hm
  case isFalse =>
    split
    · exact .modLine s _
    · exact .refl s

/-! ### The station's own attempts (R26 to R34) -/

theorem pickOffer (s : State) (atOnce : Bool) : Keeps s (s.pickOffer atOnce) := by
  unfold State.pickOffer
  split
  case isTrue h =>
    split
    case h_1 => exact .refl s
    case h_2 o _ =>
      have hnone : s.arb.latch = none := by
        simp only [State.canPick, Bool.and_eq_true, Option.isNone_iff_eq_none] at h
        exact h.1.2
      dsimp only
      split
      · exact (Keeps.latchAttempt hnone o).trans (.beginAttempt _)
      · exact .latchAttempt hnone o
  case isFalse => exact .refl s

theorem loseArbitration (s : State) : Keeps s s.loseArbitration := by
  unfold State.loseArbitration
  split
  case isTrue h => exact .endAttempt (Mode.ne_setup_of_active h.1) _
  case isFalse => exact .refl s

theorem readBackFault (s : State) (fault : ReadBackFault) : Keeps s (s.readBackFault fault) := by
  unfold State.readBackFault
  split
  · split
    case isTrue h => exact .endAttempt_modLine (State.sendingFrame_active h) _ _
    case isFalse => exact .refl s
  · split
    case isTrue => exact (Keeps.modLine s _).trans (.setPhase _ _)
    case isFalse => exact .refl s
  · split
    case isTrue h => exact .endAttempt_modLine (State.checking_active h) _ _
    case isFalse => exact .refl s

theorem collide (s : State) : Keeps s s.collide := by
  unfold State.collide
  split
  case isTrue h => exact .endAttempt_modLine (h.elim State.sendingFrame_active State.checking_active) _ _
  case isFalse => exact .refl s

theorem ownFrameDone (s : State) : Keeps s s.ownFrameDone := by
  unfold State.ownFrameDone
  split
  · exact .refl s
  split
  case isTrue h =>
    dsimp only
    split
    · exact .endAttempt_modLine (State.sendingFrame_active h) _ _
    · exact (Keeps.modLine s _).trans (.setPhase _ _)
  case isFalse => exact .refl s

theorem pulseDone (s : State) (held : Bool) : Keeps s (s.pulseDone held) := by
  unfold State.pulseDone
  split
  case isTrue h => exact .endAttempt_modLine h.1 _ _
  case isFalse => exact .refl s

/-! ### Timers and the WAKE pin (R90, R92, R123, R134 to R141, R148, R153, R159, R174) -/

theorem backoffExpired (s : State) (c : ChanId) : Keeps s (s.backoffExpired c) := by
  unfold State.backoffExpired
  split
  · exact (KeepsBut.modCtx rfl fun _ hs => hs).look
  · exact .refl s

theorem pacingExpired (s : State) (c : ChanId) : Keeps s (s.pacingExpired c) := by
  unfold State.pacingExpired
  split
  · exact (KeepsBut.modCtx rfl fun _ hs => hs).look
  · exact .refl s

theorem beaconExpired (s : State) : Keeps s s.beaconExpired := by
  unfold State.beaconExpired
  split
  · exact .of_same rfl rfl
  · exact .refl s

theorem presenceTimedOut (s : State) (a : Station) : Keeps s (s.presenceTimedOut a) := by
  unfold State.presenceTimedOut
  split
  · exact .updateEntry s a _
  · exact .refl s

theorem listenExpired (s : State) : Keeps s s.listenExpired := by
  unfold State.listenExpired
  split
  · exact .enterActive s
  · exact .refl s

theorem restartExpired (s : State) : Keeps s s.restartExpired := by
  unfold State.restartExpired
  split
  · exact .enterListen s
  · exact .refl s

theorem safeExpired (s : State) : Keeps s s.safeExpired := by
  unfold State.safeExpired
  split
  · exact .enterSleepFromSafe s _
  · exact .refl s

theorem pinShows (s : State) (pin : PinEvent) : Keeps s (s.pinShows pin) := by
  cases pin with
  | moves level => exact .of_same rfl rfl
  | held level =>
    have hwake (w : WakeDetector) : Keeps s { s with wake := w } := .of_same rfl rfl
    unfold State.pinShows State.pinAccepted
    dsimp only
    split
    · split
      · exact (hwake _).trans (.wakeEvent _)
      · exact hwake _
    · exact hwake _

end Keeps

/-! ### A step with no command waiting (log entry 2) -/

theorem tickTimer_isSome (n : Option Nat) : (tickTimer n).isSome = n.isSome := by
  unfold tickTimer
  split <;> rfl

theorem tickTimer_isNone (n : Option Nat) : (tickTimer n).isNone = n.isNone := by
  rw [← Option.not_isSome, ← Option.not_isSome, tickTimer_isSome]

/-- A tick moves ages alone of what the presence gate reads of an entry. -/
theorem Entry.tick_state (e : Entry) : e.tick.state = e.state ∧ e.tick.wakeTried = e.wakeTried := by
  unfold Entry.tick
  split <;> exact ⟨rfl, rfl⟩

theorem State.ticked_gate (s : State) (c : ChanId) : s.ticked.gate c = s.gate c := by
  refine gate_congr rfl fun a _ => ?_
  have hentry : s.ticked.entry a = s.entry a ∨ s.ticked.entry a = (s.entry a).tick := by
    have htable : s.ticked.entry a = (s.presence.tick s.mc.mode).entries.get a := rfl
    rw [htable]
    unfold PresenceTable.tick
    dsimp only
    split
    · exact .inr (Table.get_mapIdx _ _ _)
    · exact .inl rfl
  have hsettle : s.ticked.presence.settle.isSome = s.presence.settle.isSome := by
    show (s.presence.tick s.mc.mode).settle.isSome = _
    unfold PresenceTable.tick
    dsimp only
    split
    · exact tickTimer_isSome _
    · rfl
  obtain ⟨hstate, htried⟩ := (s.entry a).tick_state
  rw [hsettle]
  obtain h | h := hentry
  · rw [h]
  · rw [h]
    exact gateOf_congr hstate htried _

namespace Keeps

/-- One tick: timers run on and entries age, and no timer stops (R90, R92, R134, R136). -/
theorem tick (s : State) : Keeps s s.tick := by
  have hctx : ∀ c, s.ticked.ctx c = (s.ctx c).tick := fun c => Table.get_mapIdx _ _ _
  have hticked : Keeps s s.ticked := by
    refine .of_channels rfl rfl id (fun c _ hc => by rw [hctx]; exact hc) (fun c _ hs => by rw [hctx]; exact hs) fun c _ => ⟨rfl, ?_⟩
    refine State.mayOffer_congr rfl ?_ rfl fun _ => s.ticked_gate c
    rw [hctx]
    exact ⟨rfl, tickTimer_isNone _, tickTimer_isNone _⟩
  exact hticked.trans (.of_same rfl rfl)

theorem h0Bit (s : State) : Keeps s s.h0Bit := by
  unfold State.h0Bit
  dsimp only
  split
  · exact (Keeps.modClock s _).trans (.setPhase _ _)
  · exact .modClock s _

theorem idle (s : State) : Keeps s s.idle := by
  unfold State.idle
  split
  · exact .of_same rfl rfl
  split
  · exact .beginAttempt s
  split
  · unfold State.bitStep
    dsimp only
    split
    · exact ((Keeps.h0Bit s).trans (.modClock _ _)).trans (.tick _)
    · exact .h0Bit s
  · exact (Keeps.modClock s _).trans (.tick _)

end Keeps

end Sys2Proof.Machine

/-! PROOFS. Offers under the commands of the host and the two resets, and the step as a whole (R29, R45, R79, R97, R120). -/

namespace Sys2Proof.Machine

namespace Keeps

variable {s : State} {c : ChanId}

/-! ### Channel commands (R48 to R55) -/

/-- A channel command keeps what its effect keeps, which is had outside SETUP by a channel of the kind and state tested (R48). -/
theorem channelCommand {kindOk : Kind → Bool} {stateOk : ChanState → Bool} {effect : State → ChanId → State}
    (h : s.mc.mode ≠ .setup → ∀ c, kindOk (s.cfg c).kind = true → stateOk (s.ctx c).state = true → Keeps s (effect s c))
    (arg : Byte) : Keeps s (s.channelCommand arg kindOk stateOk effect) := by
  unfold State.channelCommand
  split
  case isTrue => exact .of_same rfl rfl
  case isFalse hm =>
    split
    · exact .of_same rfl rfl
    split
    · exact .of_same rfl rfl
    split
    · exact .of_same rfl rfl
    · exact h hm _ (by simp_all) (by simp_all)

theorem startChannel (hm : s.mc.mode ≠ .setup) : Keeps s (s.startChannel c) := by
  unfold State.startChannel
  split
  case h_1 => exact (KeepsBut.modCtx_out hm _ rfl).look
  case h_2 => exact ((KeepsBut.modCtx_out hm _ rfl).fetch hm).look
  case h_3 hk | h_4 hk =>
    exact (Turn.modCtx s c _).keeps_taking (by rw [hk]; rfl) (fun _ => by rw [State.modCtx_ctx_same]; rfl) fun hs => absurd hs hm
  case h_5 => exact .refl s

/-- The owner of the latch waits with its HALT; another channel halts (R50 to R52). -/
theorem haltChannel (hm : s.mc.mode ≠ .setup) : Keeps s (s.haltChannel c) := by
  unfold State.haltChannel
  split
  · exact .modCtx rfl ⟨rfl, rfl, rfl⟩
  · exact KeepsBut.enterHalted (.refl _ s) hm _

theorem kickChannel (hm : s.mc.mode ≠ .setup) : Keeps s (s.kickChannel c) := by
  unfold State.kickChannel
  split
  · exact (KeepsBut.fetch (.refl _ s) hm).look
  · exact .refl s

/-- A channel in HALTED holds no offer, and none in STOPPED (R53). -/
theorem stop_halted {s t : State} {c : ChanId} (h : KeepsBut (· = c) s t) (hs : (s.ctx c).state = .halted)
    (ht : (t.ctx c).state = .stopped) (ho : t.arb.offers = s.arb.offers) : Keeps s t := by
  refine { h with offers := fun hl htaking hstop d _ hd => ?_ }
  by_cases hdc : d = c
  · subst hdc
    rw [State.offerExact_idle (by rw [hs]; nofun) (by rw [hs]; nofun)] at hd
    rw [State.offerExact_stopped ht, ho, hd]
  · exact h.offers hl htaking hstop d hdc hd

/-- CLEAR of a SEND or PUBLISH channel: the walk leaves its context, which then stands in STOPPED (R53). -/
theorem clearSending (hm : s.mc.mode ≠ .setup) (hs : (s.ctx c).state = .halted) : Keeps s (s.clearSending c) := by
  let walk := s.abortWalk c (s.ctx c).msgStart (s.cfg c).ringLength.toNat
  have hctx : (s.clearSending c).ctx c = ((s.ctx c).dropMessage walk.2).stop := by
    show (walk.1.modCtx c _).ctx c = _
    rw [State.modCtx_ctx_same, State.abortWalk_ctx]
  have hmc : walk.1.mc = s.mc := by simp [walk]
  have hwalk : Keeps s walk.1 := .of_same (by simp [State.offerView, walk]) (by rw [hmc])
  have hstopped : KeepsBut (· = c) walk.1 (walk.1.modCtx c fun x => (x.dropMessage walk.2).stop) :=
    .modCtx_out (hmc ▸ hm) _ rfl
  refine .stop_halted (hwalk.but.trans hstopped) hs (by rw [hctx]; rfl) ?_
  show walk.1.arb.offers = s.arb.offers
  simp only [walk, State.abortWalk_arb]

theorem clearTaking (hm : s.mc.mode ≠ .setup) (hk : (s.cfg c).kind = .take) : Keeps s (s.clearTaking c) := by
  let t := s.modCtx c fun x => { x with acceptance := x.acceptance.map fun r => { r with withdrawn := true } }
  have hcfg : ((t.cut c).cfg c).kind = .take := by rw [State.cut_cfg]; exact hk
  have hmode : (t.cut c).mc.mode ≠ .setup := by rw [State.cut_mc]; exact hm
  have hwithdrawn : Keeps s t := (Turn.modCtx s c _).keeps_take hk hm
  exact (hwithdrawn.trans (Keeps.cut (s := t) hk hm)).trans
    ((Turn.modCtx (t.cut c) c fun x => { x.stop with drainNoted := false }).keeps_take hcfg hmode)

theorem clearChannel (hm : s.mc.mode ≠ .setup) (hs : (s.ctx c).state = .halted) : Keeps s (s.clearChannel c) := by
  unfold State.clearChannel
  split
  case h_1 | h_2 => exact .clearSending hm hs
  case h_3 hk => exact .clearTaking hm hk
  case h_4 hk =>
    exact (Turn.modCtx s c _).keeps_taking (by rw [hk]; rfl) (fun _ => by rw [State.modCtx_ctx_same]; rfl) fun h => absurd h hm
  case h_5 => exact .refl s

/-! ### Station commands (R146, R161 to R175) -/

/-- JOIN: every context at its starting values, in STOPPED, from SETUP, where no channel holds an offer (R45, R146). -/
theorem joined (hm : s.mc.mode = .setup) : Keeps s s.joined := by
  have hctx (c : ChanId) : s.joined.ctx c = (s.cfg c).startContext := Table.get_ofFn _ _
  have hheld (c : ChanId) : (s.joined.ctx c).held = (none, none) := by
    rw [hctx, ChanConfig.startContext]
    split <;> rfl
  have hstate (c : ChanId) : (s.joined.ctx c).state = .stopped := by
    rw [hctx, ChanConfig.startContext]
    split <;> rfl
  have hoffers : s.joined.arb.offers = s.arb.offers := rfl
  refine ⟨id, fun _ => ?_, fun _ _ _ => hstate, fun _ _ hs c _ hc => ?_⟩
  · rw [State.takingExact_iff]
    exact fun c _ => hheld c
  · rw [State.offerExact_stopped (hs hm c)] at hc
    rw [State.offerExact_stopped (hstate c), hoffers, hc]

theorem join (s : State) : Keeps s s.join := by
  unfold State.join
  split
  case isTrue => exact .of_same rfl rfl
  case isFalse hm =>
    split
    · exact .of_same rfl rfl
    split
    · exact .of_same rfl rfl
    · exact .joined (not_not.1 hm)

theorem sleepCommand (s : State) (arg : Byte) : Keeps s (s.sleepCommand arg) := by
  have hpending (p : PendingSleep) : Keeps s (s.modMc fun m => { m with pendingSleep := p }) := .of_same rfl rfl
  unfold State.sleepCommand
  split
  · exact .of_same rfl rfl
  split
  · exact .of_same rfl rfl
  split
  · exact .of_same rfl rfl
  split
  · exact .of_same rfl rfl
  · exact (hpending .quiet).trans (.finishQuiet _)

theorem wakeCommand (s : State) : Keeps s s.wakeCommand := by
  unfold State.wakeCommand
  split
  case h_1 => exact .of_same rfl rfl
  case h_2 hm =>
    split
    · exact .enterRestart (by rw [hm]; nofun) _
    · exact .of_same rfl rfl
  all_goals exact .of_same rfl rfl

theorem resume (s : State) : Keeps s s.resume := by
  unfold State.resume
  split
  case isTrue => exact .of_same rfl rfl
  case isFalse hm =>
    split
    · exact .enterRestart (by rw [not_not.1 hm]; nofun) _
    · exact .of_same rfl rfl

theorem clearLimp (s : State) : Keeps s s.clearLimp := by
  unfold State.clearLimp
  split <;> exact .of_same rfl rfl

/-! ### Registers (R73, R178, R182) -/

/-- A channel in HOLDING released by the clearing of its DONE flag (R73). -/
theorem release (s : State) (c : ChanId) : Keeps s (s.release c) := by
  unfold State.release
  split
  case isTrue hs =>
    let t := s.modCtx c fun x => { x with state := .running }
    have hrunning : (t.ctx c).state = .running := by rw [State.modCtx_ctx_same]
    have hturn : Turn s t c := .modCtx s c _
    have hheld : (t.ctx c).held = (s.ctx c).held := by
      rw [State.modCtx_ctx_same]
      rfl
    have hnot : s.mc.mode = .setup → (s.ctx c).state = .stopped → (t.ctx c).state = .stopped := fun _ h => by
      rw [hs] at h
      cases h
    dsimp only
    split
    case isTrue =>
      have hfetch : KeepsBut (· = c) t (t.fetch c) :=
        (Turn.fetch t c).keepsBut (fun _ => t.fetch_held c) fun _ h => by
          rw [hrunning] at h
          cases h
      exact ((hturn.keepsBut (fun _ => hheld) hnot).trans hfetch).look
    case isFalse hk => exact hturn.keeps_taking (by simpa using hk) (fun _ => hheld) hnot
  case isFalse => exact .refl s

theorem clearChannelFlags (s : State) (c : ChanId) (mask : Byte) : Keeps s (s.clearChannelFlags c mask) := by
  have hflags : Keeps s (s.modChanFlags c fun f => f.clearBits mask) := .of_same rfl rfl
  unfold State.clearChannelFlags
  dsimp only
  split
  · exact hflags.trans (.release _ c)
  · exact hflags

theorem writeStationByte (s : State) (addr : Nat) (v : Byte) : Keeps s (s.writeStationByte addr v) := by
  have hstation (g : StationConfig) : Keeps s { s with station := g } := .of_same rfl rfl
  unfold State.writeStationByte
  split
  · exact .of_same rfl rfl
  split
  · exact (hstation _).trans (.replaceEntries _ _)
  split
  · unfold State.writeRestartLimit
    split <;> exact .of_same rfl rfl
  · exact hstation _

/-- A channel's record is written in SETUP alone, where no channel holds an offer or takes (R40, R45). -/
theorem writeChannelByte (s : State) (c : ChanId) (i : Nat) (v : Byte) : Keeps s (s.writeChannelByte c i v) := by
  unfold State.writeChannelByte
  split
  case isTrue => exact .of_same rfl rfl
  case isFalse hm =>
    have hsetup := not_not.1 hm
    refine ⟨id, fun ht d _ => ht d (.inr hsetup), fun _ => id, fun _ _ hs d _ hd => ?_⟩
    refine (State.offerExact_stopped ?_).2 ((State.offerExact_stopped (hs hsetup d)).1 hd)
    exact hs hsetup d

theorem writeRegister (s : State) (addr : Word) (v : Byte) : Keeps s (s.writeRegister addr v) := by
  unfold State.writeRegister
  dsimp only
  split
  · exact .writeStationByte s _ v
  split
  · exact .of_same rfl rfl
  split
  · exact .of_same rfl rfl
  split
  · exact .of_same rfl rfl
  split
  · exact .of_same rfl rfl
  split
  · exact .clearChannelFlags s _ v
  split
  · exact .writeChannelByte s _ _ v
  · exact .refl s

theorem writeSlot (s : State) (i : SlotId) (bytes : List Byte) : Keeps s (s.writeSlot i bytes) := by
  unfold State.writeSlot
  split
  · exact .of_same rfl rfl
  · exact .refl s

/-! ### Transactions of the host (R165, R177) -/

/-- A byte access keeps what its effect keeps. -/
theorem access {f : State → State} (h : ∀ t, Keeps t (f t)) (s : State) : Keeps s (s.access f) := by
  have hport : Keeps s s.portAccess := .of_same rfl rfl
  unfold State.access
  split
  · exact hport.trans (h _)
  · exact .of_same rfl rfl

theorem atRise {f : State → State} (h : ∀ t, Keeps t (f t)) (s : State) : Keeps s (s.atRise f) := by
  have hport : Keeps s (s.setTransfer .none) := .of_same rfl rfl
  unfold State.atRise
  split
  · exact hport.trans (h _)
  · exact hport

/-- A control command keeps what its effect keeps. -/
theorem control {f : State → State} (h : ∀ t, Keeps t (f t)) (s : State) : Keeps s (s.control f) := by
  have hport (t : State) (g : HostPort → HostPort) : Keeps t (t.modPort g) := .of_same rfl rfl
  refine .atRise (fun t => ?_) s
  unfold State.commanded
  exact ((hport t _).trans (h _)).trans (hport _ _)

end Keeps

/-! ### The resets (R164, R165) -/

/-- What one step keeps, as it is stated: the form of the latch, the records of TAKE channels, and with them the offers. -/
def StepKeeps (s t : State) : Prop :=
  (s.LatchFormed → t.LatchFormed) ∧ (s.TakingExact → t.TakingExact)
    ∧ (s.LatchFormed → s.TakingExact → s.OffersExact → t.OffersExact)

theorem Keeps.step {s t : State} (h : Keeps s t) : StepKeeps s t :=
  ⟨h.formed, h.taking, fun hl ht ho => ⟨fun c => h.offers hl ht ho.2 c id (ho.1 c), h.stopped ht ho.2⟩⟩

/-- A part with no attempt, no offer and every context cleared, whatever was before. -/
theorem StepKeeps.of_cleared {s t : State} (hlatch : t.arb.latch = none) (hoffers : ∀ c, t.arb.offers.get c = false)
    (hctx : ∀ c, t.ctx c = .cleared) : StepKeeps s t := by
  have hstopped (c : ChanId) : (t.ctx c).state = .stopped := by rw [hctx]; rfl
  refine ⟨fun _ a ha => ?_, fun _ c _ => ?_, fun _ _ _ => ⟨fun c => ?_, fun _ => hstopped⟩⟩
  · rw [hlatch] at ha
    cases ha
  · rw [hctx]
    exact ⟨rfl, rfl⟩
  · exact (State.offerExact_stopped (hstopped c)).2 (hoffers c)

theorem StepKeeps.hardReset (s : State) : StepKeeps s s.hardReset :=
  .of_cleared rfl (fun _ => Table.get_replicate _ _) fun _ => Table.get_replicate _ _

theorem StepKeeps.softReset (s : State) : StepKeeps s (s.control State.softReset) := by
  cases ho : s.hostOpen with
  | true =>
    rw [State.control_open ho]
    exact .of_cleared rfl (fun _ => Table.get_replicate _ _) fun _ => Table.get_replicate _ _
  | false =>
    rw [State.control_shut ho]
    exact (Keeps.of_same rfl rfl).step

/-! ### The step -/

/-- A command other than the two resets keeps the offers, the latch and the records of TAKE channels. -/
theorem exec_keeps {i : Instr} {s t : State} (hrun : exec i s = .next t) (hreset : i ≠ .reset) (hsoft : i ≠ .softReset) :
    Keeps s t := by
  cases i
  case reset => exact absurd rfl hreset
  case softReset => exact absurd rfl hsoft
  case clearNoticeFlags reg mask =>
    cases reg with
    | station =>
      obtain rfl := Host.Outcome.next.inj hrun
      exact .access (fun _ => by exact .of_same rfl rfl) s
    | channel c =>
      obtain rfl := Host.Outcome.next.inj hrun
      exact .access (fun t => .clearChannelFlags t c mask) s
  all_goals obtain rfl := Host.Outcome.next.inj hrun
  case join => exact .control .join s
  case sleep arg => exact .control (fun t => .sleepCommand t arg) s
  case wake => exact .control .wakeCommand s
  case start arg => exact .control (fun t => .channelCommand (fun hm _ _ _ => .startChannel hm) arg) s
  case halt arg => exact .control (fun t => .channelCommand (fun hm _ _ _ => .haltChannel hm) arg) s
  case clear arg =>
    refine .control (fun t => .channelCommand (fun hm _ _ hs => .clearChannel hm ?_) arg) s
    simpa [ChanState.clearable] using hs
  case kick arg => exact .control (fun t => .channelCommand (fun hm _ _ _ => .kickChannel hm) arg) s
  case resume => exact .control .resume s
  case clearRestarts | unknownCommand => exact .control (fun _ => by exact .of_same rfl rfl) s
  case clearLimp => exact .control .clearLimp s
  case registerWrite addr v => exact .access (fun t => .writeRegister t addr v) s
  case ownAddressWrite v => exact .access (fun t => .writeStationByte t 0 v) s
  case clearDone c => exact .access (fun t => .clearChannelFlags t c 1) s
  case clearChangedMarks | bufferWrite | bufferRead | descriptorRead => exact .access (fun _ => by exact .of_same rfl rfl) s
  case descriptorWrite index bytes => exact .access (fun t => .writeSlot t _ bytes) s
  case transactionEnd => exact .atRise (fun _ => by exact .of_same rfl rfl) s
  case wakePinAccepted pin => exact .pinShows s pin
  case pick atOnce => exact .pickOffer s atOnce
  case formatError h0 h1 h2 h3 => exact .badHeader s h0 h1 h2 h3
  case framingError kind => exact .badFraming s kind
  case frameEnd bytes => exact .receiveFrame s bytes
  case responseByteEnd => exact .responseSent s
  case responseBitError => exact .responseFaulted s
  case windowClose read => exact .closeWindow s read
  case windowOutOfPlace => exact .breakWindow s
  case clashResponseSeen => exact .clashSeen s
  case clashWatchDisarmed => exact .modLine s _
  case idleGapComplete => exact .gapComplete s
  case resyncEnd => exact .resyncComplete s
  case dominantRunHalfMs => exact .halfMs s
  case heldErrorCounted => exact .countHeldError s
  case wakePulseHeard => exact .pulseHeard s
  case lineStuck => exact .stuckRun s
  case arbitrationLost => exact .loseArbitration s
  case bitError fault => exact .readBackFault s fault
  case wakeCollision => exact .collide s
  case ownFrameEnd => exact .ownFrameDone s
  case pulseSent held => exact .pulseDone s held
  case startBitBegins => exact .startBit s
  case backoffExpiry c => exact .backoffExpired s c
  case pacingExpiry c => exact .pacingExpired s c
  case beaconTimerExpiry => exact .beaconExpired s
  case wakeSettleExpiry => exact .settleExpired s
  case presenceTimeout a => exact .presenceTimedOut s a
  case listenTimerExpiry => exact .listenExpired s
  case restartTimerExpiry => exact .restartExpired s
  case safeTimerExpiry => exact .safeExpired s

/-- A command keeps them, the resets included. -/
theorem exec_stepKeeps {i : Instr} {s t : State} (hrun : exec i s = .next t) : StepKeeps s t := by
  by_cases hreset : i = .reset
  · subst hreset
    obtain rfl := Host.Outcome.next.inj hrun
    exact .hardReset s
  by_cases hsoft : i = .softReset
  · subst hsoft
    obtain rfl := Host.Outcome.next.inj hrun
    exact .softReset s
  · exact (exec_keeps hrun hreset hsoft).step

/-- Settles O60: `Keeps` composes, every operation but the resets is one, and the resets clear what the invariants speak of. -/
theorem stepKeepsOffersExact : Obligations.StepKeepsOffersExact := by
  intro s t hrun
  unfold step at hrun
  split at hrun
  case h_1 =>
    obtain rfl := Host.Outcome.next.inj hrun
    exact (Keeps.idle s).step
  case h_2 i rest _ =>
    have hkeeps : StepKeeps { s with pending := rest } t := exec_stepKeeps hrun
    exact hkeeps

end Sys2Proof.Machine

/-! PROOFS. The answers to a SEND channel's frame (R18, R36, R67, R82 to R88): the part as the answer finds it, the look that follows
the outcome, and the outcome itself by the answer. -/

namespace Sys2Proof.Machine

theorem Answer.ofByte_byte (a : Answer) : Answer.ofByte a.byte = some a := by cases a <;> rfl

/-- A channel halted with no HALT waiting. -/
theorem Context.haltedBy_running {x : Context} (h : x.haltReq = false) (cause : HaltCause) :
    x.haltedBy cause = { x with state := .halted, haltCause := cause, backoff := none, pacing := none } := by
  obtain ⟨⟩ := x
  cases h
  rfl

namespace State

/-! ### An outcome asks for no HALT (R51) -/

theorem countRetry_haltReq (s : State) (c : ChanId) : ((s.countRetry c).ctx c).haltReq = (s.ctx c).haltReq := by
  unfold countRetry exhaust
  split
  · simp
  · simp

theorem sendOutcome_haltReq {s : State} {c : ChanId} (h : (s.ctx c).haltReq = false) (img : Frame) (o : AttemptOutcome) :
    ((s.sendOutcome c img o).ctx c).haltReq = false := by
  have hmod (f : Context → Context) (hf : (f (s.ctx c)).haltReq = (s.ctx c).haltReq) : ((s.modCtx c f).ctx c).haltReq = false := by
    rw [modCtx_ctx_same, hf, h]
  have hnak : ((s.nakAnswered c).ctx c).haltReq = false := by
    unfold nakAnswered
    dsimp only
    split
    · exact hmod _ rfl
    split
    · exact hmod _ rfl
    · simp
  have hadvance : ((s.advance c img).ctx c).haltReq = false := hmod _ rfl
  have hdata : ((s.dataAcked c img).ctx c).haltReq = false := by
    unfold dataAcked
    dsimp only
    split
    · exact completeMessage_haltReq hadvance
    · exact fetch_haltReq hadvance
  unfold sendOutcome
  split
  case h_1 =>
    split
    · exact fetch_haltReq (hmod _ rfl)
    · exact hdata
  case h_2 => exact hnak
  case h_3 => simp
  case h_4 =>
    split
    · exact (s.countRetry_haltReq c).trans h
    · exact hmod _ rfl
  case h_5 | h_6 => exact (s.countRetry_haltReq c).trans h
  all_goals exact h

/-! ### The part as an answer finds it (R16, R18) -/

theorem stationHeard_channels (s : State) (a : Station) : (s.stationHeard a).notice.channels = s.notice.channels :=
  updateEntries_channels s _

theorem destinationHeard_channels (s : State) : s.destinationHeard.notice.channels = s.notice.channels := by
  unfold destinationHeard
  split
  · split
    · exact s.stationHeard_channels _
    · rfl
  · rfl

/-- The station that the own frame went to is heard (R18, R131). -/
theorem destinationHeard_entry {s : State} {w : Window} {n : Station} (hw : s.line.window = some w) (hn : w.dest.toNat = n.val)
    (hself : (s.entry n).state ≠ .self) :
    s.destinationHeard.entry n = { s.entry n with state := .present, age := 0, wakeTried := false } := by
  simp only [destinationHeard, hw, stationOf_of_toNat hn]
  exact updateEntry_entry_same hself _

/-- The part in which the window has closed on a byte: the destination heard, the line in GAP and the latch emptied. -/
def answeredBy (s : State) (b : Byte) : State :=
  (s.destinationHeard.modLine fun l => l.closeWindow (idleAtClose (some b))).unlatched

theorem heard_attended (s : State) (b : Byte) :
    s.Attended (s.destinationHeard.modLine fun l => l.closeWindow (idleAtClose (some b))) :=
  s.destinationHeard_attended.modLine _

theorem answeredBy_ctx (s : State) (b : Byte) (c : ChanId) : (s.answeredBy b).ctx c = s.ctx c := (s.heard_attended b).ctx c

theorem answeredBy_cfg (s : State) (b : Byte) (c : ChanId) : (s.answeredBy b).cfg c = s.cfg c := (s.heard_attended b).cfg c

theorem answeredBy_station (s : State) (b : Byte) : (s.answeredBy b).station = s.station := (s.heard_attended b).station

theorem answeredBy_slots (s : State) (b : Byte) : (s.answeredBy b).slots = s.slots := (s.heard_attended b).slots

theorem answeredBy_line (s : State) (b : Byte) :
    (s.answeredBy b).line =
      { s.line with state := .busy .gap, idleCount := idleAfter b, window := none, dominantBits := 0 } := by
  have hline : s.destinationHeard.line = s.line := by
    unfold destinationHeard
    split
    · split
      · exact s.stationHeard_line _
      · rfl
    · rfl
  show s.destinationHeard.line.closeWindow (idleAfter b) = _
  rw [hline]
  rfl

theorem answeredBy_sameRing (s : State) (b : Byte) (c : ChanId) : SameRing (s.answeredBy b) s c :=
  ⟨s.answeredBy_cfg b c, s.answeredBy_slots b, congrArg (fun t : Table 16 ChanFlags => t.get c) s.destinationHeard_channels⟩

/-! ### The end of the attempt with an answer (R18, R36) -/

/-- The part after an answer: the outcome, the look, and the reports of a station heard and of one good transmission. -/
def afterAnswer (s : State) (c : ChanId) (img : Frame) (b : Byte) (a : Answer) : State :=
  let u := ((s.answeredBy b).sendOutcome c img (.answered a)).look c
  { u with
    beaconTimer := startTimer (10 * s.station.beaconInterval.toNat)
    mc := { s.mc with lineErrors := s.mc.lineErrors - 1 } }

theorem afterAnswer_ctx (s : State) (c : ChanId) (img : Frame) (b : Byte) (a : Answer) :
    (s.afterAnswer c img b a).ctx c = ((s.answeredBy b).sendOutcome c img (.answered a)).ctx c := rfl

theorem afterAnswer_sameRing (s : State) (c : ChanId) (img : Frame) (b : Byte) (a : Answer) :
    SameRing ((s.answeredBy b).sendOutcome c img (.answered a)) (s.afterAnswer c img b a) c := ⟨rfl, rfl, rfl⟩

/-- After the look the channel holds an offer exactly when its conditions hold (R79). -/
theorem afterAnswer_offer (s : State) (c : ChanId) (img : Frame) (b : Byte) (a : Answer) :
    (s.afterAnswer c img b a).arb.offers.get c = (s.afterAnswer c img b a).mayOffer c :=
  Table.get_set_same _ _ _

end State

namespace State.Awaits

variable {s : State} {c : ChanId} {img : Frame}

/-- The look comes last of an outcome where no HALT waits (R51, R79). -/
theorem settleHalt_outcome (h : s.Awaits c img) {w : State} (hw : w.ctx c = s.ctx c) (o : AttemptOutcome) :
    (w.sendOutcome c img o).settleHalt c = (w.sendOutcome c img o).look c :=
  settleHalt_look (sendOutcome_haltReq (by rw [hw]; exact h.running) img o)

theorem closeWindow_answer (h : s.Awaits c img) {b : Byte} {a : Answer} (hb : Answer.ofByte b = some a) :
    s.closeWindow (some b) = s.afterAnswer c img b a := by
  have hv := s.heard_attended b
  obtain ⟨hframe, hmc⟩ := hv.outcome_frame c img (.answered a)
  rw [h.closeWindow_answered hb, h.toAtAnswer.endAttempt hv, ← answeredBy] at *
  rw [h.settleHalt_outcome (s.answeredBy_ctx b c)] at hframe hmc ⊢
  have hreports := outcomeReports_sent (s := ((s.answeredBy b).sendOutcome c img (.answered a)).look c) (by rw [hmc]; exact h.mode)
  refine hreports.trans ?_
  unfold afterAnswer
  dsimp only
  rw [hmc, hframe.station]

/-- What an answer leaves, whatever the outcome at the channel (R16, R36, R142, R150). -/
theorem afterAnswer_frame (h : s.Awaits c img) (b : Byte) (a : Answer) :
    AttemptFrame s (s.afterAnswer c img b a) c
      ∧ (s.afterAnswer c img b a).line =
          { s.line with state := .busy .gap, idleCount := idleAfter b, window := none, dominantBits := 0 } := by
  have hframe := ((s.heard_attended b).outcome_frame c img (.answered a)).1
  rw [← answeredBy, h.settleHalt_outcome (s.answeredBy_ctx b c)] at hframe
  refine ⟨{ hframe with mode := rfl }, ?_⟩
  rw [← s.answeredBy_line b, ← State.sendOutcome_line (s.answeredBy b) c img (.answered a)]
  rfl

end State.Awaits

end Sys2Proof.Machine

/-! PROOFS. What NAK, HALT, REOPEN and silence do to a SEND channel (R85 to R88). -/

namespace Sys2Proof.Machine

namespace State

section

variable {w : State} {c : ChanId} {img : Frame}

theorem nakAnswered_slots (w : State) (c : ChanId) : (w.nakAnswered c).slots = w.slots := by
  unfold nakAnswered
  dsimp only
  split
  · rfl
  split <;> rfl

theorem countRetry_slots (w : State) (c : ChanId) : (w.countRetry c).slots = w.slots := by
  unfold countRetry exhaust
  split
  · rfl
  · simp

/-- An answer other than ACK writes no slot (R85, R86, R88). -/
theorem sendOutcome_unacked_slots {a : Answer} (ha : a ≠ .ack) (w : State) (c : ChanId) (img : Frame) :
    (w.sendOutcome c img (.answered a)).slots = w.slots := by
  cases a with
  | ack => exact absurd rfl ha
  | nak => exact w.nakAnswered_slots c
  | halt => rfl
  | reopen =>
    simp only [sendOutcome]
    split
    · exact w.countRetry_slots c
    · rfl

/-- An answer other than ACK changes the Presence Table by exhaustion alone: a REOPEN to an OPEN at the retry limit (R88, R91). -/
theorem sendOutcome_unacked_presence {a : Answer} (ha : a ≠ .ack)
    (hr : a = .reopen → img.kind = .openF → (w.ctx c).retry < w.station.retryLimit.toNat) :
    (w.sendOutcome c img (.answered a)).presence = w.presence := by
  cases a with
  | ack => exact absurd rfl ha
  | nak => simp [sendOutcome]
  | halt => rfl
  | reopen =>
    simp only [sendOutcome]
    split
    case isTrue hk => rw [countRetry_below (hr rfl hk), modCtx_presence]
    case isFalse => rfl

end

end State

namespace State.Awaits

variable {s : State} {c : ChanId} {img : Frame}

theorem afterAnswer_slots {a : Answer} (ha : a ≠ .ack) : (s.afterAnswer c img a.byte a).slots = s.slots :=
  (sendOutcome_unacked_slots ha _ c img).trans (s.answeredBy_slots a.byte)

/-- The peer that has answered is PRESENT, its age and its mark cleared (R18, R131). -/
theorem afterAnswer_entry (h : s.Awaits c img) {a : Answer} {n : Station} (ha : a ≠ .ack)
    (hn : (s.cfg c).peerStation.toNat = n.val) (hself : (s.entry n).state ≠ .self)
    (hr : a = .reopen → img.kind = .openF → (s.ctx c).retry < s.station.retryLimit.toNat) :
    (s.afterAnswer c img a.byte a).entry n = { s.entry n with state := .present, age := 0, wakeTried := false } := by
  have hpresence := sendOutcome_unacked_presence (w := s.answeredBy a.byte) (c := c) (img := img) ha
    (by rw [answeredBy_ctx, answeredBy_station]; exact hr)
  have hentry : (s.afterAnswer c img a.byte a).entry n = s.destinationHeard.entry n :=
    congrArg (fun p : PresenceTable => p.entries.get n) hpresence
  exact hentry.trans (destinationHeard_entry h.window hn hself)

/-- A channel that its answer halts (R47, R85, R86). -/
theorem afterAnswer_halted (h : s.Awaits c img) {b : Byte} {a : Answer} {cause : HaltCause}
    (ho : (s.answeredBy b).sendOutcome c img (.answered a) = (s.answeredBy b).enterHalted c cause) :
    (s.afterAnswer c img b a).ctx c =
        { s.ctx c with state := .halted, haltCause := cause, backoff := none, pacing := none }
      ∧ ((s.afterAnswer c img b a).notice.channels.get c).halted = true := by
  have hhalted := (s.answeredBy b).enterHalted_haltedWith c cause
  have hnotice : (s.afterAnswer c img b a).notice = ((s.answeredBy b).enterHalted c cause).notice :=
    (congrArg State.notice ho :)
  rw [afterAnswer_ctx, ho, hnotice, hhalted.ctx, answeredBy_ctx]
  exact ⟨Context.haltedBy_running h.running cause, hhalted.notice⟩

end State.Awaits

/-- Settles O43: the outcome of each answer at its channel, between what every answer does to the line, the station heard and the
reports. -/
theorem sendChannelActsOnItsAnswer : Obligations.SendChannelActsOnItsAnswer := by
  intro s c img h x g
  refine ⟨fun a ha => ?answer, fun hr => ?silence⟩
  case answer =>
    obtain ⟨hframe, hline⟩ := h.afterAnswer_frame a.byte a
    have hctx := s.answeredBy_ctx a.byte c
    have hst := s.answeredBy_station a.byte
    have hnak : a = .nak → (s.afterAnswer c img a.byte a).ctx c = ((s.answeredBy a.byte).nakAnswered c).ctx c := by
      rintro rfl
      rfl
    refine ⟨s.afterAnswer c img a.byte a, congrArg Host.Outcome.next (h.closeWindow_answer (Answer.ofByte_byte a)), hframe,
      hline, rfl, rfl, State.Awaits.afterAnswer_slots ha, s.afterAnswer_offer c img a.byte a,
      fun n hn hself hr => h.afterAnswer_entry ha hn hself hr, fun hn hp => ?unbounded, fun hn hp => ?below,
      fun hn h0 hp => ?busy, fun hn => ?halt, fun hn hk => ?rewind, fun hn hk hr => ?retry⟩
    case unbounded =>
      rw [hnak hn, State.nakAnswered_unbounded hctx (by rw [hst]; exact hp), hst]
      rfl
    case below => rw [hnak hn, State.nakAnswered_below hctx (by rw [hst]; exact hp), hst]
    case busy =>
      subst hn
      exact h.afterAnswer_halted (State.nakAnswered_busy hctx (by rw [hst]; exact h0) (by rw [hst]; exact hp))
    case halt =>
      subst hn
      exact h.afterAnswer_halted rfl
    case rewind =>
      subst hn
      have hrewind : (s.answeredBy Answer.reopen.byte).sendOutcome c img (.answered .reopen) =
          (s.answeredBy Answer.reopen.byte).modCtx c Context.rewind := if_neg (by rw [hk]; nofun)
      rw [State.afterAnswer_ctx, hrewind, State.modCtx_ctx_same, hctx]
      rfl
    case retry =>
      subst hn
      have hretry : (s.answeredBy Answer.reopen.byte).sendOutcome c img (.answered .reopen) =
          (s.answeredBy Answer.reopen.byte).countRetry c := if_pos hk
      rw [State.afterAnswer_ctx, hretry, State.countRetry_below (by rw [hctx, hst]; exact hr), State.modCtx_ctx_same, hctx, hst]
  case silence =>
    have hframe := State.silenced_frame (s.modLine fun l => l.closeWindow Config.idleGap) c
    exact ⟨_, congrArg Host.Outcome.next (h.closeWindow_silence hr), { hframe with }, rfl, State.silenced_ctx _ c,
      rfl, rfl, rfl, rfl, rfl⟩

end Sys2Proof.Machine

/-! PROOFS. Exhaustion of a SEND channel's retries (R91, R137): the peer's entry, and the looks that follow it. -/

namespace Sys2Proof.Machine

/-- Exhaustion leaves every entry but the station's own ABSENT (R137). -/
theorem Entry.exhausted_state {e : Entry} (h : e.state ≠ .self) : e.exhausted.state = .absent := by
  unfold exhausted
  split
  case h_4 ha => exact ha
  case h_5 hs => exact absurd hs h
  all_goals rfl

theorem Entry.exhausted_reachable {e : Entry} (h : e.state = .present ∨ e.state = .asleep) :
    e.exhausted = { e with state := .absent, age := 0, wakeTried := false } := by
  unfold exhausted
  obtain h | h := h <;> rw [h]

theorem Entry.exhausted_waking {e : Entry} (h : e.state = .waking) :
    e.exhausted = { e with state := .absent, age := 0, wakeTried := true } := by
  unfold exhausted
  rw [h]

theorem Entry.exhausted_absent {e : Entry} (h : e.state = .absent) : e.exhausted = e := by
  unfold exhausted
  rw [h]

/-- Toward an ABSENT peer the gate lets no offer through, and asks for a wake pulse where none has been tried (R80). -/
theorem gateOf_absent {e : Entry} (h : e.state = .absent) (settling : Bool) :
    gateOf e settling = if e.wakeTried then .wait else .wake := by
  unfold gateOf
  rw [h]

namespace State

theorem gate_of_station {s : State} {c : ChanId} {n : Station} (hn : (s.cfg c).peerStation.toNat = n.val) :
    s.gate c = gateOf (s.entry n) s.presence.settle.isSome := by
  simp [gate, entryOf, stationOf_of_toNat hn]

section

variable {s : State} {c : ChanId} {n : Station}

theorem mayOffer_absent (hk : (s.cfg c).kind = .send) (hn : (s.cfg c).peerStation.toNat = n.val)
    (ha : (s.entry n).state = .absent) : s.mayOffer c = false := by
  have hgate : (s.gate c == .offer) = false := by rw [gate_of_station hn, gateOf_offer, ha]; rfl
  simp [mayOffer, hk, hgate]

/-- A channel ready to send toward an ABSENT peer whose mark is clear wants a wake pulse (R80). -/
theorem wantsWake_absent (hk : (s.cfg c).kind = .send) (hn : (s.cfg c).peerStation.toNat = n.val)
    (ha : (s.entry n).state = .absent) (hready : s.sendReady c = true) (hmark : (s.entry n).wakeTried = false) :
    s.wantsWake c = true := by
  simp [wantsWake, hk, hready, gate_of_station hn, gateOf_absent ha, hmark]

end

/-- A SEND channel's exhaustion before its look: the retry count, and the peer's entry (R91, R137). -/
def forsaken (s : State) (c : ChanId) (n : Station) : State :=
  (s.modCtx c fun x => { x with retry := 0 }).updateEntry n Entry.exhausted

theorem exhaust_eq {s : State} {c : ChanId} {n : Station} (hn : (s.cfg c).peerStation.toNat = n.val) :
    s.exhaust c = (s.forsaken c n).look c := by
  simp only [exhaust, presenceExhausted, stationOf_of_toNat hn, forsaken]

theorem forsaken_ctx (s : State) (c : ChanId) (n : Station) : (s.forsaken c n).ctx c = { s.ctx c with retry := 0 } := by
  simp [forsaken]

theorem forsaken_entry {s : State} {n : Station} (c : ChanId) (h : (s.entry n).state ≠ .self) :
    (s.forsaken c n).entry n = (s.entry n).exhausted :=
  updateEntry_entry_same (s := s.modCtx c _) h _

theorem forsaken_entry_ne (s : State) (c : ChanId) {n m : Station} (h : m ≠ n) : (s.forsaken c n).entry m = s.entry m :=
  updateEntry_entry_ne (s.modCtx c _) h _

theorem forsaken_rest (s : State) (c : ChanId) (n : Station) :
    (s.forsaken c n).cfg c = s.cfg c ∧ (s.forsaken c n).slots = s.slots ∧ (s.forsaken c n).beaconTimer = s.beaconTimer := by
  simp [forsaken]

/-- The channel that has given its peer up is ready for the wake pulse unless a timer of it runs (R79, R91). -/
theorem forsaken_ready {s : State} {c : ChanId} (n : Station) (hfree : s.arb.latch = none)
    (hstate : (s.ctx c).state = .opening ∨ (s.ctx c).state = .running) (hbackoff : (s.ctx c).backoff = none)
    (hpacing : (s.ctx c).pacing = none) : (s.forsaken c n).sendReady c = true := by
  have hlatch : (s.forsaken c n).arb.latch = none := by simp [forsaken, hfree]
  simp [sendReady, forsaken_ctx, ownsLatch, hlatch, hstate, hbackoff, hpacing]

/-- The part in which the window has closed on silence, the latch emptied. -/
abbrev silent (s : State) : State := (s.modLine fun l => l.closeWindow (idleAtClose none)).unlatched

end State

namespace State.Awaits

variable {s : State} {c : ChanId} {img : Frame} {n : Station}

/-- Silence at the retry limit: the exhaustion, with its look and that of the outcome (R79, R91). -/
theorem closeWindow_exhausts (h : s.Awaits c img) (hr : (s.ctx c).retry = s.station.retryLimit.toNat)
    (hn : (s.cfg c).peerStation.toNat = n.val) :
    let t := ((s.silent.forsaken c n).look c).look c
    s.closeWindow none = t ∧ AttemptFrame s t c ∧ t.mc = s.mc := by
  have hv : s.Attended (s.modLine fun l => l.closeWindow (idleAtClose none)) := (Attended.refl s).modLine _
  have houtcome : s.silent.sendOutcome c img .none = (s.silent.forsaken c n).look c :=
    (if_neg (Nat.not_lt.2 (Nat.le_of_eq hr.symm))).trans (exhaust_eq hn)
  have hsettle : (s.silent.sendOutcome c img .none).settleHalt c = ((s.silent.forsaken c n).look c).look c := by
    rw [h.settleHalt_outcome (w := s.silent) rfl, houtcome]
  obtain ⟨hframe, hmc⟩ := hv.outcome_frame c img .none
  rw [hsettle] at hframe hmc
  refine ⟨?_, hframe, hmc⟩
  rw [h.closeWindow_none, h.endAttempt hv, hsettle]
  rfl

end State.Awaits

/-- Settles O44: the exhaustion leaves the peer ABSENT, and toward an ABSENT peer the looks withdraw the offer and ask for the pulse. -/
theorem exhaustionMakesThePeerAbsent : Obligations.ExhaustionMakesThePeerAbsent := by
  intro s c img n h hr hn hself
  obtain ⟨hclose, hframe, hmc⟩ := h.closeWindow_exhausts hr hn
  have hctx := State.forsaken_ctx s.silent c n
  have hentry : (s.silent.forsaken c n).entry n = (s.entry n).exhausted :=
    State.forsaken_entry (s := s.silent) c hself
  have hothers (m : Station) (hm : m ≠ n) : (s.silent.forsaken c n).entry m = s.entry m :=
    State.forsaken_entry_ne s.silent c hm
  have hready := State.forsaken_ready (s := s.silent) (c := c) n rfl
  obtain ⟨hcfg, hslots, hbeacon⟩ := State.forsaken_rest s.silent c n
  generalize s.silent.forsaken c n = v at *
  have habsent : (v.entry n).state = .absent := by rw [hentry]; exact Entry.exhausted_state hself
  have hkind : (v.cfg c).kind = .send := by rw [hcfg]; exact h.kind
  have hpeer : (v.cfg c).peerStation.toNat = n.val := by rw [hcfg]; exact hn
  refine ⟨(v.look c).look c, congrArg Host.Outcome.next hclose, hframe, hctx,
    fun hs => hentry.trans (Entry.exhausted_reachable hs), fun hs => hentry.trans (Entry.exhausted_waking hs),
    fun hs => hentry.trans (Entry.exhausted_absent hs), hothers, fun hstate hbackoff hpacing hmark => ?wake, ?offer, hslots, hmc,
    hbeacon⟩
  case wake =>
    have hwants : v.wantsWake c = true :=
      State.wantsWake_absent hkind hpeer habsent (hready hstate hbackoff hpacing) hmark
    simp [hwants]
  case offer =>
    have hoffer : (v.look c).mayOffer c = false := State.mayOffer_absent hkind hpeer habsent
    simp [hoffer]

end Sys2Proof.Machine

/-! PROOFS. An ACK at a SEND channel (R82 to R84, R67): the fetch that follows it, and the message that its last frame completes. -/

namespace Sys2Proof.Machine

/-- What the completion of a message leaves is said of any state with the same message, Descriptor Table and channel flags. -/
theorem MessageDone.withChannels {s v u : State} {c : ChanId} (h : MessageDone v u c)
    (hfetched : (v.ctx c).fetched = (s.ctx c).fetched) (hnumber : (v.ctx c).msgNo = (s.ctx c).msgNo)
    (hslots : v.slots = s.slots) (hchannels : v.notice.channels = s.notice.channels) :
    MessageDone s { s with slots := u.slots, notice := { s.notice with channels := u.notice.channels } } c := by
  have hslot : ∀ j, v.slot j = s.slot j := fun j => by rw [State.slot, hslots, State.slot]
  have hrest : u.notice.channels = _ := congrArg (fun t : State => t.notice.channels) h.rest
  have hmessage := h.message
  have hothers := h.others
  simp only [hfetched, hnumber, hslot, hchannels] at hmessage hothers hrest
  exact ⟨hmessage, hothers, by rw [hrest]⟩

/-- A change of contexts leaves what a walk of the ring reads. -/
theorem SameRing.modCtx_left {s t : State} {c d : ChanId} (h : SameRing s t c) (f : Context → Context) :
    SameRing (s.modCtx d f) t c := ⟨h.cfg, h.slots, h.flags⟩

namespace State

theorem answeredBy_channels (s : State) (b : Byte) : (s.answeredBy b).notice.channels = s.notice.channels :=
  s.destinationHeard_channels

section

variable {s : State} {c : ChanId} {img : Frame} {b : Byte}

/-- The OPEN's ACK (R82). -/
theorem afterAnswer_opened (hk : img.kind = .openF) :
    FetchGives s (s.afterAnswer c img b .ack) c { s.ctx c with toggle := false, retry := 0, nak := 0, state := .running } := by
  let w := (s.answeredBy b).modCtx c fun x => { x with toggle := false, retry := 0, nak := 0, state := .running }
  have hopened : (s.answeredBy b).sendOutcome c img (.answered .ack) = w.fetch c := if_pos hk
  have hring : SameRing w s c := (s.answeredBy_sameRing b c).modCtx_left _
  have hgives := fetch_gives w c
  rw [modCtx_ctx_same, answeredBy_ctx] at hgives
  rw [← hopened] at hgives
  exact hgives.congr hring (s.afterAnswer_sameRing c img b .ack) rfl

/-- The context of a channel whose DATA frame has been acknowledged, on the part that has heard the answer (R83). -/
theorem answeredBy_advance_ctx (s : State) (c : ChanId) (img : Frame) (b : Byte) :
    ((s.answeredBy b).advance c img).ctx c =
      { s.ctx c with
        toggle := !(s.ctx c).toggle, retry := 0, nak := 0, acc := (s.ctx c).acc.feedAll img.payload
        stream := (s.ctx c).stream + img.payload.length, pacing := startTimer (s.cfg c).pacing.toNat } := by
  rw [advance_ctx, answeredBy_ctx, answeredBy_cfg]

theorem sendOutcome_data (w : State) (c : ChanId) (hk : img.kind = .data) :
    w.sendOutcome c img (.answered .ack) = w.dataAcked c img := if_neg (by rw [hk]; nofun)

/-- The ACK of a frame that is not the last of its message (R83). -/
theorem afterAnswer_advanced (hk : img.kind = .data) (hp : img.position = .first ∨ img.position = .middle) :
    FetchGives s (s.afterAnswer c img b .ack) c
      { s.ctx c with
        toggle := !(s.ctx c).toggle, retry := 0, nak := 0, acc := (s.ctx c).acc.feedAll img.payload
        stream := (s.ctx c).stream + img.payload.length, pacing := startTimer (s.cfg c).pacing.toNat } := by
  let w := (s.answeredBy b).advance c img
  have hadvanced : (s.answeredBy b).sendOutcome c img (.answered .ack) = w.fetch c :=
    (sendOutcome_data _ c hk).trans (if_neg (by rw [Position.ends_of_first hp]; nofun))
  have hring : SameRing w s c := (s.answeredBy_sameRing b c).modCtx_left _
  have hgives := fetch_gives w c
  rw [answeredBy_advance_ctx, ← hadvanced] at hgives
  exact hgives.congr hring (s.afterAnswer_sameRing c img b .ack) rfl

/-- The ACK of the last frame of a message: its slots DONE, then HOLDING or the fetch (R67, R84). -/
theorem afterAnswer_completed (hk : img.kind = .data) (hp : img.position = .last ∨ img.position = .only)
    (hrun : (s.ctx c).state = .running) (hslots : ((s.ctx c).fetched.map fun k => k.slot).Nodup) :
    let t := s.afterAnswer c img b .ack
    let y :=
      { s.ctx c with
        toggle := !(s.ctx c).toggle, retry := 0, nak := 0, stream := 0, acc := { sum := 0, pending := none }
        pacing := startTimer (s.cfg c).pacing.toNat, msgNo := (s.ctx c).msgNo + 1, fetched := []
        msgStart := (s.ctx c).walker }
    ∃ u, MessageDone s u c
      ∧ (((s.ctx c).fetched.any fun k => (s.slot k.slot).notify && (s.slot k.slot).hold) = true →
          t.ctx c = { y with state := .holding } ∧ t.slots = u.slots ∧ t.notice.channels.get c = u.notice.channels.get c)
      ∧ (((s.ctx c).fetched.any fun k => (s.slot k.slot).notify && (s.slot k.slot).hold) = false → FetchGives u t c y) := by
  intro t y
  let v := (s.answeredBy b).advance c img
  have hv := s.answeredBy_advance_ctx c img b
  have hvslots : v.slots = s.slots := s.answeredBy_slots b
  have hslot : ∀ j, v.slot j = s.slot j := fun j => by rw [slot, hvslots, slot]
  have hdata : (s.answeredBy b).sendOutcome c img (.answered .ack) = v.completeMessage c :=
    (sendOutcome_data _ c hk).trans (if_pos (Position.ends_of_last hp))
  obtain ⟨u, hdone, hhold, hfetch⟩ := completeMessage_gives v c (by rw [hv]; exact hslots) (by rw [hv]; exact hrun)
  rw [hv] at hhold hfetch
  simp only [hslot] at hhold hfetch
  have hctx : u.ctx c = v.ctx c := by rw [hdone.rest]; rfl
  have hcfg : u.cfg c = s.cfg c := by rw [hdone.rest]; exact s.answeredBy_cfg b c
  refine ⟨_, hdone.withChannels (by rw [hv]) (by rw [hv]) hvslots (s.answeredBy_channels b), fun h => ?hold, fun h => ?fetch⟩
  case hold =>
    have hheld := hdata.trans (hhold h)
    have hring := s.afterAnswer_sameRing c img b .ack
    rw [hheld] at hring
    refine ⟨?_, hring.slots.symm, hring.flags.symm⟩
    rw [afterAnswer_ctx, hheld, modCtx_ctx_same, hctx, hv]
    rfl
  case fetch =>
    obtain ⟨-, hgives⟩ := hfetch h
    rw [← hdata] at hgives
    exact hgives.congr ⟨hcfg, rfl, rfl⟩ (s.afterAnswer_sameRing c img b .ack) rfl

end

end State

/-- Settles O45: the ACK by what it acknowledges, between what every answer does to the part. -/
theorem ackMovesTheMessageOn : Obligations.AckMovesTheMessageOn := by
  intro s c img h x pace
  obtain ⟨hframe, -⟩ := h.afterAnswer_frame 0xC3 .ack
  exact ⟨s.afterAnswer c img 0xC3 .ack, congrArg Host.Outcome.next (h.closeWindow_answer rfl), hframe, rfl, rfl,
    s.afterAnswer_offer c img 0xC3 .ack, State.afterAnswer_opened, State.afterAnswer_advanced, State.afterAnswer_completed⟩

end Sys2Proof.Machine

/-! PROOFS. The timers that run out (R90, R92, R123, R134, R136, R141): the looks that follow, the beacon that is due, and the entry
whose age has reached its timeout. -/

namespace Sys2Proof.Machine

/-- Whether a beacon is due beside the latched attempt (R141). -/
theorem not_beaconLatched (s : State) :
    (!s.beaconLatched) =
      match s.arb.latch with
      | some a => decide (a.owner ≠ .beacon)
      | none => true := by
  unfold State.beaconLatched
  cases s.arb.latch with
  | none => rfl
  | some a => by_cases h : a.owner = .beacon <;> simp [h]

namespace State

theorem backoffExpired_running {s : State} {c : ChanId} (h : (s.ctx c).backoff ≠ none) :
    s.backoffExpired c = (s.modCtx c fun x => { x with backoff := none }).look c := if_pos (Option.isSome_iff_ne_none.2 h)

theorem pacingExpired_running {s : State} {c : ChanId} (h : (s.ctx c).pacing ≠ none) :
    s.pacingExpired c = (s.modCtx c fun x => { x with pacing := none }).look c := if_pos (Option.isSome_iff_ne_none.2 h)

theorem settleExpired_running {s : State} (h : s.presence.settle ≠ none) : s.settleExpired = (s.withSettle none).lookWaking :=
  if_pos (Option.isSome_iff_ne_none.2 h)

/-- Looks change the offers and the wake request alone (R79 to R81). -/
theorem lookWhere_eq (s : State) (p : ChanId → Bool) :
    s.lookWhere p =
      { s with
        arb := { s.arb with offers := (s.lookWhere p).arb.offers, wakeRequest := (s.lookWhere p).arb.wakeRequest } } := by
  have hlist : ∀ (l : List ChanId) (t : State),
      ∃ o w, l.foldl (fun (u : State) c => if p c then u.look c else u) t =
        { t with arb := { t.arb with offers := o, wakeRequest := w } } := by
    intro l
    induction l with
    | nil => exact fun t => ⟨_, _, rfl⟩
    | cons c l ih =>
      intro t
      rw [List.foldl_cons]
      split
      case isTrue =>
        obtain ⟨o, w, h⟩ := ih (t.look c)
        exact ⟨o, w, h⟩
      case isFalse => exact ih t
  obtain ⟨o, w, h⟩ := hlist chanList s
  rw [show s.lookWhere p = _ from h]

/-- The SEND channels toward a WAKING peer hold their offers exactly after the settle timer has run out (R81, R136). -/
theorem lookWaking_offers {s : State} {c : ChanId} {a : Station} (hk : (s.cfg c).kind = .send)
    (ha : (s.cfg c).peerStation.toNat = a.val) (hw : (s.entry a).state = .waking) :
    s.lookWaking.arb.offers.get c = s.lookWaking.mayOffer c := by
  have hpeer : s.sendPeer c (fun a => (s.entry a).state == .waking) = true := by
    rw [sendPeer_of hk (stationOf_of_toNat ha), hw]
    rfl
  unfold lookWaking
  rw [lookWhere_offers, lookWhere_mayOffer, if_pos hpeer]

end State

/-- The entry whose age has reached its timeout (R134). -/
theorem Entry.timedOut_eq (e : Entry) :
    e.timedOut =
      if e.state = .present then { e with state := .absent, wakeTried := false }
      else if e.state = .waking then { e with state := .absent, wakeTried := true }
      else e := by
  unfold timedOut
  cases e.state <;> rfl

/-- A timeout changes the entries that can be reached, and no other (R134, R139). -/
theorem Entry.changed_timedOut (e : Entry) : e.changed e.timedOut = true ↔ e.state = .present ∨ e.state = .waking := by
  unfold changed timedOut
  cases h : e.state <;> simp [h]

/-- The own entry has no timeout (R130, R134). -/
theorem Entry.timedOut_self {e : Entry} (h : e.state = .self) : e.timedOut = e := by
  unfold timedOut
  rw [h]

namespace State

theorem timedOut_entry (s : State) (a : Station) : (s.updateEntry a Entry.timedOut).entry a = (s.entry a).timedOut := by
  by_cases h : (s.entry a).state = .self
  · rw [updateEntry, updateEntries_entry, if_pos h, Entry.timedOut_self h]
  · exact updateEntry_entry_same h _

theorem timedOut_mark (s : State) (a : Station) :
    (s.updateEntry a Entry.timedOut).notice.marks.get a = true ↔
      s.notice.marks.get a = true ∨ (s.entry a).state = .present ∨ (s.entry a).state = .waking := by
  rw [updateEntry, updateEntries_mark, ← updateEntry, timedOut_entry, Bool.or_eq_true, Entry.changed_timedOut]

theorem presenceTimedOut_below {s : State} {a : Station}
    (h : (s.entry a).age < 30 * ((s.entry a).interval.getD s.station.beaconInterval).toNat) : s.presenceTimedOut a = s :=
  if_neg fun ⟨_, hreached⟩ => Nat.not_le.2 h ((s.timeoutReached_iff a).1 hreached)

theorem presenceTimedOut_reached {s : State} {a : Station} (hm : s.mc.mode = .listen ∨ s.mc.mode = .active)
    (h : 30 * ((s.entry a).interval.getD s.station.beaconInterval).toNat ≤ (s.entry a).age) :
    s.presenceTimedOut a = s.updateEntry a Entry.timedOut :=
  if_pos ⟨(Mode.listens_iff _).2 hm, (s.timeoutReached_iff a).2 h⟩

end State

/-- Settles O53: each expiry by its branch for a timer that runs; the settle timer by the looks toward WAKING peers, a presence
timeout by the one entry that it changes. -/
theorem timersExpire : Obligations.TimersExpire := by
  refine ⟨fun s c h => congrArg Host.Outcome.next (State.backoffExpired_running h),
    fun s c h => congrArg Host.Outcome.next (State.pacingExpired_running h), fun s c => rfl, fun s hm h => ?beacon,
    fun s h => ?settle, fun s a hm => ⟨fun hage => congrArg Host.Outcome.next (State.presenceTimedOut_below hage),
      fun hage => ?timeout⟩⟩
  case beacon =>
    refine congrArg Host.Outcome.next ((if_pos ⟨hm, Option.isSome_iff_ne_none.2 h⟩ : s.beaconExpired = _).trans ?_)
    rw [not_beaconLatched]
    rfl
  case settle =>
    let t := (s.withSettle none).lookWaking
    have ht : t = _ := (s.withSettle none).lookWhere_eq _
    have hpresence : t.presence = { s.presence with settle := none } := State.lookWhere_presence _ _
    refine ⟨t, congrArg Host.Outcome.next (State.settleExpired_running h), hpresence,
      fun c a hk ha hw => State.lookWaking_offers (s := s.withSettle none) hk ha hw, ?_⟩
    rw [hpresence]
    exact ht
  case timeout =>
    refine ⟨_, congrArg Host.Outcome.next (State.presenceTimedOut_reached hm hage),
      (s.timedOut_entry a).trans (s.entry a).timedOut_eq, fun b hb => State.updateEntry_entry_ne s hb _, s.timedOut_mark a, ?_⟩
    simp

end Sys2Proof.Machine

/-! PROOFS. The operations of a TAKE channel as one record: its context and flags, the Descriptor Table and Buffer RAM are all that
they move (R57, R69 to R72, R97, R109 to R115). -/

namespace Sys2Proof.Machine

/-- A slot written back (R57). -/
def Slot.writtenBack (d : Slot) (st : Status) (n : Nat) (msgNo : Byte) (endMark : Bool) : Slot :=
  { d with valid := false, endMark := endMark, status := st.code, count := BitVec.ofNat 12 n, msgNo := msgNo }

/-- A slot written back twice shows the second write-back alone. -/
theorem Slot.writtenBack_writtenBack (d : Slot) (st st' : Status) (n n' : Nat) (m m' : Byte) (e e' : Bool) :
    (d.writtenBack st n m e).writtenBack st' n' m' e' = d.writtenBack st' n' m' e' := rfl

/-- A context whose channel has written back a slot: HOLDING where the slot asks for it and the channel stood in RUNNING (R72). -/
def Context.closing (x : Context) (d : Slot) : Context :=
  { x with state := if (d.notify && d.hold && decide (x.state = .running)) = true then .holding else x.state }

/-- The flags of a channel that has written back a slot (R71). -/
def ChanFlags.noting (f : ChanFlags) (d : Slot) : ChanFlags := { f with done := f.done || d.notify }

namespace State

/-- The part with one channel's context and flags, the Descriptor Table and Buffer RAM at other values. -/
def withChannel (s : State) (c : ChanId) (x : Context) (w : Table 64 Slot) (f : ChanFlags) (m : Memory) : State :=
  { s with
    contexts := s.contexts.set c x, slots := w, ram := m
    notice := { s.notice with channels := s.notice.channels.set c f } }

theorem withChannel_self (s : State) (c : ChanId) :
    s.withChannel c (s.ctx c) s.slots (s.notice.channels.get c) s.ram = s := by
  rw [withChannel, ctx, Table.set_get, Table.set_get]

section
variable (s : State) (c : ChanId) (x : Context) (w : Table 64 Slot) (f : ChanFlags) (m : Memory)

@[simp] theorem withChannel_ctx : (s.withChannel c x w f m).ctx c = x := Table.get_set_same _ _ _

@[simp] theorem withChannel_flags : (s.withChannel c x w f m).notice.channels.get c = f := Table.get_set_same _ _ _

@[simp] theorem withChannel_slots : (s.withChannel c x w f m).slots = w := rfl

@[simp] theorem withChannel_slot (i : SlotId) : (s.withChannel c x w f m).slot i = w.get i := rfl

@[simp] theorem withChannel_ram : (s.withChannel c x w f m).ram = m := rfl

@[simp] theorem withChannel_line : (s.withChannel c x w f m).line = s.line := rfl

@[simp] theorem withChannel_cfg (d : ChanId) : (s.withChannel c x w f m).cfg d = s.cfg d := rfl

@[simp] theorem withChannel_withChannel (y : Context) (v : Table 64 Slot) (g : ChanFlags) (l : Memory) :
    (s.withChannel c x w f m).withChannel c y v g l = s.withChannel c y v g l := by
  simp [withChannel]

theorem modCtx_eq_withChannel (g : Context → Context) :
    s.modCtx c g = s.withChannel c (g (s.ctx c)) s.slots (s.notice.channels.get c) s.ram := by
  rw [withChannel, Table.set_get, modCtx]

@[simp] theorem modCtx_withChannel (g : Context → Context) :
    (s.withChannel c x w f m).modCtx c g = s.withChannel c (g x) w f m := by
  rw [modCtx_eq_withChannel, withChannel_withChannel, withChannel_ctx, withChannel_flags]
  rfl

@[simp] theorem store_withChannel (a : Offset) (bytes : List Byte) :
    (s.withChannel c x w f m).store a bytes = s.withChannel c x w f (Memory.writeBytes m a bytes) := rfl

@[simp] theorem stepWalker_withChannel :
    (s.withChannel c x w f m).stepWalker c = s.withChannel c { x with walker := (s.cfg c).next x.walker } w f m :=
  modCtx_withChannel s c x w f m _

end

/-! ### Write-backs and cuts -/

theorem writeBack_eq_withChannel (s : State) (c : ChanId) (i : SlotId) (st : Status) (n : Nat) (e : Bool) :
    s.writeBack c i st n (some e) =
      s.withChannel c (s.ctx c) (s.slots.set i ((s.slot i).writtenBack st n (s.ctx c).msgNo e))
        ((s.notice.channels.get c).noting (s.slot i)) s.ram := by
  rw [writeBack_eq, withChannel, ctx, Table.set_get]
  cases h : (s.slot i).notify with
  | true => simp [ChanFlags.noting, h, Slot.writtenBack]
  | false =>
    have hsame : (s.notice.channels.get c).noting (s.slot i) = s.notice.channels.get c := by simp [ChanFlags.noting, h]
    rw [hsame, Table.set_get]
    rfl

theorem holdAfter_eq (s : State) (c : ChanId) (d : Slot) : s.holdAfter c d.holds = s.modCtx c fun x => x.closing d := by
  unfold holdAfter Slot.holds
  split
  case isTrue h => exact modCtx_congr (by simp [Context.closing, h.1, h.2])
  case isFalse h =>
    have hsame : (s.ctx c).closing d = s.ctx c := by
      unfold Context.closing
      rw [if_neg (by simpa [Bool.and_eq_true] using h)]
    rw [modCtx, hsame, ctx, Table.set_get]

/-- A current descriptor written back (R70, R72). -/
theorem closeCurrent_eq_withChannel (s : State) (c : ChanId) (d : SlotCopy) (st : Status) (e : Bool) :
    s.closeCurrent c d st e =
      s.withChannel c ((s.ctx c).closing (s.slot d.slot))
        (s.slots.set d.slot ((s.slot d.slot).writtenBack st (s.ctx c).bytesUsed (s.ctx c).msgNo e))
        ((s.notice.channels.get c).noting (s.slot d.slot)) s.ram := by
  rw [closeCurrent, holdAfter_eq, writeBack_eq_withChannel, modCtx_withChannel]

theorem cut_eq_withChannel {s : State} {c : ChanId} {d : SlotCopy} (h : (s.ctx c).current = some d) :
    s.cut c =
      s.withChannel c ((s.ctx c).closing (s.slot d.slot)).endMessage
        (s.slots.set d.slot ((s.slot d.slot).writtenBack .cut (s.ctx c).bytesUsed (s.ctx c).msgNo true))
        ((s.notice.channels.get c).noting (s.slot d.slot)) s.ram := by
  rw [cut, h]
  dsimp only
  rw [closeCurrent_eq_withChannel, modCtx_withChannel]

end State

end Sys2Proof.Machine

/-! PROOFS. What the invariants of R58, R85, R87 and R97 read of a context, and what one context's change keeps of them. -/

namespace Sys2Proof.Machine

/-! ### A walk stays in its ring (R58) -/

namespace ChanConfig

/-- The slot after a slot of a ring that lies within slots 0 to 63 is a slot of the ring. -/
theorem next_inRing {g : ChanConfig} (hfit : g.ringBase.toNat + g.ringLength.toNat ≤ 64) {i : SlotId} (h : g.inRing i) :
    g.inRing (g.next i) := by
  obtain ⟨hlow, hhigh⟩ := h
  unfold next
  split
  case isTrue hlast =>
    have hbase : g.base.val = g.ringBase.toNat := by simp [base]
    exact ⟨by omega, by omega⟩
  case isFalse hlast =>
    have hval : (i + 1 : SlotId).val = i.val + 1 := by
      rw [Fin.val_add]
      exact Nat.mod_eq_of_lt (by simp; omega)
    exact ⟨by omega, by omega⟩

/-- A ring of at least one slot holds its base. -/
theorem base_inRing {g : ChanConfig} (h : 1 ≤ g.ringLength.toNat) : g.inRing g.base := by
  have hbase : g.base.val = g.ringBase.toNat := by simp [base]
  exact ⟨by omega, by omega⟩

end ChanConfig

/-- The walk of CLEAR ends in its ring (R53). -/
theorem State.abortWalk_inRing {c : ChanId} (n : Nat) (s : State) (i : SlotId)
    (hfit : (s.cfg c).ringBase.toNat + (s.cfg c).ringLength.toNat ≤ 64) (h : (s.cfg c).inRing i) :
    (s.cfg c).inRing (s.abortWalk c i n).2 := by
  induction n generalizing s i with
  | zero => exact h
  | succ n ih =>
    unfold abortWalk
    split
    · have hcfg : (s.writeBack c i .aborted 0 none).cfg c = s.cfg c := by simp
      rw [← hcfg] at hfit h ⊢
      exact ih _ _ hfit (ChanConfig.next_inRing hfit h)
    · exact h

/-! ### What the invariants say of one context -/

namespace Context

/-- A channel's ring lies within slots 0 to 63 and holds both its indexes (R58). -/
def IndexesIn (x : Context) (g : ChanConfig) : Prop :=
  g.ringBase.toNat + g.ringLength.toNat ≤ 64 ∧ g.inRing x.walker ∧ g.inRing x.msgStart

/-- A retry count within its limit, and a NAK count below a NAK patience that is not 0 (R85, R87). -/
def CountsWithin (x : Context) (k : StationConfig) : Prop :=
  x.retry ≤ k.retryLimit.toNat ∧ (k.nakPatience ≠ 0 → x.nak < k.nakPatience.toNat)

theorem countsWithin_zero {x : Context} (hretry : x.retry = 0) (hnak : x.nak = 0) (k : StationConfig) : x.CountsWithin k := by
  refine ⟨by omega, fun hp => ?_⟩
  have : k.nakPatience.toNat ≠ 0 := fun h => hp (BitVec.eq_of_toNat_eq h)
  omega

/-- An acceptance record, if there is one, has been withdrawn (R113). -/
def Unpledged (x : Context) : Prop := ∀ r, x.acceptance = some r → r.withdrawn = true

theorem unpledged_none {x : Context} (h : x.acceptance = none) : x.Unpledged := fun r hr => by
  rw [h] at hr
  cases hr

/-- Without a record that is still to store, the open message alone is to be exact (R97). -/
theorem openExact_of_unpledged {x : Context} (h : x.Unpledged) (ho : x.openMsg = true ↔ x.current.isSome = true) : x.OpenExact :=
  ⟨ho, fun r _ hr _ _ hw => by rw [h r hr] at hw; cases hw⟩

/-- All that the three invariants read of a context. -/
def bounds (x : Context) : Bool × Option SlotCopy × Option Acceptance × SlotId × SlotId × Nat × Nat :=
  (x.openMsg, x.current, x.acceptance, x.walker, x.msgStart, x.retry, x.nak)

/-- From context `x` of a channel to context `y` each of the three invariants is kept. -/
structure Upholds (g : ChanConfig) (k : StationConfig) (x y : Context) : Prop where
  opened : x.OpenExact → y.OpenExact
  indexes : x.IndexesIn g → y.IndexesIn g
  counts : x.CountsWithin k → y.CountsWithin k

namespace Upholds

variable {g : ChanConfig} {k : StationConfig} {x y z : Context}

theorem trans (h : x.Upholds g k y) (h' : y.Upholds g k z) : x.Upholds g k z :=
  ⟨h'.opened ∘ h.opened, h'.indexes ∘ h.indexes, h'.counts ∘ h.counts⟩

/-- A change of fields that none of the invariants reads. -/
theorem of_bounds (h : y.bounds = x.bounds) : x.Upholds g k y := by
  simp only [bounds, Prod.mk.injEq] at h
  obtain ⟨hopen, hcurrent, hacceptance, hwalker, hstart, hretry, hnak⟩ := h
  refine ⟨fun ⟨h1, h2⟩ => ⟨?_, fun r w hr => ?_⟩, fun h => ?_, fun h => ?_⟩
  · rwa [hopen, hcurrent]
  · rw [hacceptance] at hr
    rw [hcurrent]
    exact h2 r w hr
  · rwa [IndexesIn, hwalker, hstart]
  · rwa [CountsWithin, hretry, hnak]

theorem refl (x : Context) : x.Upholds g k x := of_bounds rfl

/-- Another acceptance record, which says nothing new where it stores into the current descriptor (R97). -/
theorem record (r : Option Acceptance)
    (hr : ∀ a w, r = some a → a.form = .store w → w.target = .current → a.withdrawn = false →
      w.closes = .nothing ∧ x.current.isSome = true) : x.Upholds g k { x with acceptance := r } :=
  ⟨fun h => ⟨h.1, hr⟩, id, id⟩

theorem clearRecord (x : Context) : x.Upholds g k { x with acceptance := none } := record none fun _ _ h => by cases h

/-- A message that has ended, with no record still to store (R110, R114). -/
theorem endMessage (h : x.Unpledged) : x.Upholds g k x.endMessage :=
  ⟨fun _ => openExact_of_unpledged h (by simp [Context.endMessage]), id, id⟩

theorem stepWalker : x.Upholds g k { x with walker := g.next x.walker } :=
  ⟨id, fun ⟨hfit, hwalker, hstart⟩ => ⟨hfit, ChanConfig.next_inRing hfit hwalker, hstart⟩, id⟩

/-- A message of a sending channel that is over, the next one starting at the walker (R67). -/
theorem restart : x.Upholds g k { x with msgStart := x.walker } :=
  ⟨id, fun ⟨hfit, hwalker, _⟩ => ⟨hfit, hwalker, hwalker⟩, id⟩

/-- A message given up, both indexes at one slot of the ring (R53, R64, R65). -/
theorem dropMessage {i : SlotId} (h : x.IndexesIn g → g.inRing i) : x.Upholds g k (x.dropMessage i) :=
  ⟨id, fun hx => ⟨hx.1, h hx, h hx⟩, fun _ => countsWithin_zero rfl rfl k⟩

/-- Other counts. -/
theorem counting (retry nak : Nat)
    (h : x.CountsWithin k → retry ≤ k.retryLimit.toNat ∧ (k.nakPatience ≠ 0 → nak < k.nakPatience.toNat))
    (hy : y.bounds = ({ x with retry := retry, nak := nak } : Context).bounds) : x.Upholds g k y :=
  trans (y := { x with retry := retry, nak := nak }) ⟨id, id, h⟩ (of_bounds hy)

end Upholds

end Context

namespace State

theorem indexesInRing_iff (s : State) :
    s.IndexesInRing ↔ (s.mc.mode ≠ .setup → ∀ c, (s.cfg c).kind ≠ .off → (s.ctx c).IndexesIn (s.cfg c)) := Iff.rfl

theorem countsBounded_iff (s : State) :
    s.CountsBounded ↔ (s.mc.mode ≠ .setup → ∀ c, (s.ctx c).CountsWithin s.station) := Iff.rfl

/-- What the three invariants read of a part, the mode apart. -/
def boundsView (s : State) : StationConfig × Table 16 ChanConfig × Table 16 Context := (s.station, s.configs, s.contexts)

end State

/-! ### What an operation keeps -/

/-- From `s` to `t` both configurations stand, SETUP is not left, and each context keeps the three invariants. -/
structure Upholds (s t : State) : Prop where
  mode : s.mc.mode = .setup → t.mc.mode = .setup
  station : t.station = s.station
  configs : t.configs = s.configs
  ctx : ∀ c, (s.ctx c).Upholds (s.cfg c) s.station (t.ctx c)

namespace Upholds

variable {s t u : State} {c : ChanId}

theorem cfg (h : Upholds s t) (d : ChanId) : t.cfg d = s.cfg d := by rw [State.cfg, h.configs, ← State.cfg]

theorem trans (h : Upholds s t) (k : Upholds t u) : Upholds s u := by
  refine ⟨k.mode ∘ h.mode, k.station.trans h.station, k.configs.trans h.configs, fun d => (h.ctx d).trans ?_⟩
  rw [← h.cfg, ← h.station]
  exact k.ctx d

/-- An operation that leaves contexts and configurations. -/
theorem of_view (h : t.boundsView = s.boundsView) (hmode : s.mc.mode = .setup → t.mc.mode = .setup) : Upholds s t := by
  simp only [State.boundsView, Prod.mk.injEq] at h
  obtain ⟨hstation, hconfigs, hcontexts⟩ := h
  refine ⟨hmode, hstation, hconfigs, fun d => ?_⟩
  rw [State.ctx, State.ctx, hcontexts]
  exact .refl _

/-- An operation that leaves contexts, configurations and the Mode Controller. -/
theorem of_same (h : t.boundsView = s.boundsView) (hmc : t.mc = s.mc) : Upholds s t := .of_view h fun hm => by rw [hmc, hm]

theorem refl (s : State) : Upholds s s := .of_same rfl rfl

/-- An operation of one channel. -/
theorem of_local (h : Local s t c) (hstation : t.station = s.station) (hconfigs : t.configs = s.configs) (hmc : t.mc = s.mc)
    (hctx : (s.ctx c).Upholds (s.cfg c) s.station (t.ctx c)) : Upholds s t := by
  refine ⟨fun hm => by rw [hmc, hm], hstation, hconfigs, fun d => ?_⟩
  by_cases hd : d = c
  · rw [hd]
    exact hctx
  · rw [h.ctx d hd]
    exact .refl _

/-- One context changed. -/
theorem modCtx {f : Context → Context} (h : (s.ctx c).Upholds (s.cfg c) s.station (f (s.ctx c))) : Upholds s (s.modCtx c f) :=
  .of_local (.modCtx s c f) rfl rfl rfl (by rw [State.modCtx_ctx_same]; exact h)

/-- One context changed in fields that the invariants do not read. -/
theorem modCtx_bounds {f : Context → Context} (h : (f (s.ctx c)).bounds = (s.ctx c).bounds) : Upholds s (s.modCtx c f) :=
  .modCtx (.of_bounds h)

end Upholds

end Sys2Proof.Machine

/-! PROOFS. Open messages, indexes and counts under the operations of one channel (R47 to R128). -/

namespace Sys2Proof.Machine

namespace State

/-! ### The first steps of a STORE commit (R109) -/

/-- The current descriptor closed DONE, its message going on in another one (R109). -/
def closeDone (s : State) (c : ChanId) : State :=
  match (s.ctx c).current with
  | some d => (s.closeCurrent c d .done false).modCtx c fun x => { x with current := none, bytesUsed := 0 }
  | none => s

/-- What becomes of the current descriptor before a frame is stored (R109). -/
def closedFor (s : State) (c : ChanId) : Closes → State
  | .cut => s.cut c
  | .done => s.closeDone c
  | .nothing => s

theorem commitTarget_current {w : StoreWork} (h : w.target = .current) (s : State) (c : ChanId) :
    s.commitTarget c w = s.closedFor c w.closes := by
  unfold commitTarget
  rw [h]
  cases w.closes <;> rfl

theorem commitTarget_found {w : StoreWork} {d : SlotCopy} (h : w.target = .found d) (s : State) (c : ChanId) :
    s.commitTarget c w =
      ((s.closedFor c w.closes).stepWalker c).modCtx c fun x => { x with current := some d, bytesUsed := 0 } := by
  unfold commitTarget
  rw [h]
  cases w.closes <;> rfl

@[simp] theorem closedFor_cfg (s : State) (c : ChanId) (k : Closes) (d : ChanId) : (s.closedFor c k).cfg d = s.cfg d := by
  cases k with
  | cut => exact s.cut_cfg c d
  | done =>
    show (s.closeDone c).cfg d = s.cfg d
    unfold closeDone
    split <;> simp
  | nothing => rfl

end State

/-- What the invariants read of a context, its open message apart. -/
def Context.outerBounds (x : Context) : Option Acceptance × SlotId × SlotId × Nat × Nat := x.bounds.2.2

/-- Another message within the bounds that are kept (R97). -/
theorem Context.Upholds.reopened {g : ChanConfig} {k : StationConfig} {x y z : Context} (h : x.Upholds g k y)
    (hz : z.outerBounds = y.outerBounds) (ho : x.OpenExact → z.OpenExact) : x.Upholds g k z := by
  simp only [outerBounds, bounds, Prod.mk.injEq] at hz
  obtain ⟨-, hwalker, hstart, hretry, hnak⟩ := hz
  refine ⟨ho, fun hx => ?_, fun hx => ?_⟩
  · rw [IndexesIn, hwalker, hstart]
    exact h.indexes hx
  · rw [CountsWithin, hretry, hnak]
    exact h.counts hx

theorem Context.acceptance_of_outerBounds {x y : Context} (h : y.outerBounds = x.outerBounds) : y.acceptance = x.acceptance :=
  congrArg Prod.fst h

namespace State

theorem closeCurrent_bounds (s : State) (c : ChanId) (d : SlotCopy) (st : Status) (e : Bool) :
    ((s.closeCurrent c d st e).ctx c).bounds = (s.ctx c).bounds := by
  rw [closeCurrent_eq_withChannel, withChannel_ctx]
  rfl

theorem closeCurrent_outerBounds (s : State) (c : ChanId) (d : SlotCopy) (st : Status) (e : Bool) :
    ((s.closeCurrent c d st e).ctx c).outerBounds = (s.ctx c).outerBounds :=
  congrArg (fun b => b.2.2) (s.closeCurrent_bounds c d st e)

theorem closedFor_outerBounds (s : State) (c : ChanId) (k : Closes) :
    ((s.closedFor c k).ctx c).outerBounds = (s.ctx c).outerBounds := by
  cases k with
  | cut =>
    show ((s.cut c).ctx c).outerBounds = _
    unfold cut
    split
    · rw [modCtx_ctx_same]
      exact s.closeCurrent_outerBounds c _ _ _
    · rfl
  | done =>
    show ((s.closeDone c).ctx c).outerBounds = _
    unfold closeDone
    split
    · rw [modCtx_ctx_same]
      exact s.closeCurrent_outerBounds c _ _ _
    · rfl
  | nothing => rfl

/-- The context whose channel has stored the bytes of a frame (R109). -/
theorem commitBytes_ctx (s : State) (c : ChanId) (w : StoreWork) :
    (s.commitBytes c w).ctx c =
      { s.ctx c with
        bytesUsed := (s.ctx c).bytesUsed + w.payload.length
        openMsg := true
        openBytes := (if w.position.begins then 0 else (s.ctx c).openBytes) + w.payload.length
        toggle := !(s.ctx c).toggle
        acc := (if w.position.begins then ChainAcc.cleared else (s.ctx c).acc).feedAll w.payload
        drainNoted := false } := by
  unfold commitBytes
  dsimp only
  rw [modCtx_ctx_same]
  split <;> rfl

/-- A received message completed: its current descriptor closed, and the message ended (R110). -/
theorem completeTaken_open {s : State} {c : ChanId} {d : SlotCopy} (h : (s.ctx c).current = some d) (sum : Option Word) :
    s.completeTaken c sum =
      (s.closeCurrent c d (if sum = some (s.ctx c).acc.close then .endS else .sumError) true).modCtx c Context.endMessage := by
  simp only [completeTaken, h]

end State

/-! ### The operations of any channel -/

namespace Upholds

variable {s t : State} {c : ChanId}

theorem writeBack (s : State) (c : ChanId) (i : SlotId) (st : Status) (n : Nat) (e : Option Bool) :
    Upholds s (s.writeBack c i st n e) := .of_same (by simp [State.boundsView]) (by simp)

theorem writeBackList (s : State) (c : ChanId) (st : Status) (n : SlotCopy → Nat) (l : List SlotCopy) :
    Upholds s (s.writeBackList c st n l) := .of_same (by simp [State.boundsView]) (by simp)

theorem enterHalted (s : State) (c : ChanId) (cause : HaltCause) : Upholds s (s.enterHalted c cause) :=
  .of_local (State.enterHalted_local s c cause) (by simp) (by simp) (by simp)
    (.of_bounds (by rw [State.enterHalted_ctx_same]; rfl))

theorem look (s : State) (c : ChanId) : Upholds s (s.look c) := .of_same rfl rfl

theorem stepWalker (s : State) (c : ChanId) : Upholds s (s.stepWalker c) := .modCtx .stepWalker

/-- One context changed after an operation that has left it. -/
theorem thenCtx (h : Upholds s t) (hsame : t.ctx c = s.ctx c) {f : Context → Context}
    (hf : (s.ctx c).Upholds (s.cfg c) s.station (f (s.ctx c))) : Upholds s (t.modCtx c f) :=
  h.trans (.modCtx (by rw [hsame, h.cfg, h.station]; exact hf))

/-! ### Fetching and completing (R62 to R67) -/

theorem fetchTooLong (s : State) (c : ChanId) : Upholds s (s.fetchTooLong c) := by
  unfold State.fetchTooLong
  exact ((writeBackList s c _ _ _).thenCtx (by simp) (.dropMessage fun h => h.2.1)).trans (.enterHalted _ c _)

theorem fetchBadRange (s : State) (c : ChanId) : Upholds s (s.fetchBadRange c) := by
  unfold State.fetchBadRange
  have hwritten := (writeBackList s c .aborted (fun _ => 0) (s.ctx c).fetched).trans
    (.writeBack _ c (s.ctx c).walker .badRange 0 none)
  exact (hwritten.thenCtx (by simp) (.dropMessage fun h => ChanConfig.next_inRing h.1 h.2.1)).trans (.enterHalted _ c _)

theorem fetchDry (s : State) (c : ChanId) : Upholds s (s.fetchDry c) := by
  unfold State.fetchDry
  split
  · exact (modCtx_bounds (f := fun x => { x with state := .drained }) rfl).trans (.of_same rfl rfl)
  · exact .refl s

theorem fetchOne (s : State) (c : ChanId) : Upholds s (s.fetchOne c) :=
  .modCtx (Context.Upholds.stepWalker.trans (.of_bounds rfl))

theorem fetchLoop (c : ChanId) (n : Nat) (s : State) : Upholds s (s.fetchLoop c n) := by
  induction n generalizing s with
  | zero => exact .refl s
  | succ n ih =>
    unfold State.fetchLoop
    dsimp only
    split
    · exact .modCtx_bounds rfl
    split
    · exact .fetchTooLong s c
    split
    · exact .fetchDry s c
    split
    · exact .fetchBadRange s c
    split
    · exact (fetchOne s c).trans (.fetchTooLong _ c)
    · exact (fetchOne s c).trans (ih _)

theorem fetch (s : State) (c : ChanId) : Upholds s (s.fetch c) := by
  unfold State.fetch
  split
  · exact .refl s
  · exact .fetchLoop c 65 s

theorem completeMessage (s : State) (c : ChanId) : Upholds s (s.completeMessage c) := by
  have hover (b : Prop) [Decidable b] :
      Upholds s ((s.writeBackList c .done (fun d => d.length.toNat) (s.ctx c).fetched).modCtx c fun x =>
        { x with
          msgNo := x.msgNo + 1, fetched := [], msgStart := x.walker, stream := 0, acc := .cleared
          state := if b ∧ x.state = .running then .holding else x.state }) :=
    (writeBackList s c _ _ _).thenCtx (by simp) (Context.Upholds.restart.trans (.of_bounds rfl))
  unfold State.completeMessage
  dsimp only
  split
  · exact (hover _).trans (.fetch _ c)
  · exact hover _

/-! ### Space searches and TAKE channels (R69, R98 to R115) -/

theorem searchLoop (c : ChanId) (n : Nat) (s : State) : Upholds s (s.searchLoop c n).1 := by
  induction n generalizing s with
  | zero => exact .refl s
  | succ n ih =>
    unfold State.searchLoop
    dsimp only
    split
    · exact .refl s
    split
    · exact .refl s
    split
    · exact ((writeBack s c _ _ _ _).trans (.stepWalker _ c)).trans (.enterHalted _ c _)
    split
    · exact ((writeBack s c _ _ _ _).trans (.stepWalker _ c)).trans (ih _)
    · exact .refl s

theorem search {r : Search} (h : s.search c = (t, r)) : Upholds s t := by
  have hsearch := searchLoop c (s.cfg c).ringLength.toNat s
  rw [← State.search, h] at hsearch
  exact hsearch

/-- An ACK whose record, where it stores into the current descriptor, closes nothing and finds one (R97, R106). -/
theorem accept {form : AcceptForm}
    (h : ∀ w, form = .store w → w.target = .current → w.closes = .nothing ∧ (s.ctx c).current.isSome = true) :
    Upholds s (s.accept c form).1 := by
  refine modCtx (f := fun x => { x with acceptance := some { form := form, withdrawn := false } })
    (.record _ fun a w ha hform hcurrent _ => ?_)
  obtain rfl := Option.some.inj ha
  exact h w hform hcurrent

theorem lackOfSpace (s : State) (c : ChanId) : Upholds s (s.lackOfSpace c) := by
  unfold State.lackOfSpace
  split
  · exact .refl s
  · exact (modCtx_bounds (f := fun x => { x with drainNoted := true }) rfl).trans (.of_same rfl rfl)

theorem decideFresh (s : State) (c : ChanId) (f : Frame) (k : Closes) : Upholds s (s.decideFresh c f k).1 := by
  unfold State.decideFresh
  split
  case h_1 hfound =>
    refine (search hfound).trans (.accept fun w hw hcurrent => ?_)
    obtain rfl := AcceptForm.store.inj hw
    cases hcurrent
  case h_2 hnone => exact (search hnone).trans (.lackOfSpace _ c)
  case h_3 hbad => exact search hbad

theorem decideData (s : State) (c : ChanId) (f : Frame) : Upholds s (s.decideData c f).1 := by
  unfold State.decideData
  dsimp only
  split
  · exact .decideFresh s c f _
  split
  · exact .refl s
  split
  case isTrue hroom =>
    refine .accept fun w hw _ => ?_
    obtain rfl := AcceptForm.store.inj hw
    refine ⟨rfl, ?_⟩
    unfold Context.hasRoom at hroom
    split at hroom
    case h_1 hcurrent => simp [hcurrent]
    case h_2 => cases hroom
  case isFalse => exact .decideFresh s c f _

theorem decide (s : State) (c : ChanId) (f : Frame) : Upholds s (s.decide c f).1 := by
  unfold State.decide
  dsimp only
  split
  · exact .refl s
  split
  · exact .refl s
  split
  case h_5 =>
    split
    · exact .accept nofun
    · exact .refl s
  case h_6 =>
    split
    · exact .accept nofun
    split
    · exact .accept nofun
    · exact .decideData s c f
  all_goals exact .refl s

/-- A cut, no record being still to store (R114). -/
theorem cut (h : (s.ctx c).Unpledged) : Upholds s (s.cut c) := by
  refine .of_local (State.cut_local s c) (by simp) (by simp) (by simp) ?_
  cases hcurrent : (s.ctx c).current with
  | none =>
    rw [State.cut_none s c hcurrent]
    exact .refl _
  | some d =>
    rw [State.cut_eq_withChannel hcurrent, State.withChannel_ctx]
    exact (Context.Upholds.endMessage h).trans (.of_bounds rfl)

end Upholds

namespace State

theorem completeTaken_outerBounds (s : State) (c : ChanId) (sum : Option Word) :
    ((s.completeTaken c sum).ctx c).outerBounds = (s.ctx c).outerBounds := by
  unfold completeTaken
  dsimp only
  split
  · rw [modCtx_ctx_same]
    exact s.closeCurrent_outerBounds c _ _ _
  · rfl

/-- A completed message is open no more, and has no descriptor (R110). -/
theorem completeTaken_closes {s : State} {c : ChanId} {d : SlotCopy} (h : (s.ctx c).current = some d) (sum : Option Word) :
    ((s.completeTaken c sum).ctx c).openMsg = false ∧ ((s.completeTaken c sum).ctx c).current = none := by
  rw [completeTaken_open h, modCtx_ctx_same]
  exact ⟨rfl, rfl⟩

theorem commitStore_outerBounds (s : State) (c : ChanId) (w : StoreWork) :
    ((s.commitStore c w).ctx c).outerBounds = ((s.commitTarget c w).ctx c).outerBounds := by
  have hbytes : (((s.commitTarget c w).commitBytes c w).ctx c).outerBounds = ((s.commitTarget c w).ctx c).outerBounds := by
    rw [commitBytes_ctx]
    rfl
  unfold commitStore
  dsimp only
  split
  · rw [completeTaken_outerBounds, hbytes]
  · exact hbytes

/-- A STORE commit ends with its message open on a descriptor, or with none of both (R109, R110). -/
theorem commitStore_opened {s : State} {c : ChanId} {w : StoreWork} (h : ((s.commitTarget c w).ctx c).current.isSome = true) :
    ((s.commitStore c w).ctx c).openMsg = true ↔ ((s.commitStore c w).ctx c).current.isSome = true := by
  have hbytes := (s.commitTarget c w).commitBytes_ctx c w
  obtain ⟨d, hd⟩ := Option.isSome_iff_exists.1 h
  have hcurrent : (((s.commitTarget c w).commitBytes c w).ctx c).current = some d := by rw [hbytes, hd]
  unfold commitStore
  dsimp only
  split
  · obtain ⟨hopen, hnone⟩ := completeTaken_closes hcurrent w.sum
    simp [hopen, hnone]
  · simp [hbytes, hd]

end State

namespace Upholds

variable {s : State} {c : ChanId}

/-- The commit of a STORE record that the context `x` has held, the record being gone already (R108, R109). -/
theorem commitStore_upholds {x : Context} {w : StoreWork} (hx : s.ctx c = { x with acceptance := none })
    (hw : x.OpenExact → w.target = .current → w.closes = .nothing ∧ x.current.isSome = true) :
    x.Upholds (s.cfg c) s.station ((s.commitStore c w).ctx c) := by
  have hbounds := s.commitStore_outerBounds c w
  have hclosed := s.closedFor_outerBounds c w.closes
  have hopened (h : ((s.commitTarget c w).ctx c).current.isSome = true)
      (ho : ((s.commitStore c w).ctx c).acceptance = none) : ((s.commitStore c w).ctx c).OpenExact :=
    Context.openExact_of_unpledged (Context.unpledged_none ho) (State.commitStore_opened h)
  cases htarget : w.target with
  | current =>
    rw [State.commitTarget_current htarget] at hbounds hopened
    have hkept := hbounds.trans (hclosed.trans (congrArg Context.outerBounds hx))
    refine (Context.Upholds.clearRecord x).reopened hkept fun ho => ?_
    obtain ⟨hcloses, hcurrent⟩ := hw ho htarget
    refine hopened ?_ (Context.acceptance_of_outerBounds hkept)
    rw [hcloses]
    show (s.ctx c).current.isSome = true
    rw [hx]
    exact hcurrent
  | found d =>
    have hctx : (s.commitTarget c w).ctx c =
        { (s.closedFor c w.closes).ctx c with
          walker := (s.cfg c).next ((s.closedFor c w.closes).ctx c).walker, current := some d, bytesUsed := 0 } := by
      rw [State.commitTarget_found htarget, State.modCtx_ctx_same, State.stepWalker, State.modCtx_ctx_same, State.closedFor_cfg]
    simp only [Context.outerBounds, Context.bounds, Prod.mk.injEq] at hclosed
    obtain ⟨hacceptance, hwalker, hstart, hretry, hnak⟩ := hclosed
    rw [hctx] at hbounds hopened
    have hstepped : ((s.commitStore c w).ctx c).outerBounds =
        ({ x with acceptance := none, walker := (s.cfg c).next x.walker } : Context).outerBounds := by
      rw [hbounds]
      simp only [Context.outerBounds, Context.bounds, hacceptance, hwalker, hstart, hretry, hnak, hx]
    exact ((Context.Upholds.clearRecord x).trans .stepWalker).reopened hstepped fun _ =>
      hopened rfl (Context.acceptance_of_outerBounds hstepped)

/-- The commit of a record (R108 to R113). -/
theorem commit (s : State) (c : ChanId) : Upholds s (s.commit c) := by
  let t := s.modCtx c fun x => { x with acceptance := none }
  have hcleared : Upholds s t := modCtx (f := fun x => { x with acceptance := none }) (.clearRecord _)
  have htctx : t.ctx c = { s.ctx c with acceptance := none } := State.modCtx_ctx_same _ _ _
  unfold State.commit
  split
  case h_1 => exact .refl s
  case h_2 r hr =>
    dsimp only
    split
    · unfold State.commitWithdrawn
      split <;> exact hcleared.trans (.modCtx_bounds rfl)
    case isFalse hpledged =>
    split
    case h_1 w hstore =>
      refine .of_local (t := t.commitStore c w) ((Local.modCtx s c _).trans (State.commitStore_local t c w)) (by simp [t]) (by simp [t])
        (by simp [t]) (commitStore_upholds htctx fun ho hcurrent => ?_)
      exact ho.2 r w hr hstore hcurrent (by simpa using hpledged)
    case h_2 =>
      exact (hcleared.trans (.cut (Context.unpledged_none (by rw [htctx])))).trans (.modCtx_bounds rfl)
    case h_3 => exact hcleared.trans (.modCtx_bounds rfl)

theorem subscribed (s : State) (c : ChanId) (f : Frame) : Upholds s (s.subscribed c f) := by
  have hdrop (t : State) : Upholds t (t.dropFrame c) :=
    (modCtx_bounds (f := fun x => { x with drops := saturate x.drops }) rfl).trans (.of_same rfl rfl)
  unfold State.subscribed
  split
  · exact .refl s
  split
  · exact hdrop s
  split
  case h_1 hfound =>
    refine (search hfound).trans ?_
    have hstore (t : State) (a : Offset) (bytes : List Byte) : Upholds t (t.store a bytes) := .of_same rfl rfl
    exact (((hstore _ _ _).trans (.writeBack _ c _ _ _ _)).trans (.stepWalker _ c)).trans
      (modCtx_bounds (f := fun x => { x with msgNo := x.msgNo + 1 }) rfl)
  case h_2 hend | h_3 hend => exact (search hend).trans (hdrop _)

theorem publishHeard (s : State) (f : Frame) : Upholds s (s.publishHeard f) := by
  unfold State.publishHeard
  split
  · exact .subscribed s _ f
  · exact .refl s

/-! ### Sending channels (R82 to R91) -/

theorem nakAnswered (s : State) (c : ChanId) : Upholds s (s.nakAnswered c) := by
  unfold State.nakAnswered
  dsimp only
  split
  case isTrue hzero =>
    refine .modCtx (.counting (s.ctx c).retry _ (fun h => ⟨h.1, fun hp => ?_⟩) rfl)
    exact absurd (BitVec.eq_of_toNat_eq hzero) hp
  split
  case isTrue hbelow => exact .modCtx (.counting (s.ctx c).retry _ (fun h => ⟨h.1, fun _ => hbelow⟩) rfl)
  case isFalse => exact .enterHalted s c _

theorem exhaust (s : State) (c : ChanId) : Upholds s (s.exhaust c) := by
  have hzero : Upholds s (s.modCtx c fun x => { x with retry := 0 }) :=
    modCtx (f := fun x => { x with retry := 0 }) (.counting 0 (s.ctx c).nak (fun h => ⟨Nat.zero_le _, h.2⟩) rfl)
  exact (hzero.trans (.of_same (by simp [State.boundsView]) (by simp))).trans (.look _ c)

theorem countRetry (s : State) (c : ChanId) : Upholds s (s.countRetry c) := by
  unfold State.countRetry
  split
  case isTrue hbelow =>
    exact .modCtx (.counting ((s.ctx c).retry + 1) (s.ctx c).nak (fun h => ⟨hbelow, h.2⟩) rfl)
  case isFalse => exact .exhaust s c

/-- A frame acknowledged, or a message rewound: both counts start again (R82, R83, R88). -/
theorem recount {f : Context → Context} (hf : (f (s.ctx c)).bounds = ({ s.ctx c with retry := 0, nak := 0 } : Context).bounds) :
    Upholds s (s.modCtx c f) :=
  .modCtx (.counting 0 0 (fun _ => Context.countsWithin_zero (x := { s.ctx c with retry := 0, nak := 0 }) rfl rfl _) hf)

theorem dataAcked (s : State) (c : ChanId) (img : Frame) : Upholds s (s.dataAcked c img) := by
  have hadvance : Upholds s (s.advance c img) := .recount rfl
  unfold State.dataAcked
  dsimp only
  split
  · exact hadvance.trans (.completeMessage _ c)
  · exact hadvance.trans (.fetch _ c)

/-- What an outcome does to a SEND channel (5.3). -/
theorem sendOutcome (s : State) (c : ChanId) (img : Frame) (o : AttemptOutcome) : Upholds s (s.sendOutcome c img o) := by
  unfold State.sendOutcome
  split
  case h_1 =>
    split
    · exact (recount rfl).trans (.fetch _ c)
    · exact .dataAcked s c img
  case h_2 => exact .nakAnswered s c
  case h_3 => exact .enterHalted s c _
  case h_4 =>
    split
    · exact .countRetry s c
    · exact .recount rfl
  case h_5 | h_6 => exact .countRetry s c
  all_goals exact .refl s

theorem publishOutcome (s : State) (c : ChanId) (o : AttemptOutcome) : Upholds s (s.publishOutcome c o) := by
  unfold State.publishOutcome
  split
  · exact (modCtx_bounds rfl).trans (.completeMessage _ c)
  all_goals exact .refl s

/-- An outcome at the channel that owned the attempt (R36, R51). -/
theorem channelOutcome (s : State) (c : ChanId) (img : Frame) (o : AttemptOutcome) : Upholds s (s.channelOutcome c img o) := by
  have hsettle (t : State) : Upholds t (t.settleHalt c) := by
    unfold State.settleHalt
    split
    · exact .enterHalted t c _
    · exact .look t c
  unfold State.channelOutcome
  dsimp only
  split
  · exact (sendOutcome s c img o).trans (hsettle _)
  · exact (publishOutcome s c o).trans (hsettle _)
  all_goals exact hsettle s

end Upholds

end Sys2Proof.Machine

/-! PROOFS. Open messages, indexes and counts at the ends of attempts (R35, R36), at the entries to the modes (R148 to R172), and at
the events of the line, of the own attempts and of the timers. -/

namespace Sys2Proof.Machine

namespace Upholds

variable {s : State}

/-! ### The ends of attempts and the entries to modes (R35, R36, R148 to R172) -/

theorem presencePulse (s : State) : Upholds s s.presencePulse := .of_same (by simp [State.boundsView]) (by simp)

/-- What the outcome does at the owner (R25, R36, R142, R169). -/
theorem ownerOutcome (s : State) (a : Attempt) (o : AttemptOutcome) : Upholds s (s.ownerOutcome a o) := by
  have harb (t : State) (f : Arbiter → Arbiter) : Upholds t (t.modArb f) := .of_same rfl rfl
  unfold State.ownerOutcome
  split
  case h_1 => exact .channelOutcome s _ _ o
  case h_2 => exact .refl s
  case h_3 | h_4 =>
    split
    case h_1 | h_2 | h_3 => exact harb s _
    all_goals exact .refl s
  case h_5 =>
    split
    case h_1 => exact (harb s _).trans (.presencePulse _)
    all_goals exact .refl s

/-- A latched attempt ends ABANDONED (R35). -/
theorem abandonLatch (s : State) : Upholds s s.abandonLatch := by
  have hunlatched (t : State) (f : Arbiter → Arbiter) : Upholds t (t.modArb f) := .of_same rfl rfl
  unfold State.abandonLatch
  split
  · exact .refl s
  · dsimp only
    split
    · exact (hunlatched s _).trans (.channelOutcome _ _ _ _)
    · exact hunlatched s _

/-- Every acceptance record discarded (R116). -/
theorem discardAcceptances (s : State) : Upholds s s.discardAcceptances :=
  ⟨id, rfl, rfl, fun c => by rw [State.discardAcceptances_ctx]; exact .clearRecord _⟩

/-- The cuts of a withdrawal, with no record left (R116). -/
theorem cutAll (h : ∀ c, (s.ctx c).acceptance = none) : Upholds s s.cutAll := by
  unfold State.cutAll State.forChannels
  generalize chanList = l
  induction l generalizing s with
  | nil => exact .refl s
  | cons c l ih =>
    rw [List.foldl_cons]
    split
    · exact (Upholds.cut (Context.unpledged_none (h c))).trans (ih fun d => by rw [State.cut_acceptance]; exact h d)
    · exact ih h

/-- The withdrawal of the station from the line (R154). -/
theorem withdraw (s : State) : Upholds s s.withdraw := by
  have hdropped : Upholds s s.dropPendingSleep.stopBeacon := .of_view rfl id
  have hdiscarded := (hdropped.trans (.abandonLatch _)).trans (.discardAcceptances _)
  have hcut := hdiscarded.trans (.cutAll fun c => by rw [State.discardAcceptances_ctx])
  have hcleared (t : State) : Upholds t t.presenceClear := .of_same (by simp [State.boundsView]) (by simp)
  exact hcut.trans (hcleared _)

theorem enterRestart (hm : s.mc.mode ≠ .setup) (cause : EntryCause) : Upholds s (s.enterRestart cause) := by
  have hwithdrawn := Upholds.withdraw s
  unfold State.enterRestart
  generalize s.withdraw = t at hwithdrawn ⊢
  exact ⟨fun h => absurd h hm, hwithdrawn.station, hwithdrawn.configs, hwithdrawn.ctx⟩

theorem enterSafe (hm : s.mc.mode ≠ .setup) (fault : SafeFault) : Upholds s (s.enterSafe fault) := by
  have hwithdrawn := Upholds.withdraw s
  unfold State.enterSafe
  generalize s.withdraw = t at hwithdrawn ⊢
  exact ⟨fun h => absurd h hm, hwithdrawn.station, hwithdrawn.configs, hwithdrawn.ctx⟩

theorem enterSleep (hm : s.mc.mode ≠ .setup) (cause : EntryCause) : Upholds s (s.enterSleep cause) := by
  have hdropped : Upholds s s.dropPendingSleep.stopBeacon := .of_view rfl id
  have hended := (hdropped.trans (.abandonLatch _)).trans (.discardAcceptances _)
  unfold State.enterSleep
  generalize s.dropPendingSleep.stopBeacon.abandonLatch.discardAcceptances = t at hended ⊢
  exact ⟨fun h => absurd h hm, hended.station, hended.configs, hended.ctx⟩

theorem enterSleepFromSafe (hm : s.mc.mode = .safe) (cause : EntryCause) : Upholds s (s.enterSleepFromSafe cause) :=
  .of_view rfl fun h => by rw [hm] at h; cases h

/-! ### Reports (R150 to R160) -/

theorem modMc (f : ModeController → ModeController) (h : (f s.mc).mode = s.mc.mode) : Upholds s (s.modMc f) :=
  .of_view rfl fun hm => h.trans hm

theorem escalate (hm : s.mc.mode ≠ .setup) : Upholds s s.escalate := by
  unfold State.escalate
  split
  · refine (modMc (fun m => { m with restarts := m.restarts + 1 }) rfl).trans (.enterRestart ?_ _)
    exact hm
  · refine (modMc (fun m => { m with restarts := 0 }) rfl).trans (.enterSafe ?_ _)
    exact hm

theorem reportRise (s : State) (n : Nat) : Upholds s (s.reportRise n) := by
  by_cases hm : s.mc.mode.listens = true
  · have herrors : Upholds s (s.withErrors (min Config.countTop (s.mc.lineErrors + n))) := .of_view rfl id
    rw [State.reportRise_eq hm]
    dsimp only
    split
    · exact herrors.trans (.escalate (Mode.ne_setup_of_listens hm))
    · exact herrors
  · rw [State.reportRise, if_neg hm]
    exact .refl s

theorem reportGood (s : State) : Upholds s s.reportGood := by
  unfold State.reportGood
  split
  · exact .modMc _ rfl
  · exact .refl s

theorem reportClash (s : State) : Upholds s s.reportClash := by
  unfold State.reportClash
  split
  case isTrue hm => exact .enterSafe (Mode.ne_setup_of_listens hm) _
  case isFalse => exact .refl s

theorem wakeEvent (s : State) : Upholds s s.wakeEvent := by
  unfold State.wakeEvent
  split
  case h_1 hm =>
    split
    · exact .enterRestart (by rw [hm]; nofun) _
    · exact .enterSleepFromSafe hm _
  case h_2 hm =>
    split
    · exact .enterRestart (by rw [hm]; nofun) _
    · exact .refl s
  all_goals exact .refl s

/-! ### The end of an attempt (R36, R169, R170) -/

theorem outcomeReports (s : State) (o : AttemptOutcome) : Upholds s (s.outcomeReports o) := by
  have hgood : Upholds s s.heardOnLine.reportGood :=
    (of_same (by simp [State.boundsView]) (by simp) : Upholds s s.heardOnLine).trans (.reportGood _)
  cases o with
  | answered _ | sent => exact hgood
  | bitError => exact .reportRise s _
  | none | lost | wakeCollision | abandoned => exact .refl s

theorem handOver (s : State) (o : AttemptOutcome) : Upholds s (s.handOver o) := by
  unfold State.handOver
  split
  · exact .refl s
  · have hunlatched : Upholds s (s.modArb fun b => { b with latch := none }) := .of_same rfl rfl
    exact (hunlatched.trans (.ownerOutcome _ _ o)).trans (.outcomeReports _ o)

theorem finishQuiet (s : State) : Upholds s s.finishQuiet := by
  unfold State.finishQuiet
  split
  case isTrue h => exact .enterSleep (Mode.ne_setup_of_active h.1) _
  case isFalse => exact .refl s

theorem endAttempt (s : State) (o : AttemptOutcome) : Upholds s (s.endAttempt o) := by
  unfold State.endAttempt
  dsimp only
  refine (Upholds.handOver s o).trans ?_
  split
  case isTrue h =>
    obtain ⟨-, -, hactive⟩ := h
    exact .enterSleep (Mode.ne_setup_of_active hactive) _
  case isFalse => exact .finishQuiet _

/-! ### The line in reception (R4 to R15) -/

theorem modLine (s : State) (f : LineRecord → LineRecord) : Upholds s (s.modLine f) := .of_same rfl rfl

theorem modClock (s : State) (f : BitClock → BitClock) : Upholds s (s.modClock f) := .of_same rfl rfl

theorem beginAttempt (s : State) : Upholds s s.beginAttempt := .of_same (by simp [State.boundsView]) (by
  unfold State.beginAttempt
  split <;> rfl)

theorem gapComplete (s : State) : Upholds s s.gapComplete := by
  unfold State.gapComplete State.startWaiting
  split
  · exact .modLine s _
  split
  · split
    · exact (modLine s _).trans (.beginAttempt _)
    · exact .modLine s _
  · exact .refl s

theorem resyncComplete (s : State) : Upholds s s.resyncComplete := by
  unfold State.resyncComplete
  split
  · exact .modLine s _
  split
  · exact .modLine s _
  · exact .refl s

theorem startBit (s : State) : Upholds s s.startBit := by
  unfold State.startBit
  split
  · exact .modLine s _
  · exact .refl s

theorem badHeader (s : State) (h0 h1 h2 h3 : Byte) : Upholds s (s.badHeader h0 h1 h2 h3) := by
  unfold State.badHeader
  split
  · exact (modLine s _).trans (.reportRise _ _)
  · exact .refl s

theorem badFraming (s : State) (kind : FramingFault) : Upholds s (s.badFraming kind) := by
  unfold State.badFraming
  split
  · split
    · exact .modLine s _
    · exact (modLine s _).trans (.reportRise _ _)
  · exact .refl s

/-- What a frame does to the Presence Table is none of a context (R131 to R133). -/
theorem presenceHears (s : State) (f : Frame) : Upholds s (s.presenceHears f) := by
  have hentries (g : Station → Entry → Entry) : Upholds s (s.updateEntries g) := .of_same (by simp [State.boundsView]) (by simp)
  unfold State.presenceHears
  split
  · exact .refl s
  · split <;> exact hentries _

theorem respond (s : State) (f : Frame) : Upholds s (s.respond f) := (Upholds.decide s f.channel f).trans (.of_same rfl rfl)

/-- The deliveries of a valid frame (R15). -/
theorem deliver (s : State) (f : Frame) : Upholds s (s.deliver f) := by
  have hears := Upholds.presenceHears s f
  unfold State.deliver
  dsimp only
  split
  case isTrue hactive =>
    split
    case h_1 | h_2 =>
      split
      · exact hears.trans (.respond _ f)
      · exact hears
    case h_3 => exact hears.trans (.publishHeard _ f)
    case h_4 => exact hears
    case h_5 =>
      unfold State.followAnnounce
      split
      case isTrue =>
        have hfell (t : State) (cause : EntryCause) (hm : t.mc = s.mc) : Upholds t (t.enterSleep cause) :=
          .enterSleep (by rw [hm]; exact Mode.ne_setup_of_active hactive) cause
        refine hears.trans (hfell _ _ ?_)
        unfold State.presenceHears
        split
        · rfl
        · split <;> simp
      case isFalse => exact hears
  case isFalse =>
    split
    case h_1 | h_2 =>
      split
      · exact hears.trans (.modLine _ _)
      · exact hears
    case h_3 | h_4 | h_5 => exact hears

theorem receiveFrame (s : State) (bytes : List Byte) : Upholds s (s.receiveFrame bytes) := by
  have hgood (f : Frame) : Upholds s (s.goodFrame f bytes) := by
    unfold State.goodFrame
    dsimp only
    split
    · exact ((modLine s _).trans (.reportGood _)).trans (.reportClash _)
    · exact ((modLine s _).trans (.reportGood _)).trans (.deliver _ f)
  unfold State.receiveFrame
  split
  · split
    · exact .refl s
    split
    · exact hgood _
    · exact (modLine s _).trans (.reportRise _ _)
  · exact .refl s

/-! ### Response bytes and windows (R16 to R19, R108) -/

theorem endResponse (s : State) (r : Response) : Upholds s (s.endResponse r) := by
  unfold State.endResponse
  dsimp only
  split
  · exact (modLine s _).trans (.commit _ _)
  · exact .modLine s _

theorem responseSent (s : State) : Upholds s s.responseSent := by
  unfold State.responseSent
  split
  · exact .refl s
  · exact (endResponse s _).trans (.modLine _ _)

theorem responseFaulted (s : State) : Upholds s s.responseFaulted := by
  unfold State.responseFaulted
  split
  · exact .refl s
  · exact ((endResponse s _).trans (.modLine _ _)).trans (.reportRise _ _)

theorem takeAnswer (s : State) (read : Option Byte) : Upholds s (s.takeAnswer read) := by
  unfold State.takeAnswer
  split
  · exact .endAttempt s _
  split
  · exact .endAttempt s _
  · exact (reportRise s 1).trans (.endAttempt _ _)

theorem closeWindow (s : State) (read : Option Byte) : Upholds s (s.closeWindow read) := by
  have hheard : Upholds s s.destinationHeard := by
    unfold State.destinationHeard
    split
    · split
      · exact .of_same (by simp [State.boundsView]) (by simp)
      · exact .refl s
    · exact .refl s
  unfold State.closeWindow
  split
  · dsimp only
    have hclosed : Upholds s ((if s.awaitsAnswer = true ∧ (read.bind Answer.ofByte).isSome = true then s.destinationHeard
        else s).modLine fun l => l.closeWindow (idleAtClose read)) := by
      refine Upholds.trans ?_ (.modLine _ _)
      split
      · exact hheard
      · exact .refl s
    split
    · exact hclosed.trans (.takeAnswer _ read)
    · exact hclosed
  · exact .refl s

theorem breakWindow (s : State) : Upholds s s.breakWindow := by
  unfold State.breakWindow
  split
  · split
    · exact (modLine s _).trans (.endAttempt _ _)
    · exact .modLine s _
  · exact .refl s

theorem clashSeen (s : State) : Upholds s s.clashSeen := by
  unfold State.clashSeen
  split
  · exact (modLine s _).trans (.reportClash _)
  · exact .refl s

/-! ### Dominant runs (R20, R21) -/

theorem halfMs (s : State) : Upholds s s.halfMs := by
  have hrun (t : State) : Upholds t t.endByRun := by
    unfold State.endByRun
    split
    case h_1 | h_2 | h_3 | h_4 => exact .endAttempt t _
    case h_5 | h_6 | h_7 => exact .refl t
  unfold State.halfMs
  split
  · exact (modLine s _).trans (hrun _)
  split
  · exact .modLine s _
  · exact .refl s

theorem countHeldError (s : State) : Upholds s s.countHeldError := by
  unfold State.countHeldError
  split
  · exact (modLine s _).trans (.reportRise _ _)
  · exact .refl s

theorem pulseHeard (s : State) : Upholds s s.pulseHeard := by
  have htable (t : State) : Upholds t t.pulseAtTable := by
    unfold State.pulseAtTable
    split
    · exact .presencePulse t
    · exact .refl t
  have hdetector (t : State) : Upholds t t.pulseAtDetector := by
    unfold State.pulseAtDetector
    split
    · exact .wakeEvent t
    · exact .refl t
  unfold State.pulseHeard
  split
  · have hrun := (Upholds.halfMs s).trans (.modLine _ fun l => l.recessive 1)
    dsimp only
    split
    · exact hrun
    · exact (hrun.trans (htable _)).trans (hdetector _)
  · exact .refl s

theorem stuckRun (s : State) : Upholds s s.stuckRun := by
  unfold State.stuckRun
  split
  case isTrue hm =>
    refine (modLine s _).trans (.enterSafe ?_ _)
    exact Mode.ne_setup_of_listens hm
  case isFalse =>
    split
    · exact .modLine s _
    · exact .refl s

/-! ### The station's own attempts (R26 to R34) -/

theorem setPhase (s : State) (p : AttemptPhase) : Upholds s (s.setPhase p) := .of_same rfl rfl

theorem pickOffer (s : State) (atOnce : Bool) : Upholds s (s.pickOffer atOnce) := by
  have hlatched (o : Owner) : Upholds s (s.latchAttempt o) := .of_same (by simp [State.boundsView]) (by simp)
  unfold State.pickOffer
  split
  · split
    · exact .refl s
    · dsimp only
      split
      · exact (hlatched _).trans (.beginAttempt _)
      · exact hlatched _
  · exact .refl s

/-- An attempt that ends on a line record of its own. -/
theorem endAttempt_modLine (s : State) (f : LineRecord → LineRecord) (o : AttemptOutcome) :
    Upholds s ((s.modLine f).endAttempt o) := (modLine s f).trans (.endAttempt _ o)

theorem loseArbitration (s : State) : Upholds s s.loseArbitration := by
  unfold State.loseArbitration
  split
  · exact .endAttempt s _
  · exact .refl s

theorem readBackFault (s : State) (fault : ReadBackFault) : Upholds s (s.readBackFault fault) := by
  cases fault with
  | dominantReadRecessive =>
    unfold State.readBackFault
    dsimp only
    split
    · exact .endAttempt_modLine s _ _
    · exact .refl s
  | recessiveReadDominant =>
    unfold State.readBackFault
    dsimp only
    split
    · exact (modLine s _).trans (.setPhase _ _)
    · exact .refl s
  | runEnded =>
    unfold State.readBackFault
    dsimp only
    split
    · exact .endAttempt_modLine s _ _
    · exact .refl s

theorem collide (s : State) : Upholds s s.collide := by
  unfold State.collide
  split
  · exact .endAttempt_modLine s _ _
  · exact .refl s

theorem ownFrameDone (s : State) : Upholds s s.ownFrameDone := by
  unfold State.ownFrameDone
  split
  · exact .refl s
  split
  · dsimp only
    split
    · exact .endAttempt_modLine s _ _
    · exact (modLine s _).trans (.setPhase _ _)
  · exact .refl s

theorem pulseDone (s : State) (held : Bool) : Upholds s (s.pulseDone held) := by
  unfold State.pulseDone
  split
  · exact .endAttempt_modLine s _ _
  · exact .refl s

/-! ### Timers and the WAKE pin (R90, R92, R123, R134 to R141, R148, R153, R159, R174) -/

theorem backoffExpired (s : State) (c : ChanId) : Upholds s (s.backoffExpired c) := by
  unfold State.backoffExpired
  split
  · exact (modCtx_bounds rfl).trans (.look _ c)
  · exact .refl s

theorem pacingExpired (s : State) (c : ChanId) : Upholds s (s.pacingExpired c) := by
  unfold State.pacingExpired
  split
  · exact (modCtx_bounds rfl).trans (.look _ c)
  · exact .refl s

theorem beaconExpired (s : State) : Upholds s s.beaconExpired := by
  unfold State.beaconExpired
  split
  · exact .of_same rfl rfl
  · exact .refl s

theorem settleExpired (s : State) : Upholds s s.settleExpired := by
  unfold State.settleExpired
  split
  · exact .of_same (by simp [State.boundsView]) (by simp)
  · exact .refl s

theorem presenceTimedOut (s : State) (a : Station) : Upholds s (s.presenceTimedOut a) := by
  unfold State.presenceTimedOut
  split
  · exact .of_same (by simp [State.boundsView]) (by simp)
  · exact .refl s

theorem listenExpired (s : State) : Upholds s s.listenExpired := by
  unfold State.listenExpired
  split
  case isTrue h => exact .of_view rfl fun hm => by rw [h.1] at hm; cases hm
  case isFalse => exact .refl s

theorem restartExpired (s : State) : Upholds s s.restartExpired := by
  unfold State.restartExpired
  split
  case isTrue h => exact .of_view rfl fun hm => by rw [h.1] at hm; cases hm
  case isFalse => exact .refl s

theorem safeExpired (s : State) : Upholds s s.safeExpired := by
  unfold State.safeExpired
  split
  case isTrue h => exact .enterSleepFromSafe h.1 _
  case isFalse => exact .refl s

theorem pinShows (s : State) (pin : PinEvent) : Upholds s (s.pinShows pin) := by
  have hwake (w : WakeDetector) : Upholds s { s with wake := w } := .of_same rfl rfl
  cases pin with
  | moves level => exact hwake _
  | held level =>
    unfold State.pinShows State.pinAccepted
    dsimp only
    split
    · split
      · exact (hwake _).trans (.wakeEvent _)
      · exact hwake _
    · exact hwake _

/-! ### A step with no command waiting (log entry 2) -/

/-- One tick: no timer is among what the invariants read (R90, R92). -/
theorem tick (s : State) : Upholds s s.tick := by
  have hctx (c : ChanId) : s.tick.ctx c = (s.ctx c).tick := Table.get_mapIdx _ _ _
  exact ⟨id, rfl, rfl, fun c => by rw [hctx]; exact .of_bounds rfl⟩

theorem idle (s : State) : Upholds s s.idle := by
  have hbit : Upholds s s.h0Bit := by
    unfold State.h0Bit
    dsimp only
    split
    · exact (modClock s _).trans (.setPhase _ _)
    · exact .modClock s _
  unfold State.idle
  split
  · exact .of_same rfl rfl
  split
  · exact .beginAttempt s
  split
  · unfold State.bitStep
    dsimp only
    split
    · exact (hbit.trans (.modClock _ _)).trans (.tick _)
    · exact hbit
  · exact (modClock s _).trans (.tick _)

end Upholds

end Sys2Proof.Machine

/-! PROOFS. Open messages, indexes and counts under the commands of the host and the two resets, and the step as a whole (R45, R58,
R85, R87, R97). -/

namespace Sys2Proof.Machine

namespace Upholds

variable {s : State} {c : ChanId}

/-! ### Channel commands (R48 to R55) -/

theorem startChannel (s : State) (c : ChanId) : Upholds s (s.startChannel c) := by
  unfold State.startChannel
  split
  case h_1 => exact (recount rfl).trans (.look _ c)
  case h_2 => exact ((modCtx_bounds rfl).trans (.fetch _ c)).trans (.look _ c)
  case h_3 | h_4 => exact .modCtx_bounds rfl
  case h_5 => exact .refl s

theorem haltChannel (s : State) (c : ChanId) : Upholds s (s.haltChannel c) := by
  unfold State.haltChannel
  split
  · exact .modCtx_bounds rfl
  · exact .enterHalted s c _

theorem kickChannel (s : State) (c : ChanId) : Upholds s (s.kickChannel c) := by
  unfold State.kickChannel
  split
  · exact (fetch s c).trans (.look _ c)
  · exact .refl s

/-- CLEAR of a sending channel: both indexes at the slot where the walk of its ring ends (R53). -/
theorem clearSending (s : State) (c : ChanId) : Upholds s (s.clearSending c) := by
  let walk := s.abortWalk c (s.ctx c).msgStart (s.cfg c).ringLength.toNat
  have hwalk : Upholds s walk.1 := .of_same (by simp [State.boundsView, walk]) (by simp [walk])
  refine hwalk.thenCtx (State.abortWalk_ctx _ _ _ _ _) (f := fun x => (x.dropMessage walk.2).stop) ?_
  exact (Context.Upholds.dropMessage fun h => s.abortWalk_inRing _ _ h.1 h.2.2).trans (.of_bounds rfl)

/-- CLEAR of a TAKE channel withdraws its record before the cut (R54, R113). -/
theorem clearTaking (s : State) (c : ChanId) : Upholds s (s.clearTaking c) := by
  let t := s.modCtx c fun x => { x with acceptance := x.acceptance.map fun r => { r with withdrawn := true } }
  have htctx : t.ctx c = _ := State.modCtx_ctx_same _ _ _
  have hunpledged : (t.ctx c).Unpledged := fun r hr => by
    rw [htctx] at hr
    obtain ⟨r', -, rfl⟩ := Option.map_eq_some_iff.1 hr
    rfl
  have hwithdrawn : Upholds s t := .modCtx (.record _ fun a w ha _ _ hw => by
    obtain ⟨r', -, rfl⟩ := Option.map_eq_some_iff.1 ha
    cases hw)
  exact (hwithdrawn.trans (.cut hunpledged)).trans
    (modCtx_bounds (f := fun x => { x.stop with drainNoted := false }) rfl)

theorem clearChannel (s : State) (c : ChanId) : Upholds s (s.clearChannel c) := by
  unfold State.clearChannel
  split
  case h_1 | h_2 => exact .clearSending s c
  case h_3 => exact .clearTaking s c
  case h_4 => exact .modCtx_bounds rfl
  case h_5 => exact .refl s

/-- A channel command keeps what its effect keeps (R48). -/
theorem channelCommand {effect : State → ChanId → State} (h : ∀ c, Upholds s (effect s c)) (arg : Byte) (kindOk : Kind → Bool)
    (stateOk : ChanState → Bool) : Upholds s (s.channelCommand arg kindOk stateOk effect) := by
  unfold State.channelCommand
  split
  · exact .of_same rfl rfl
  split
  · exact .of_same rfl rfl
  split
  · exact .of_same rfl rfl
  split
  · exact .of_same rfl rfl
  · exact h _

/-! ### Station commands (R161 to R175) and the release of a channel (R73) -/

theorem sleepCommand (s : State) (arg : Byte) : Upholds s (s.sleepCommand arg) := by
  unfold State.sleepCommand
  split
  · exact .of_same rfl rfl
  split
  · exact .of_same rfl rfl
  split
  · exact .of_same rfl rfl
  split
  · exact .of_view rfl id
  · exact (modMc (fun m => { m with pendingSleep := .quiet }) rfl).trans (.finishQuiet _)

theorem wakeCommand (s : State) : Upholds s s.wakeCommand := by
  unfold State.wakeCommand
  split
  case h_1 => exact .of_same rfl rfl
  case h_2 hm =>
    split
    · exact .enterRestart (by rw [hm]; nofun) _
    · exact .of_same rfl rfl
  all_goals exact .of_same rfl rfl

theorem resume (s : State) : Upholds s s.resume := by
  unfold State.resume
  split
  case isTrue => exact .of_same rfl rfl
  case isFalse hm =>
    split
    · exact .enterRestart (by rw [not_not.1 hm]; nofun) _
    · exact .of_same rfl rfl

theorem clearLimp (s : State) : Upholds s s.clearLimp := by
  unfold State.clearLimp
  split
  · exact .modMc _ rfl
  · exact .of_same rfl rfl

theorem clearChannelFlags (s : State) (c : ChanId) (mask : Byte) : Upholds s (s.clearChannelFlags c mask) := by
  have hflags : Upholds s (s.modChanFlags c fun f => f.clearBits mask) := .of_same rfl rfl
  have hrelease (t : State) : Upholds t (t.release c) := by
    unfold State.release
    split
    · have hrunning : Upholds t (t.modCtx c fun x => { x with state := .running }) := .modCtx_bounds rfl
      dsimp only
      split
      · exact (hrunning.trans (.fetch _ c)).trans (.look _ c)
      · exact hrunning
    · exact .refl t
  unfold State.clearChannelFlags
  dsimp only
  split
  · exact hflags.trans (hrelease _)
  · exact hflags

theorem writeSlot (s : State) (i : SlotId) (bytes : List Byte) : Upholds s (s.writeSlot i bytes) := by
  unfold State.writeSlot
  split
  · exact .of_same rfl rfl
  · exact .refl s

end Upholds

/-! ### What a step keeps -/

/-- What one step keeps, as it is stated. -/
structure StepUpholds (s t : State) : Prop where
  opened : s.OpenExact → t.OpenExact
  indexes : s.IndexesInRing → t.IndexesInRing
  counts : s.CountsBounded → t.CountsBounded

theorem Upholds.step {s t : State} (h : Upholds s t) : StepUpholds s t := by
  refine ⟨fun hs c => (h.ctx c).opened (hs c), fun hs => ?_, fun hs => ?_⟩
  · rw [State.indexesInRing_iff] at hs ⊢
    intro hm c hk
    rw [h.cfg] at hk ⊢
    exact (h.ctx c).indexes (hs (fun h' => hm (h.mode h')) c hk)
  · rw [State.countsBounded_iff] at hs ⊢
    intro hm c
    rw [h.station]
    exact (h.ctx c).counts (hs (fun h' => hm (h.mode h')) c)

namespace StepUpholds

variable {s t u : State}

theorem trans (h : StepUpholds s t) (k : StepUpholds t u) : StepUpholds s u :=
  ⟨k.opened ∘ h.opened, k.indexes ∘ h.indexes, k.counts ∘ h.counts⟩

/-- An operation that leaves contexts, configurations and the Mode Controller. -/
theorem of_same (h : t.boundsView = s.boundsView) (hmc : t.mc = s.mc) : StepUpholds s t := (Upholds.of_same h hmc).step

/-- A part in SETUP, whatever its configuration, whose open messages are exact. -/
theorem of_setup (hm : t.mc.mode = .setup) (ho : s.OpenExact → t.OpenExact) : StepUpholds s t :=
  ⟨ho, fun _ h => absurd hm h, fun _ h => absurd hm h⟩

/-- A register written in SETUP. -/
theorem of_written (hm : t.mc.mode = .setup) (hcontexts : t.contexts = s.contexts) : StepUpholds s t :=
  .of_setup hm fun h c => by
    rw [State.ctx, hcontexts]
    exact h c

/-- A part in SETUP with every context cleared. -/
theorem of_cleared (hm : t.mc.mode = .setup) (hctx : ∀ c, t.ctx c = .cleared) : StepUpholds s t :=
  .of_setup hm fun _ c => by
    rw [hctx]
    exact Context.openExact_of_unpledged (Context.unpledged_none rfl) (by simp [Context.cleared])

/-! ### Registers (R145, R178) -/

theorem writeStationByte (s : State) (addr : Nat) (v : Byte) : StepUpholds s (s.writeStationByte addr v) := by
  unfold State.writeStationByte
  split
  case isTrue => exact .of_same rfl rfl
  case isFalse hm =>
    have hm := not_not.1 hm
    split
    · exact .of_written (by simpa [State.setOwnAddress] using hm) (by simp [State.setOwnAddress])
    split
    · unfold State.writeRestartLimit
      split
      · exact .of_same rfl rfl
      · exact .of_written hm rfl
    · exact .of_written hm rfl

theorem writeChannelByte (s : State) (c : ChanId) (i : Nat) (v : Byte) : StepUpholds s (s.writeChannelByte c i v) := by
  unfold State.writeChannelByte
  split
  case isTrue => exact .of_same rfl rfl
  case isFalse hm => exact .of_written (not_not.1 hm) rfl

theorem writeRegister (s : State) (addr : Word) (v : Byte) : StepUpholds s (s.writeRegister addr v) := by
  unfold State.writeRegister
  dsimp only
  split
  · exact .writeStationByte s _ v
  split
  · exact .of_same rfl rfl
  split
  · exact .of_same rfl rfl
  split
  · exact .of_same rfl rfl
  split
  · exact .of_same rfl rfl
  split
  · exact (Upholds.clearChannelFlags s _ v).step
  split
  · exact .writeChannelByte s _ _ v
  · exact (Upholds.refl s).step

/-! ### JOIN (R45, R146) -/

/-- A channel check that passes has examined each channel (R41). -/
theorem checkChannel_of_checkChannels (h : s.checkChannels = none) (c : ChanId) : s.checkChannel c = none := by
  have hc := List.findSome?_eq_none_iff.1 h c (by simp [chanList])
  simpa using hc

/-- A channel of a kind other than OFF that the check passes has a ring of at least one slot within slots 0 to 63 (R42, R44). -/
theorem ring_of_checkChannels (h : s.checkChannels = none) {c : ChanId} (hk : (s.cfg c).kind ≠ .off) :
    1 ≤ (s.cfg c).ringLength.toNat ∧ (s.cfg c).ringBase.toNat + (s.cfg c).ringLength.toNat ≤ 64 := by
  have hcode : (s.cfg c).kindCode ≠ 0 := fun hz => hk (by simp [ChanConfig.kind, hz])
  have halone := ((State.checkChannel_eq_none_iff hcode).1 (checkChannel_of_checkChannels h c)).1
  obtain ⟨-, -, hlength, hfit, -⟩ := (ChanConfig.checkAlone_passes_iff _ _).1 halone
  exact ⟨hlength, hfit⟩

/-- JOIN taken puts both indexes of every channel at its ring base (R45, R58). -/
theorem joined (h : s.checkChannels = none) : StepUpholds s s.joined := by
  have hctx (c : ChanId) : s.joined.ctx c = (s.cfg c).startContext := Table.get_ofFn _ _
  have hstart (c : ChanId) : ∃ i, s.joined.ctx c = { Context.cleared with walker := i, msgStart := i }
      ∧ ((s.cfg c).kind ≠ .off → i = (s.cfg c).base) := by
    rw [hctx, ChanConfig.startContext]
    split
    case isTrue hoff => exact ⟨0, rfl, fun hk => absurd hoff hk⟩
    case isFalse => exact ⟨_, rfl, fun _ => rfl⟩
  refine ⟨fun _ c => ?_, fun _ => (State.indexesInRing_iff _).2 fun _ c hk => ?_,
    fun _ => (State.countsBounded_iff _).2 fun _ c => ?_⟩ <;> obtain ⟨i, hi, hbase⟩ := hstart c <;> rw [hi]
  · exact Context.openExact_of_unpledged (Context.unpledged_none rfl) (by simp [Context.cleared])
  · have hk : (s.cfg c).kind ≠ .off := hk
    obtain ⟨hlength, hfit⟩ := ring_of_checkChannels h hk
    have hin : (s.cfg c).inRing i := by
      rw [hbase hk]
      exact ChanConfig.base_inRing hlength
    exact ⟨hfit, hin, hin⟩
  · exact Context.countsWithin_zero rfl rfl _

theorem join (s : State) : StepUpholds s s.join := by
  unfold State.join
  split
  · exact .of_same rfl rfl
  split
  · exact .of_same rfl rfl
  split
  · exact .of_same rfl rfl
  case h_2 h => exact .joined h

/-! ### Transactions of the host (R165, R177) -/

/-- A byte access keeps what its effect keeps. -/
theorem access {f : State → State} (h : ∀ t, StepUpholds t (f t)) (s : State) : StepUpholds s (s.access f) := by
  have hport : Upholds s s.portAccess := .of_same rfl rfl
  unfold State.access
  split
  · exact hport.step.trans (h _)
  · exact .of_same rfl rfl

theorem atRise {f : State → State} (h : ∀ t, StepUpholds t (f t)) (s : State) : StepUpholds s (s.atRise f) := by
  have hport : Upholds s (s.setTransfer .none) := .of_same rfl rfl
  unfold State.atRise
  split
  · exact hport.step.trans (h _)
  · exact hport.step

/-- A control command keeps what its effect keeps. -/
theorem control {f : State → State} (h : ∀ t, StepUpholds t (f t)) (s : State) : StepUpholds s (s.control f) := by
  have hport (t : State) (g : HostPort → HostPort) : Upholds t (t.modPort g) := .of_same rfl rfl
  refine .atRise (fun t => ?_) s
  unfold State.commanded
  exact ((hport t _).step.trans (h _)).trans (hport _ _).step

end StepUpholds

/-! ### The step -/

/-- Every command keeps them (R58, R85, R87, R97). -/
theorem exec_stepUpholds {i : Instr} {s t : State} (hrun : exec i s = .next t) : StepUpholds s t := by
  cases i
  case clearNoticeFlags reg mask =>
    cases reg with
    | station =>
      obtain rfl := Host.Outcome.next.inj hrun
      exact .access (fun _ => by exact .of_same rfl rfl) s
    | channel c =>
      obtain rfl := Host.Outcome.next.inj hrun
      exact .access (fun t => (Upholds.clearChannelFlags t c mask).step) s
  all_goals obtain rfl := Host.Outcome.next.inj hrun
  case reset => exact .of_cleared rfl fun _ => Table.get_replicate _ _
  case softReset => exact .control (fun t => .of_cleared (t := t.softReset) rfl fun _ => Table.get_replicate _ _) s
  case join => exact .control .join s
  case registerWrite addr v => exact .access (fun t => .writeRegister t addr v) s
  case ownAddressWrite v => exact .access (fun t => .writeStationByte t 0 v) s
  case sleep arg => exact .control (fun t => (Upholds.sleepCommand t arg).step) s
  case wake => exact .control (fun t => (Upholds.wakeCommand t).step) s
  case start arg => exact .control (fun t => (Upholds.channelCommand (.startChannel t) arg _ _).step) s
  case halt arg => exact .control (fun t => (Upholds.channelCommand (.haltChannel t) arg _ _).step) s
  case clear arg => exact .control (fun t => (Upholds.channelCommand (.clearChannel t) arg _ _).step) s
  case kick arg => exact .control (fun t => (Upholds.channelCommand (.kickChannel t) arg _ _).step) s
  case resume => exact .control (fun t => (Upholds.resume t).step) s
  case clearLimp => exact .control (fun t => (Upholds.clearLimp t).step) s
  case clearRestarts => exact .control (fun t => (Upholds.modMc (s := t) (fun m => { m with restarts := 0 }) rfl).step) s
  case unknownCommand => exact .control (fun _ => by exact .of_same rfl rfl) s
  case clearDone c => exact .access (fun t => (Upholds.clearChannelFlags t c 1).step) s
  case clearChangedMarks | bufferWrite | bufferRead | descriptorRead => exact .access (fun _ => by exact .of_same rfl rfl) s
  case descriptorWrite index bytes => exact .access (fun t => (Upholds.writeSlot t _ bytes).step) s
  case transactionEnd => exact .atRise (fun _ => by exact .of_same rfl rfl) s
  all_goals apply Upholds.step
  case wakePinAccepted pin => exact .pinShows s pin
  case pick atOnce => exact .pickOffer s atOnce
  case formatError h0 h1 h2 h3 => exact .badHeader s h0 h1 h2 h3
  case framingError kind => exact .badFraming s kind
  case frameEnd bytes => exact .receiveFrame s bytes
  case responseByteEnd => exact .responseSent s
  case responseBitError => exact .responseFaulted s
  case windowClose read => exact .closeWindow s read
  case windowOutOfPlace => exact .breakWindow s
  case clashResponseSeen => exact .clashSeen s
  case clashWatchDisarmed => exact .modLine s _
  case idleGapComplete => exact .gapComplete s
  case resyncEnd => exact .resyncComplete s
  case dominantRunHalfMs => exact .halfMs s
  case heldErrorCounted => exact .countHeldError s
  case wakePulseHeard => exact .pulseHeard s
  case lineStuck => exact .stuckRun s
  case arbitrationLost => exact .loseArbitration s
  case bitError fault => exact .readBackFault s fault
  case wakeCollision => exact .collide s
  case ownFrameEnd => exact .ownFrameDone s
  case pulseSent held => exact .pulseDone s held
  case startBitBegins => exact .startBit s
  case backoffExpiry c => exact .backoffExpired s c
  case pacingExpiry c => exact .pacingExpired s c
  case beaconTimerExpiry => exact .beaconExpired s
  case wakeSettleExpiry => exact .settleExpired s
  case presenceTimeout a => exact .presenceTimedOut s a
  case listenTimerExpiry => exact .listenExpired s
  case restartTimerExpiry => exact .restartExpired s
  case safeTimerExpiry => exact .safeExpired s

/-- Settles O59: `Upholds` composes, every operation but JOIN, the registers of SETUP and the resets is one, and these leave contexts
as they stood, at their starting values, or cleared. -/
theorem stepKeepsOpenMessagesAndIndexesExact : Obligations.StepKeepsOpenMessagesAndIndexesExact := by
  intro s t hrun
  have hkeeps : StepUpholds s t := by
    unfold step at hrun
    split at hrun
    case h_1 =>
      obtain rfl := Host.Outcome.next.inj hrun
      exact (Upholds.idle s).step
    case h_2 i rest _ =>
      have htaken : StepUpholds { s with pending := rest } t := exec_stepUpholds hrun
      exact ⟨htaken.opened, htaken.indexes, htaken.counts⟩
  exact ⟨hkeeps.opened, hkeeps.indexes, hkeeps.counts⟩

end Sys2Proof.Machine

/-! PROOFS. The response decision (R69, R98 to R107): each check by its branch, the ends of the space search that a frame may need,
and the part in which the decision is made. -/

namespace Sys2Proof.Machine

theorem Position.begins_iff (p : Position) : p.begins = true ↔ p = .first ∨ p = .only := by cases p <;> decide

theorem Position.begins_eq_false_iff (p : Position) : p.begins = false ↔ p = .middle ∨ p = .last := by cases p <;> decide

/-- The channel is a TAKE channel bound to the source of a frame that it has room for in a payload (R99, R100). -/
structure State.TakesFrom (s : State) (c : ChanId) (f : Frame) : Prop where
  kind : (s.cfg c).kind = .take
  peer : (s.cfg c).peerStation = f.source
  fits : f.payload.length ≤ (s.cfg c).maxPayload

namespace State

variable {s t : State} {c : ChanId} {f : Frame}

/-! ### The checks in their order (R99 to R106) -/

theorem decide_stranger (h : (s.cfg c).kind ≠ .take ∨ (s.cfg c).peerStation ≠ f.source) : s.decide c f = (s, .halt) := if_pos h

theorem decide_long (hk : (s.cfg c).kind = .take) (hp : (s.cfg c).peerStation = f.source)
    (h : (s.cfg c).maxPayload < f.payload.length) : s.decide c f = (s, .halt) := by
  simp [decide, hk, hp, h]

theorem TakesFrom.decide_eq (h : s.TakesFrom c f) :
    s.decide c f =
      match (s.ctx c).state with
      | .stopped | .opening | .drained => (s, .nak)
      | .halted => (s, .halt)
      | .holding => if f.kind = .openF then s.accept c .openF else (s, .nak)
      | .running =>
        if f.kind = .openF then s.accept c .openF
        else if f.toggle ≠ (s.ctx c).toggle then s.accept c .duplicate
        else s.decideData c f := by
  have hours : ¬((s.cfg c).kind ≠ .take ∨ (s.cfg c).peerStation ≠ f.source) := by simp [h.kind, h.peer]
  exact (if_neg hours).trans (if_neg (Nat.not_lt.2 h.fits))

theorem TakesFrom.decide_openF (h : s.TakesFrom c f) (hx : (s.ctx c).state = .running ∨ (s.ctx c).state = .holding)
    (hf : f.kind = .openF) : s.decide c f = s.accept c .openF := by
  rw [h.decide_eq]
  obtain hx | hx := hx <;> simp only [hx, hf, if_true]

theorem TakesFrom.decide_duplicate (h : s.TakesFrom c f) (hx : (s.ctx c).state = .running) (hf : f.kind = .data)
    (ht : f.toggle ≠ (s.ctx c).toggle) : s.decide c f = s.accept c .duplicate := by
  rw [h.decide_eq]
  simp [hx, hf, ht]

theorem TakesFrom.decide_data (h : s.TakesFrom c f) (hx : (s.ctx c).state = .running) (hf : f.kind = .data)
    (ht : f.toggle = (s.ctx c).toggle) : s.decide c f = s.decideData c f := by
  rw [h.decide_eq]
  simp [hx, hf, ht]

theorem decideData_begins (h : f.position.begins = true) :
    s.decideData c f = s.decideFresh c f (if (s.ctx c).openMsg then .cut else .nothing) := if_pos h

theorem decideData_reopen (h : f.position.begins = false) (ho : (s.ctx c).openMsg = false) :
    s.decideData c f = (s, .reopen) := by
  simp [decideData, h, ho]

theorem decideData_room {k : SlotCopy} (h : f.position.begins = false) (ho : (s.ctx c).openMsg = true)
    (hk : (s.ctx c).current = some k) (hroom : (s.ctx c).bytesUsed + f.payload.length ≤ k.length.toNat) :
    s.decideData c f =
      s.accept c (.store { target := .current, closes := .nothing, position := f.position, payload := f.payload, sum := f.chain }) := by
  simp [decideData, h, ho, Context.hasRoom, hk, hroom]

theorem decideData_full {k : SlotCopy} (h : f.position.begins = false) (ho : (s.ctx c).openMsg = true)
    (hk : (s.ctx c).current = some k) (hfull : k.length.toNat < (s.ctx c).bytesUsed + f.payload.length) :
    s.decideData c f = s.decideFresh c f .done := by
  simp [decideData, h, ho, Context.hasRoom, hk, Nat.not_le.2 hfull]

/-- A frame that needs a fresh descriptor: one that begins a message, and one that its current descriptor has no room for
(R105, R106). -/
theorem decideData_fresh {closes : Closes}
    (h : (f.position = .first ∨ f.position = .only) ∧ closes = (if (s.ctx c).openMsg then .cut else .nothing)
      ∨ (f.position = .middle ∨ f.position = .last) ∧ closes = .done ∧ (s.ctx c).openMsg = true
          ∧ ∃ k, (s.ctx c).current = some k ∧ k.length.toNat < (s.ctx c).bytesUsed + f.payload.length) :
    s.decideData c f = s.decideFresh c f closes := by
  obtain ⟨hp, rfl⟩ | ⟨hp, rfl, ho, k, hk, hfull⟩ := h
  · exact decideData_begins ((Position.begins_iff _).2 hp)
  · exact decideData_full ((Position.begins_eq_false_iff _).2 hp) ho hk hfull

/-! ### The ends of a space search (R69, R107) -/

theorem lackOfSpace_eq (s : State) (c : ChanId) :
    s.lackOfSpace c =
      s.withChannel c { s.ctx c with drainNoted := true } s.slots
        { s.notice.channels.get c with
          drained := (s.notice.channels.get c).drained || !(s.ctx c).drainNoted } s.ram := by
  unfold lackOfSpace
  split
  case isTrue h =>
    have hctx : ({ s.ctx c with drainNoted := true } : Context) = s.ctx c := by rw [← h]
    have hflags : ({ s.notice.channels.get c with
        drained := (s.notice.channels.get c).drained || !(s.ctx c).drainNoted } : ChanFlags) = s.notice.channels.get c := by
      simp [h]
    rw [hctx, hflags, withChannel_self]
  case isFalse h =>
    have h := Bool.eq_false_iff.2 h
    rw [modCtx_eq_withChannel]
    simp [raiseDrained, modChanFlags, modNotice, withChannel, h]

theorem passed_eq_withChannel (s : State) (c : ChanId) (n : Nat) :
    s.passed c n =
      s.withChannel c { s.ctx c with walker := (s.cfg c).after (s.ctx c).walker n } (s.unfitSlots c n) (s.unfitFlags c n) s.ram := rfl

theorem passed_flags (s : State) (c : ChanId) (n : Nat) : (s.passed c n).notice.channels.get c = s.unfitFlags c n := by
  rw [passed_eq_withChannel, withChannel_flags]

/-- The slot past the end of Buffer RAM written back after `n` slots passed, and the channel halted (R69). -/
theorem passed_badRange (s : State) (c : ChanId) (n : Nat) (h : n < 64) (hn : n < (s.cfg c).ringLength.toNat) :
    let i := (s.cfg c).after (s.ctx c).walker n
    let t := (((s.passed c n).writeBack c i .badRange 0 (some false)).stepWalker c).enterHalted c .descError
    t.ctx c = { s.ctx c with walker := (s.cfg c).after (s.ctx c).walker (n + 1) }.haltedBy .descError
      ∧ t.slots = (s.unfitSlots c n).set i ((s.slot i).writtenBack .badRange 0 (s.ctx c).msgNo false)
      ∧ t.notice.channels.get c = { (s.unfitFlags c n).noting (s.slot i) with halted := true } := by
  dsimp only
  rw [writeBack_eq_withChannel, passed_next s c n h hn, passed_ctx, passed_eq_withChannel, withChannel_withChannel,
    stepWalker_withChannel, withChannel_flags]
  refine ⟨?_, rfl, ?_⟩
  · rw [enterHalted_ctx_same, withChannel_ctx]
    rfl
  · simp [enterHalted, raiseHalted, modChanFlags, modNotice, modCtx, modArb, withChannel]

/-! ### The part that decides (R15, R98) -/

/-- The part when a frame for it reaches the response decision: the line in WINDOW, and the source heard (R12, R15, R131). -/
def deciding (s : State) (f : Frame) : State := (s.frameTaken f).presenceHears f

/-- A frame for this station, in ACTIVE, is one good reception, and its source is heard. -/
theorem deciding_eq (s : State) (hf : f.admitted) (hk : f.kind = .data ∨ f.kind = .openF) :
    ∃ a, s.deciding f = (s.frameTaken f).updateEntry a Entry.heard := by
  have hsource : f.source.toNat < 31 := by
    have hne : f.source.toNat ≠ 31 := fun h => hf.1 (BitVec.eq_of_toNat_eq h)
    have := f.source.isLt
    omega
  refine ⟨⟨f.source.toNat, hsource⟩, ?_⟩
  rw [deciding, presenceHears_eq (a := ⟨_, hsource⟩) _ rfl (by obtain hk | hk := hk <;> rw [hk] <;> nofun)]
  congr 1
  funext e
  rw [Entry.hearing, if_neg (by obtain hk | hk := hk <;> rw [hk] <;> nofun)]

theorem Hears.receiveFrame_respond (h : s.Hears f) (hm : s.mc.mode = .active) (hk : f.kind = .data ∨ f.kind = .openF)
    (hd : f.dest = s.station.ownAddress) : s.receiveFrame f.bytes = (s.deciding f).respond f := by
  rw [receiveFrame_valid (receiving_of h.mode h.line h.silent) h.admitted,
    goodFrame_foreign ((Mode.listens_iff _).2 h.mode) h.source]
  unfold deliver deciding
  dsimp only
  rw [if_pos (show (s.frameTaken f).mc.mode = .active from hm)]
  obtain hk | hk := hk <;> rw [hk] <;> exact if_pos hd

/-- What a space search and the decision read of a part is as it was before the frame. -/
structure DecidesAs (s u : State) : Prop where
  contexts : u.contexts = s.contexts
  configs : u.configs = s.configs
  slots : u.slots = s.slots
  channels : u.notice.channels = s.notice.channels

namespace DecidesAs

variable {s u : State} (h : DecidesAs s u)

include h

theorem ctx (c : ChanId) : s.ctx c = u.ctx c := by rw [State.ctx, State.ctx, h.contexts]

theorem cfg (c : ChanId) : s.cfg c = u.cfg c := by rw [State.cfg, State.cfg, h.configs]

theorem slot (i : SlotId) : s.slot i = u.slot i := by rw [State.slot, State.slot, h.slots]

theorem searchPasses (c : ChanId) (n : Nat) : s.SearchPasses c n = u.SearchPasses c n := by
  simp only [SearchPasses, h.ctx, h.cfg, h.slot]

theorem unfitSlots (c : ChanId) (n : Nat) : s.unfitSlots c n = u.unfitSlots c n := by
  simp only [State.unfitSlots, h.ctx, h.cfg, h.slot]

theorem unfitFlags (c : ChanId) (n : Nat) : s.unfitFlags c n = u.unfitFlags c n := by
  simp only [State.unfitFlags, h.ctx, h.cfg, h.slot, h.channels]

end DecidesAs

theorem deciding_decidesAs (hf : f.admitted) (hk : f.kind = .data ∨ f.kind = .openF) : DecidesAs s (s.deciding f) := by
  obtain ⟨a, hu⟩ := s.deciding_eq hf hk
  rw [hu]
  exact ⟨updateEntry_contexts _ _ _, updateEntry_configs _ _ _, updateEntry_slots _ _ _, updateEntries_channels _ _⟩

theorem respond_eq (s : State) (f : Frame) :
    s.respond f =
      (s.decide f.channel f).1.modLine fun l =>
        { l with response := some { answer := (s.decide f.channel f).2, channel := f.channel } } := rfl

/-- What a response decision leaves alone, whatever it answers (R98). -/
theorem respond_answered (hf : f.admitted) (hk : f.kind = .data ∨ f.kind = .openF) (hd : f.dest = s.station.ownAddress) :
    Answered s ((s.deciding f).respond f) f ((s.deciding f).decide f.channel f).2 := by
  have has := deciding_decidesAs (s := s) hf hk
  have hpart : s.partIn f = .destination := if_pos hd
  obtain ⟨a, hu⟩ := s.deciding_eq hf hk
  generalize s.deciding f = u at hu has ⊢
  have hline : u.line = s.line.after f .destination := by rw [hu, updateEntry_line, ← hpart]; rfl
  have hmc : u.mc = { s.mc with lineErrors := s.mc.lineErrors - 1 } := by rw [hu, updateEntry_mc]; rfl
  have hlatch : u.arb.latch = s.arb.latch := by rw [hu, updateEntry_latch]; rfl
  have hpointers : u.arb.pointers = s.arb.pointers := by rw [hu, updateEntry_pointers]; rfl
  have hbeacon : u.beaconTimer = s.beaconTimer := by rw [hu, updateEntry_beaconTimer]; rfl
  have hram : u.ram = s.ram := by rw [hu, updateEntry_ram]; rfl
  have hstation : u.station = s.station := by rw [hu, updateEntry_station]; rfl
  have hport : u.port = s.port := by rw [hu, updateEntry_port]; rfl
  have hpending : u.pending = s.pending := by rw [hu, updateEntry_pending]; rfl
  have hlocal := u.decide_local f.channel f
  rw [respond_eq]
  exact {
    line := by rw [modLine_line, decide_line, hline]
    mc := (decide_mc u _ _).trans hmc
    contexts := fun d hne => (hlocal.ctx d hne).trans (has.ctx d).symm
    flags := fun d hne => (hlocal.flags d hne).trans (by rw [has.channels])
    latch := (decide_latch u _ _).trans hlatch
    pointers := (decide_pointers u _ _).trans hpointers
    beaconTimer := (decide_beaconTimer u _ _).trans hbeacon
    ram := (decide_ram u _ _).trans hram
    station := (decide_station u _ _).trans hstation
    configs := (decide_configs u _ _).trans has.configs
    port := (decide_port u _ _).trans hport
    pending := (decide_pending u _ _).trans hpending }

/-- What a response decision leaves of its channel, by the state and the answer of the decision. -/
theorem respond_decides {v : State} {ans : Answer} (h : s.decide f.channel f = (v, ans)) :
    (s.decide f.channel f).2 = ans ∧ (s.respond f).ctx f.channel = v.ctx f.channel ∧ (s.respond f).slots = v.slots
      ∧ (s.respond f).notice.channels.get f.channel = v.notice.channels.get f.channel := by
  have hrespond : s.respond f = v.modLine fun l => { l with response := some { answer := ans, channel := f.channel } } := by
    rw [respond_eq, h]
  rw [h, hrespond]
  exact ⟨rfl, rfl, rfl, rfl⟩

/-- A decision that moves nothing. -/
theorem respond_still {ans : Answer} (h : s.decide f.channel f = (s, ans)) :
    (s.decide f.channel f).2 = ans ∧ (s.respond f).ctx f.channel = s.ctx f.channel ∧ (s.respond f).slots = s.slots := by
  obtain ⟨hanswer, hctx, hslots, -⟩ := respond_decides h
  exact ⟨hanswer, hctx, hslots⟩

/-- An ACK with its record (R98). -/
theorem respond_accepts {form : AcceptForm} (h : s.decide f.channel f = s.accept f.channel form) :
    (s.decide f.channel f).2 = .ack
      ∧ (s.respond f).ctx f.channel = { s.ctx f.channel with acceptance := some { form := form, withdrawn := false } }
      ∧ (s.respond f).slots = s.slots := by
  obtain ⟨hanswer, hctx, hslots, -⟩ := respond_decides h
  exact ⟨hanswer, hctx.trans (modCtx_ctx_same _ _ _), hslots⟩

/-! ### A frame that needs a fresh descriptor (R105 to R107) -/

theorem decideFresh_noSpace (h : s.search c = (t, .noSpace)) (k : Closes) : s.decideFresh c f k = (t.lackOfSpace c, .nak) := by
  rw [decideFresh, h]

theorem decideFresh_badRange (h : s.search c = (t, .badRange)) (k : Closes) : s.decideFresh c f k = (t, .halt) := by
  rw [decideFresh, h]

theorem decideFresh_found {d : SlotCopy} (h : s.search c = (t, .found d)) (k : Closes) :
    s.decideFresh c f k =
      t.accept c
        (.store { target := .found d, closes := k, position := f.position, payload := f.payload, sum := f.chain }) := by
  rw [decideFresh, h]

/-- A decision that answers other than ACK has left the acceptance record as it was (R98). -/
def KeepsRecord (s : State) (c : ChanId) (o : State × Answer) : Prop :=
  o.2 ≠ .ack → (o.1.ctx c).acceptance = (s.ctx c).acceptance

theorem keepsRecord_still (s : State) (c : ChanId) (a : Answer) : s.KeepsRecord c (s, a) := fun _ => rfl

theorem keepsRecord_accept (s t : State) (c : ChanId) (form : AcceptForm) : s.KeepsRecord c (t.accept c form) :=
  fun h => absurd rfl h

/-- A space search and a NAK for lack of space leave the acceptance record (R69, R107). -/
theorem keepsRecord_decideFresh (s : State) (c : ChanId) (f : Frame) (k : Closes) : s.KeepsRecord c (s.decideFresh c f k) := by
  have hsearch : ((s.search c).1.ctx c).acceptance = (s.ctx c).acceptance := congrArg Prod.fst (searchLoop_held c _ s)
  cases hs : s.search c with
  | mk t r =>
    rw [hs] at hsearch
    cases r with
    | found d =>
      rw [decideFresh_found hs]
      exact keepsRecord_accept s t c _
    | noSpace =>
      rw [decideFresh_noSpace hs, lackOfSpace_eq]
      intro _
      rw [withChannel_ctx]
      exact hsearch
    | badRange =>
      rw [decideFresh_badRange hs]
      exact fun _ => hsearch

theorem keepsRecord_decideData (s : State) (c : ChanId) (f : Frame) : s.KeepsRecord c (s.decideData c f) := by
  unfold decideData
  dsimp only
  split
  · exact s.keepsRecord_decideFresh c f _
  split
  · exact s.keepsRecord_still c _
  split
  · exact s.keepsRecord_accept s c _
  · exact s.keepsRecord_decideFresh c f _

theorem keepsRecord_decide (s : State) (c : ChanId) (f : Frame) : s.KeepsRecord c (s.decide c f) := by
  unfold decide
  dsimp only
  split
  · exact s.keepsRecord_still c _
  split
  · exact s.keepsRecord_still c _
  split
  case h_5 =>
    split
    · exact s.keepsRecord_accept s c _
    · exact s.keepsRecord_still c _
  case h_6 =>
    split
    · exact s.keepsRecord_accept s c _
    split
    · exact s.keepsRecord_accept s c _
    · exact s.keepsRecord_decideData c f
  all_goals exact s.keepsRecord_still c _

end State

/-- Settles O41: each check by its branch of the decision, in the part whose source has been heard; a frame that needs a fresh
descriptor by the ends of the space search (`search_gives`). -/
theorem responseDecidedByTheFirstCheckThatApplies : Obligations.ResponseDecidedByTheFirstCheckThatApplies := by
  intro s f hears hm hk hd
  have has := State.deciding_decidesAs (s := s) hears.admitted hk
  refine ⟨_, _, congrArg Host.Outcome.next (hears.receiveFrame_respond hm hk hd), State.respond_answered hears.admitted hk hd, ?_⟩
  generalize s.deciding f = u at has ⊢
  simp only [has.ctx, has.cfg, has.slot, has.searchPasses, has.unfitSlots, has.unfitFlags, ← has.slots]
  refine ⟨u.keepsRecord_decide f.channel f, fun h => State.respond_still (State.decide_stranger h), fun hkind hpeer =>
    ⟨fun hlong => State.respond_still (State.decide_long hkind hpeer hlong), fun hfits => ?taken⟩⟩
  have ht : u.TakesFrom f.channel f := ⟨hkind, hpeer, hfits⟩
  refine ⟨fun hx => State.respond_still (by rw [ht.decide_eq, hx]), fun hx => State.respond_still (by rw [ht.decide_eq, hx]),
    fun hx hf => State.respond_accepts (ht.decide_openF hx hf), fun hx hf => State.respond_still ?holding,
    fun hx hf => ⟨fun htoggle => State.respond_accepts (ht.decide_duplicate hx hf htoggle),
      fun htoggle hp => ⟨fun ho => State.respond_still ?reopen, fun k ho hk hroom => ?room⟩,
      fun closes n htoggle h64 hn hpasses hneeds => ?fresh⟩⟩
  case holding =>
    rw [ht.decide_eq, hx]
    simp [hf]
  case reopen =>
    exact (ht.decide_data hx hf htoggle).trans (State.decideData_reopen ((Position.begins_eq_false_iff _).2 hp) ho)
  case room =>
    obtain ⟨hanswer, hctx, hslots⟩ := State.respond_accepts
      ((ht.decide_data hx hf htoggle).trans (State.decideData_room ((Position.begins_eq_false_iff _).2 hp) ho hk hroom))
    exact ⟨hanswer, hslots, hctx⟩
  case fresh =>
    have hfresh := (ht.decide_data hx hf htoggle).trans (State.decideData_fresh hneeds)
    obtain ⟨hnone, hsome⟩ := u.search_gives f.channel n h64 hn hpasses
    refine ⟨fun hend => ?noSpace, fun hlt hring hother hvalid => ⟨fun hpast => ?badRange, fun hin hlong => ?found⟩⟩
    case noSpace =>
      have hgives := State.respond_decides (hfresh.trans (State.decideFresh_noSpace (hnone hend) closes))
      rw [State.lackOfSpace_eq, State.passed_eq_withChannel, State.withChannel_withChannel] at hgives
      simpa only [State.withChannel_ctx, State.withChannel_slots, State.withChannel_flags] using hgives
    case badRange =>
      obtain ⟨hanswer, hctx, hslots, hflags⟩ := State.respond_decides
        (hfresh.trans (State.decideFresh_badRange ((hsome hlt hring hother hvalid).1 hpast) closes))
      obtain ⟨hctx', hslots', hflags'⟩ := u.passed_badRange f.channel n hlt hring
      exact ⟨hanswer, hctx.trans hctx', hslots.trans hslots', hflags.trans hflags'⟩
    case found =>
      obtain ⟨hanswer, hctx, hslots, hflags⟩ := State.respond_decides
        (hfresh.trans (State.decideFresh_found ((hsome hlt hring hother hvalid).2 hin hlong) closes))
      rw [State.modCtx_ctx_same, State.passed_ctx] at hctx
      exact ⟨hanswer, hslots, hflags.trans (u.passed_flags f.channel n), hctx⟩

end Sys2Proof.Machine

/-! PROOFS. The end of the own response byte (R16, R17, R108 to R113): each form of a record by the operations of its channel, and
the line that closes with the byte. -/

namespace Sys2Proof.Machine

/-! ### Records of one channel -/

/-- A context that has stored the bytes of a frame (R109). -/
def Context.fed (x : Context) (w : StoreWork) : Context :=
  { x with
    bytesUsed := x.bytesUsed + w.payload.length
    openMsg := true
    openBytes := (if w.position.begins then 0 else x.openBytes) + w.payload.length
    toggle := !x.toggle
    acc := (if w.position.begins then ChainAcc.cleared else x.acc).feedAll w.payload
    drainNoted := false }

/-- The status of a completed message (R110). -/
def Context.verdict (x : Context) (sum : Option Word) : Status := if sum = some x.acc.close then .endS else .sumError

/-- A context that has taken a found slot, the walker being past it (R109). -/
def Context.taken (x : Context) (i : SlotId) (d : SlotCopy) : Context := { x with walker := i, current := some d, bytesUsed := 0 }

/-- What a withdrawn record does to its context, by its form (R113). -/
def Context.withdrawnBy (x : Context) : AcceptForm → Context
  | .store _ => { x with toggle := !x.toggle }
  | .openF => { x with toggle := false }
  | .duplicate => { x with duplicates := saturate x.duplicates }

namespace Context

variable {x y : Context} {w : StoreWork}

/-- The first frame of a message, into a descriptor with no bytes. -/
theorem fed_begins (hp : w.position.begins = true) (hx : x.bytesUsed = 0) :
    x.fed w =
      { x with
        bytesUsed := w.payload.length, openMsg := true, openBytes := w.payload.length, toggle := !x.toggle
        acc := ChainAcc.cleared.feedAll w.payload, drainNoted := false } := by
  simp [fed, hp, hx]

/-- A later frame of a message. -/
theorem fed_goesOn {n : Nat} (hp : w.position.begins = false) (hn : x.bytesUsed + w.payload.length = n) :
    x.fed w =
      { x with
        bytesUsed := n, openMsg := true, openBytes := x.openBytes + w.payload.length, toggle := !x.toggle
        acc := x.acc.feedAll w.payload, drainNoted := false } := by
  simp [fed, hp, hn]

theorem verdict_code (x : Context) (sum : Option Word) :
    (x.verdict sum).code = if sum = some x.acc.close then 2 else 4 := apply_ite Status.code _ _ _

theorem fed_verdict_begins (hp : w.position.begins = true) (sum : Option Word) :
    ((x.fed w).verdict sum).code = if sum = some (ChainAcc.cleared.feedAll w.payload).close then 2 else 4 := by
  simp [verdict_code, fed, hp]

theorem fed_verdict_goesOn (hp : w.position.begins = false) (sum : Option Word) :
    ((x.fed w).verdict sum).code = if sum = some (x.acc.feedAll w.payload).close then 2 else 4 := by
  simp [verdict_code, fed, hp]

/-- A second message ended since the number was `m` (R110, R114). -/
theorem endMessage_again {m : Byte} (h : x.msgNo = m + 1) :
    x.endMessage =
      { x with msgNo := m + 2, current := none, openMsg := false, openBytes := 0, bytesUsed := 0, acc := .cleared } := by
  rw [endMessage, h, BitVec.add_assoc]
  rfl

/-- A channel that has written back two slots is held by either of them (R72). -/
theorem closing_twice {k d e : Slot} (hstate : y.state = (x.closing k).state) (hnotify : e.notify = d.notify)
    (hhold : e.hold = d.hold) :
    y.closing e =
      { y with
        state :=
          if (k.notify && k.hold && decide (x.state = .running) || d.notify && d.hold && decide (x.state = .running)) = true then
            .holding
          else x.state } := by
  simp only [closing, hstate, hnotify, hhold]
  by_cases hk : (k.notify && k.hold && decide (x.state = .running)) = true
  · simp [hk]
  · simp [hk]

end Context

/-- A slot written back, by the code of its status (R57). -/
theorem Slot.writtenBack_eq {d : Slot} {st : Status} {b : BitVec 4} (n : Nat) (m : Byte) (e : Bool) (h : st.code = b) :
    d.writtenBack st n m e =
      { d with valid := false, endMark := e, status := b, count := BitVec.ofNat 12 n, msgNo := m } := by
  rw [← h]
  rfl

theorem ChanFlags.noting_congr {f : ChanFlags} {d e : Slot} (h : e.notify = d.notify) : f.noting e = f.noting d := by
  rw [noting, h, noting]

/-- A write-back leaves the request of a notice and of a hold in its slot, be it the same slot or another (R57). -/
theorem Table.writtenBack_requests (v : Table 64 Slot) (i j : SlotId) (st : Status) (n : Nat) (m : Byte) (e : Bool) :
    ((v.set i ((v.get i).writtenBack st n m e)).get j).notify = (v.get j).notify
      ∧ ((v.set i ((v.get i).writtenBack st n m e)).get j).hold = (v.get j).hold := by
  rw [Table.get_set]
  split
  case isTrue h => exact h ▸ ⟨rfl, rfl⟩
  case isFalse => exact ⟨rfl, rfl⟩

/-- A slot written back after another one, or after itself, shows its own write-back alone (R57). -/
theorem Table.writtenBack_after (v : Table 64 Slot) (i j : SlotId) (st st' : Status) (n n' : Nat) (m m' : Byte) (e e' : Bool) :
    ((v.set i ((v.get i).writtenBack st n m e)).get j).writtenBack st' n' m' e' = (v.get j).writtenBack st' n' m' e' := by
  rw [Table.get_set]
  split
  case isTrue h => exact h ▸ Slot.writtenBack_writtenBack _ _ _ _ _ _ _ _ _
  case isFalse => rfl

namespace State

variable {s t : State} {c : ChanId} {x : Context} {v : Table 64 Slot} {f : ChanFlags} {m : Memory} {w : StoreWork} {d k : SlotCopy}

theorem withChannel_notice (s : State) (c : ChanId) (x : Context) (v : Table 64 Slot) (m : Memory) :
    (s.withChannel c x v (s.notice.channels.get c) m).notice = s.notice := by
  rw [withChannel, Table.set_get]

/-! ### The steps of a STORE commit (R109, R110) -/

theorem closedFor_nothing {e : Closes} (he : e = .nothing) : s.closedFor c e = s := by rw [he, closedFor]

/-- The current descriptor of a channel cut, and its message ended. -/
theorem closedFor_cut {e : Closes} (he : e = .cut) (hk : x.current = some k) :
    (s.withChannel c x v f m).closedFor c e =
      s.withChannel c (x.closing (v.get k.slot)).endMessage
        (v.set k.slot ((v.get k.slot).writtenBack .cut x.bytesUsed x.msgNo true)) (f.noting (v.get k.slot)) m := by
  rw [he]
  show (s.withChannel c x v f m).cut c = _
  rw [cut_eq_withChannel (by rw [withChannel_ctx, hk]), withChannel_withChannel, withChannel_ctx, withChannel_flags]
  rfl

/-- The current descriptor of a channel closed DONE, its message going on. -/
theorem closedFor_done {e : Closes} (he : e = .done) (hk : x.current = some k) :
    (s.withChannel c x v f m).closedFor c e =
      s.withChannel c { x.closing (v.get k.slot) with current := none, bytesUsed := 0 }
        (v.set k.slot ((v.get k.slot).writtenBack .done x.bytesUsed x.msgNo false)) (f.noting (v.get k.slot)) m := by
  have hclosed (u : State) (h : (u.ctx c).current = some k) :
      u.closeDone c = (u.closeCurrent c k .done false).modCtx c fun y => { y with current := none, bytesUsed := 0 } := by
    unfold closeDone
    rw [h]
  rw [he]
  show (s.withChannel c x v f m).closeDone c = _
  rw [hclosed _ (by rw [withChannel_ctx, hk]), closeCurrent_eq_withChannel, modCtx_withChannel, withChannel_withChannel,
    withChannel_ctx, withChannel_flags]
  rfl

/-- The bytes of a frame stored after those of its current descriptor. -/
theorem commitBytes_withChannel (hd : x.current = some d) :
    (s.withChannel c x v f m).commitBytes c w =
      s.withChannel c (x.fed w) v f (Memory.writeBytes m (d.offset + BitVec.ofNat 12 x.bytesUsed) w.payload) := by
  have hstored (u : State) (h : (u.ctx c).current = some d) :
      u.commitBytes c w =
        (u.store (d.offset + BitVec.ofNat 12 (u.ctx c).bytesUsed) w.payload).modCtx c fun y => y.fed w := by
    unfold commitBytes
    simp only [h]
    rfl
  rw [hstored _ (by rw [withChannel_ctx, hd]), withChannel_ctx, store_withChannel, modCtx_withChannel]

/-- A frame stored whose message goes on. -/
theorem commitStore_goesOn (htarget : t.commitTarget c w = s.withChannel c x v f m) (hd : x.current = some d)
    (hp : w.position.ends = false) :
    t.commitStore c w =
      s.withChannel c (x.fed w) v f (Memory.writeBytes m (d.offset + BitVec.ofNat 12 x.bytesUsed) w.payload) := by
  unfold commitStore
  dsimp only
  rw [htarget, commitBytes_withChannel hd, hp]
  exact if_neg Bool.false_ne_true

/-- A frame stored that ends its message. -/
theorem commitStore_completes (htarget : t.commitTarget c w = s.withChannel c x v f m) (hd : x.current = some d)
    (hp : w.position.ends = true) :
    t.commitStore c w =
      s.withChannel c ((x.fed w).closing (v.get d.slot)).endMessage
        (v.set d.slot
          ((v.get d.slot).writtenBack ((x.fed w).verdict w.sum) (x.bytesUsed + w.payload.length) x.msgNo true))
        (f.noting (v.get d.slot)) (Memory.writeBytes m (d.offset + BitVec.ofNat 12 x.bytesUsed) w.payload) := by
  have hcurrent : (x.fed w).current = some d := hd
  unfold commitStore
  dsimp only
  rw [htarget, commitBytes_withChannel hd, hp, if_pos rfl, completeTaken_open (by rw [withChannel_ctx, hcurrent]),
    closeCurrent_eq_withChannel, modCtx_withChannel, withChannel_withChannel, withChannel_ctx,
    withChannel_flags]
  rfl

/-- A found slot taken after what becomes of the current descriptor. -/
theorem commitTarget_takes (h : w.target = .found d) (hclosed : t.closedFor c w.closes = s.withChannel c x v f m) :
    t.commitTarget c w = s.withChannel c (x.taken ((s.cfg c).next x.walker) d) v f m := by
  rw [commitTarget_found h, hclosed, stepWalker_withChannel, modCtx_withChannel]
  rfl

/-- A frame stored in a found slot, its message going on. -/
theorem commitStore_starts (h : w.target = .found d) (hclosed : t.closedFor c w.closes = s.withChannel c x v f m)
    (hp : w.position.ends = false) :
    t.commitStore c w =
      s.withChannel c ((x.taken ((s.cfg c).next x.walker) d).fed w) v f (Memory.writeBytes m d.offset w.payload) := by
  have hstored := commitStore_goesOn (commitTarget_takes h hclosed) rfl hp
  rwa [show (x.taken ((s.cfg c).next x.walker) d).bytesUsed = 0 from rfl, BitVec.add_zero] at hstored

/-- A frame stored in a found slot that ends its message. -/
theorem commitStore_startsAndEnds (h : w.target = .found d) (hclosed : t.closedFor c w.closes = s.withChannel c x v f m)
    (hp : w.position.ends = true) :
    t.commitStore c w =
      s.withChannel c (((x.taken ((s.cfg c).next x.walker) d).fed w).closing (v.get d.slot)).endMessage
        (v.set d.slot
          ((v.get d.slot).writtenBack (((x.taken ((s.cfg c).next x.walker) d).fed w).verdict w.sum) w.payload.length x.msgNo
            true))
        (f.noting (v.get d.slot)) (Memory.writeBytes m d.offset w.payload) := by
  have hstored := commitStore_completes (commitTarget_takes h hclosed) rfl hp
  rwa [show (x.taken ((s.cfg c).next x.walker) d).bytesUsed = 0 from rfl, BitVec.add_zero, Nat.zero_add] at hstored

/-! ### The commit of each form (R108 to R113) -/

/-- The part with the record of a channel gone. -/
def recordGone (s : State) (c : ChanId) : State :=
  s.withChannel c { s.ctx c with acceptance := none } s.slots (s.notice.channels.get c) s.ram

theorem recordGone_eq (s : State) (c : ChanId) : s.recordGone c = s.modCtx c fun x => { x with acceptance := none } :=
  (modCtx_eq_withChannel s c fun x => { x with acceptance := none }).symm

theorem recordGone_ctx (s : State) (c : ChanId) : (s.recordGone c).ctx c = { s.ctx c with acceptance := none } :=
  withChannel_ctx s c _ _ _ _

section
variable {a : Acceptance}

theorem commit_none (h : (s.ctx c).acceptance = none) : s.commit c = s := by rw [commit, h]

/-- The commit of a record that a CLEAR has withdrawn (R113). -/
theorem commit_withdrawn (h : (s.ctx c).acceptance = some a) (hw : a.withdrawn = true) :
    s.commit c =
      s.withChannel c (Context.withdrawnBy { s.ctx c with acceptance := none } a.form) s.slots (s.notice.channels.get c)
        s.ram := by
  have hcommit : s.commit c = (s.recordGone c).commitWithdrawn c a.form := by
    rw [commit, h, recordGone_eq]
    exact if_pos hw
  have hform : (s.recordGone c).commitWithdrawn c a.form = (s.recordGone c).modCtx c fun x => x.withdrawnBy a.form := by
    cases a.form with
    | store _ => rfl
    | openF => rfl
    | duplicate => rfl
  rw [hcommit, hform, recordGone, modCtx_withChannel]

/-- The commit of a STORE record. -/
theorem commit_store (h : (s.ctx c).acceptance = some a) (hw : a.withdrawn = false) (hf : a.form = .store w) :
    s.commit c = (s.recordGone c).commitStore c w := by
  simp [commit, h, hw, hf, recordGone_eq]

/-- The commit of an OPEN record, by the cut of the open message (R111, R114). -/
theorem commit_openF (h : (s.ctx c).acceptance = some a) (hw : a.withdrawn = false) (hf : a.form = .openF)
    (hcut : (s.recordGone c).closedFor c .cut = t.withChannel c x v f m) :
    s.commit c = t.withChannel c { x with toggle := false, drainNoted := false } v f m := by
  have hcommit : s.commit c =
      ((s.recordGone c).closedFor c .cut).modCtx c fun x => { x with toggle := false, drainNoted := false } := by
    simp [commit, h, hw, hf, recordGone_eq, closedFor]
  rw [hcommit, hcut, modCtx_withChannel]

theorem commit_duplicate (h : (s.ctx c).acceptance = some a) (hw : a.withdrawn = false) (hf : a.form = .duplicate) :
    s.commit c =
      s.withChannel c { s.ctx c with acceptance := none, duplicates := saturate (s.ctx c).duplicates } s.slots
        (s.notice.channels.get c) s.ram := by
  have hcommit : s.commit c = (s.recordGone c).modCtx c fun x => { x with duplicates := saturate x.duplicates } := by
    simp [commit, h, hw, hf, recordGone_eq]
  rw [hcommit, recordGone, modCtx_withChannel]

end

/-! ### What a part with one channel at other values shows -/

theorem modLine_reads (h : t = s.withChannel c x v f m) (g : LineRecord → LineRecord) :
    (t.modLine g).ctx c = x ∧ (t.modLine g).ram = m ∧ (t.modLine g).slots = v
      ∧ (t.modLine g).notice.channels.get c = f := by
  rw [h]
  exact ⟨s.withChannel_ctx c x v f m, rfl, rfl, s.withChannel_flags c x v f m⟩

theorem modLine_reads_quiet (h : t = s.withChannel c x v (s.notice.channels.get c) m) (g : LineRecord → LineRecord) :
    (t.modLine g).ctx c = x ∧ (t.modLine g).ram = m ∧ (t.modLine g).slots = v ∧ (t.modLine g).notice = s.notice := by
  rw [h]
  exact ⟨s.withChannel_ctx c x v (s.notice.channels.get c) m, rfl, rfl, s.withChannel_notice c x v m⟩

/-! ### The line at the end of the byte (R16, R17) -/

/-- The part with no response byte left to send. -/
def byteOver (s : State) : State := s.modLine fun l => { l with response := none }

/-- The line when the own response byte is over. -/
def sentLine (l : LineRecord) (r : Response) : LineRecord :=
  if l.answering then l.closeWindow (idleAfter r.answer.byte) else l.recessive (idleAfter r.answer.byte)

theorem sentLine_resync {l : LineRecord} (h : l.state = .busy .resync) (r : Response) :
    sentLine l r = l.recessive (idleAfter r.answer.byte) := by
  simp [sentLine, LineRecord.answering, h]

theorem sentLine_destination {l : LineRecord} {w : Window} (h : l.state = .busy .window) (hw : l.window = some w)
    (hp : w.part = .destination) (r : Response) : sentLine l r = l.closeWindow (idleAfter r.answer.byte) := by
  simp [sentLine, LineRecord.answering, h, hw, hp]

theorem responseSent_eq {r : Response} (h : s.line.response = some r) :
    s.responseSent = (s.endResponse r).modLine fun l => sentLine l r := by
  rw [responseSent, h]
  rfl

theorem endResponse_ack {r : Response} (h : r.answer = .ack) :
    s.endResponse r = s.byteOver.commit r.channel := by
  rw [endResponse, h]
  rfl

theorem endResponse_still {r : Response}
    (h : r.answer ≠ .ack ∨ (s.ctx r.channel).acceptance = none) :
    s.endResponse r = s.byteOver := by
  unfold endResponse
  dsimp only
  split
  case isTrue hack => exact commit_none (h.resolve_left fun hne => hne hack)
  case isFalse => rfl

theorem endResponse_line (s : State) (r : Response) : (s.endResponse r).line = { s.line with response := none } := by
  unfold endResponse
  dsimp only
  split
  · exact commit_line _ _
  · rfl

theorem responseSent_line (s : State) (r : Response) :
    ((s.endResponse r).modLine fun l => sentLine l r).line = sentLine { s.line with response := none } r := by
  rw [modLine_line, endResponse_line]

/-- A response byte that reads back wrong: the same commit, no recessive bit counted, and the report (R17). -/
theorem responseFaulted_eq {r : Response} (h : s.line.response = some r) (g : LineRecord → LineRecord) :
    s.responseFaulted =
      State.reportRise { (s.endResponse r).modLine g with line := { s.line with response := none, idleCount := 0 } } 8 := by
  have hline := s.endResponse_line r
  unfold responseFaulted
  rw [h]
  dsimp only
  generalize s.endResponse r = t at hline ⊢
  rw [modLine, hline]
  rfl

/-- The end of a response byte moves the channel of the response, its slots and Buffer RAM, and the line (R108). -/
theorem endResponse_frame (s : State) (r : Response) (g : LineRecord → LineRecord) :
    CommitFrame s ((s.endResponse r).modLine g) r.channel := by
  suffices h : CommitFrame s.byteOver (s.endResponse r) r.channel from { h with }
  unfold endResponse
  dsimp only
  split
  case isTrue =>
    obtain ⟨hctx, hflags, hstation, hmarks⟩ := s.byteOver.commit_local r.channel
    exact ⟨hctx, hflags, hstation, hmarks, commit_arb _ _, commit_presence _ _, commit_mc _ _, commit_beaconTimer _ _,
      commit_station _ _, commit_configs _ _, commit_port _ _, commit_pending _ _⟩
  case isFalse =>
    exact ⟨fun _ _ => rfl, fun _ _ => rfl, rfl, rfl, rfl, rfl, rfl, rfl, rfl, rfl, rfl, rfl⟩

end State

/-- Settles O42: the line by `sentLine`, and each form of a record by the operations of its channel, whose context, slots, flags and
bytes `modLine_reads` shows. -/
theorem responseByteEndCommitsTheRecord : Obligations.ResponseByteEndCommitsTheRecord := by
  refine ⟨fun s r hr => ⟨_, congrArg Host.Outcome.next (State.responseSent_eq hr), ?fault, fun hbusy => ?resync⟩,
    fun s r hr hbusy hpart hsome => ?_⟩
  case fault => exact congrArg Host.Outcome.next (State.responseFaulted_eq hr _)
  case resync =>
    rw [State.responseSent_line]
    exact State.sentLine_resync (l := { s.line with response := none }) hbusy r
  refine ⟨_, congrArg Host.Outcome.next (State.responseSent_eq hr), s.endResponse_frame r _, ?line, fun hstill => ?still,
    fun a hack ha => ?commit⟩
  case line =>
    obtain ⟨w, hw⟩ := Option.ne_none_iff_exists'.1 hsome
    rw [State.responseSent_line]
    exact State.sentLine_destination (l := { s.line with response := none }) hbusy hw (hpart w hw) r
  case still =>
    rw [State.endResponse_still hstill]
    exact ⟨rfl, rfl, rfl, rfl⟩
  case commit =>
  rw [State.endResponse_ack hack]
  have hstore {w : StoreWork} (hw : a.withdrawn = false) (hform : a.form = .store w) :
      s.byteOver.commit r.channel = (s.byteOver.recordGone r.channel).commitStore r.channel w :=
    State.commit_store ha hw hform
  refine ⟨fun hw => ?withdrawn, fun hw hform => ?duplicate, fun hw hform hnone => ?openNone, fun d hw hform hd => ?openCut,
    fun w d hw hform ht hc hd hp => ?currentMiddle, fun w d hw hform ht hc hd hp => ?currentLast,
    fun w d hw hform ht hc hp => ?first, fun w d hw hform ht hc hp => ?only,
    fun w k d hw hform ht hc hk hp => ?cutFirst, fun w k d hw hform ht hc hk hp => ?cutOnly,
    fun w k d hw hform ht hc hk hp => ?doneLast, fun w k d hw hform ht hc hk hp => ?doneMiddle⟩
  case withdrawn =>
    obtain ⟨hctx, hram, hslots, hnotice⟩ := State.modLine_reads_quiet (State.commit_withdrawn (s := s.byteOver) ha hw) _
    refine ⟨hslots, hram, hnotice, hctx.trans ?_⟩
    cases a.form with
    | store _ => rfl
    | openF => rfl
    | duplicate => rfl
  case duplicate =>
    obtain ⟨hctx, hram, hslots, hnotice⟩ := State.modLine_reads_quiet (State.commit_duplicate (s := s.byteOver) ha hw hform) _
    exact ⟨hctx, hslots, hram, hnotice⟩
  case openNone =>
    have hcut : (s.byteOver.recordGone r.channel).closedFor r.channel .cut = s.byteOver.recordGone r.channel :=
      State.cut_none _ _ (by rw [State.recordGone_ctx]; exact hnone)
    obtain ⟨hctx, hram, hslots, hnotice⟩ := State.modLine_reads_quiet (State.commit_openF (s := s.byteOver) ha hw hform hcut) _
    exact ⟨hctx, hslots, hram, hnotice⟩
  case openCut =>
    obtain ⟨hctx, hram, hslots, hflags⟩ := State.modLine_reads
      (State.commit_openF (s := s.byteOver) ha hw hform (State.closedFor_cut rfl hd)) _
    exact ⟨hctx, hslots, hram, hflags⟩
  case currentMiddle =>
    have hcommit := (hstore hw hform).trans
      (State.commitStore_goesOn ((State.commitTarget_current ht _ _).trans (State.closedFor_nothing hc)) hd (by rw [hp]; rfl))
    obtain ⟨hctx, hram, hslots, hnotice⟩ := State.modLine_reads_quiet hcommit _
    exact ⟨hctx.trans (Context.fed_goesOn (by rw [hp]; rfl) rfl), hram, hslots, hnotice⟩
  case currentLast =>
    have hcommit := (hstore hw hform).trans
      (State.commitStore_completes ((State.commitTarget_current ht _ _).trans (State.closedFor_nothing hc)) hd (by rw [hp]; rfl))
    obtain ⟨hctx, hram, hslots, hflags⟩ := State.modLine_reads hcommit _
    exact ⟨hctx, hram,
      hslots.trans (congrArg _ (Slot.writtenBack_eq _ _ _ (Context.fed_verdict_goesOn (by rw [hp]; rfl) _))), hflags⟩
  case first =>
    have hcommit := (hstore hw hform).trans
      (State.commitStore_starts ht (State.closedFor_nothing hc) (by rw [hp]; rfl))
    obtain ⟨hctx, hram, hslots, hnotice⟩ := State.modLine_reads_quiet hcommit _
    exact ⟨hctx.trans (Context.fed_begins (by rw [hp]; rfl) rfl), hram, hslots, hnotice⟩
  case only =>
    have hcommit := (hstore hw hform).trans
      (State.commitStore_startsAndEnds ht (State.closedFor_nothing hc) (by rw [hp]; rfl))
    obtain ⟨hctx, hram, hslots, hflags⟩ := State.modLine_reads hcommit _
    exact ⟨hctx, hram,
      hslots.trans (congrArg _ (Slot.writtenBack_eq _ _ _ (Context.fed_verdict_begins (by rw [hp]; rfl) _))), hflags⟩
  case cutFirst =>
    have hcommit := (hstore hw hform).trans
      (State.commitStore_starts ht (State.closedFor_cut hc hk) (by rw [hp]; rfl))
    obtain ⟨hctx, hram, hslots, hflags⟩ := State.modLine_reads hcommit _
    exact ⟨hctx.trans (Context.fed_begins (by rw [hp]; rfl) rfl), hram, hslots, hflags⟩
  case doneMiddle =>
    have hcommit := (hstore hw hform).trans
      (State.commitStore_starts ht (State.closedFor_done hc hk) (by rw [hp]; rfl))
    obtain ⟨hctx, hram, hslots, hflags⟩ := State.modLine_reads hcommit _
    exact ⟨hctx.trans (Context.fed_goesOn (by rw [hp]; rfl) (Nat.zero_add _)), hram, hslots, hflags⟩
  case cutOnly =>
    have hcommit := (hstore hw hform).trans
      (State.commitStore_startsAndEnds ht (State.closedFor_cut hc hk) (by rw [hp]; rfl))
    obtain ⟨hctx, hram, hslots, hflags⟩ := State.modLine_reads hcommit _
    obtain ⟨hnotify, hhold⟩ := Table.writtenBack_requests s.slots k.slot d.slot .cut (s.ctx r.channel).bytesUsed
      (s.ctx r.channel).msgNo true
    have hheld (y : Context) (hy : y.state = ((s.ctx r.channel).closing (s.slot k.slot)).state) :=
      Context.closing_twice (d := s.slot d.slot) hy hnotify hhold
    exact ⟨hctx.trans ((congrArg Context.endMessage (hheld _ (by rfl))).trans (Context.endMessage_again (by rfl))), hram,
      hslots.trans (congrArg _ ((Table.writtenBack_after _ _ _ _ _ _ _ _ _ _ _).trans
        (Slot.writtenBack_eq _ _ _ (Context.fed_verdict_begins (by rw [hp]; rfl) _)))),
      hflags.trans (ChanFlags.noting_congr hnotify)⟩
  case doneLast =>
    have hcommit := (hstore hw hform).trans
      (State.commitStore_startsAndEnds ht (State.closedFor_done hc hk) (by rw [hp]; rfl))
    obtain ⟨hctx, hram, hslots, hflags⟩ := State.modLine_reads hcommit _
    obtain ⟨hnotify, hhold⟩ := Table.writtenBack_requests s.slots k.slot d.slot .done (s.ctx r.channel).bytesUsed
      (s.ctx r.channel).msgNo false
    have hheld (y : Context) (hy : y.state = ((s.ctx r.channel).closing (s.slot k.slot)).state) :=
      Context.closing_twice (d := s.slot d.slot) hy hnotify hhold
    exact ⟨hctx.trans ((congrArg Context.endMessage (hheld _ (by rfl))).trans rfl), hram,
      hslots.trans (congrArg _ ((Table.writtenBack_after _ _ _ _ _ _ _ _ _ _ _).trans
        (Slot.writtenBack_eq _ _ _ (Context.fed_verdict_goesOn (by rw [hp]; rfl) _)))),
      hflags.trans (ChanFlags.noting_congr hnotify)⟩

end Sys2Proof.Machine

/-! PROOFS. A publication heard (R69, R126 to R128): the part whose source has been heard, and the SUBSCRIBE channel that matches the
frame. -/

namespace Sys2Proof.Machine

/-- The source of an admitted frame is a station (R8). -/
theorem Frame.source_lt_of_admitted {f : Frame} (h : f.admitted) : f.source.toNat < 31 := by
  have hne : f.source.toNat ≠ 31 := fun e => h.1 (BitVec.eq_of_toNat_eq e)
  have := f.source.isLt
  omega

namespace State

variable {s t : State} {c : ChanId} {f : Frame}

/-! ### The part whose source has been heard (R15, R131) -/

/-- What the part shows when a publication is at its frame end and its source has been heard, before its delivery to the channels
(R4, R15, R126). -/
structure HasHeard (s u : State) (f : Frame) : Prop extends DecidesAs s u where
  line : u.line = s.line.after f .observer
  mc : u.mc = { s.mc with lineErrors := s.mc.lineErrors - 1 }
  ram : u.ram = s.ram
  station : u.station = s.station
  port : u.port = s.port
  pending : u.pending = s.pending

theorem deciding_hasHeard (s : State) (hf : f.admitted) (hk : f.kind = .publish) : HasHeard s (s.deciding f) f := by
  have hline : (s.frameTaken f).line = s.line.after f .observer := by simp [frameTaken, LineRecord.after, hk]
  have hheard : s.deciding f = (s.frameTaken f).updateEntry ⟨_, Frame.source_lt_of_admitted hf⟩ fun e => e.hearing f :=
    presenceHears_eq _ rfl (by simp [hk])
  rw [hheard]
  exact {
    contexts := updateEntry_contexts _ _ _
    configs := updateEntry_configs _ _ _
    slots := updateEntry_slots _ _ _
    channels := updateEntries_channels _ _
    line := (updateEntry_line _ _ _).trans hline
    mc := updateEntry_mc _ _ _
    ram := updateEntry_ram _ _ _
    station := updateEntry_station _ _ _
    port := updateEntry_port _ _ _
    pending := updateEntry_pending _ _ _ }

theorem Hears.receiveFrame_publish (h : s.Hears f) (hm : s.mc.mode = .active) (hk : f.kind = .publish) :
    s.receiveFrame f.bytes = (s.deciding f).publishHeard f := by
  rw [receiveFrame_valid (receiving_of h.mode h.line h.silent) h.admitted,
    goodFrame_foreign ((Mode.listens_iff _).2 h.mode) h.source]
  unfold deliver deciding
  dsimp only
  rw [if_pos (show (s.frameTaken f).mc.mode = .active from hm), hk]

/-! ### The channel that matches (R126) -/

/-- The kind and the peer of a channel that matches a publication (R126). -/
theorem matches_iff :
    s.matches f c = true ↔
      (s.cfg c).kind = .subscribe ∧ (s.cfg c).peerStation = f.source ∧ (s.cfg c).peerChannel.toNat = f.channel.val := by
  simp [State.matches, Fin.ext_iff, and_assoc]

/-- A publication that one channel matches is offered to that channel (R126). -/
theorem publishHeard_matched (hc : s.matches f c = true) (hothers : ∀ d, d ≠ c → s.matches f d = false) :
    s.publishHeard f = s.subscribed c f := by
  have hfind : chanList.find? (s.matches f) = some c := by
    cases hd : chanList.find? (s.matches f) with
    | none => exact absurd hc (List.find?_eq_none.1 hd c (List.mem_finRange c))
    | some d =>
      by_contra hne
      have hfalse := hothers d fun h => hne (congrArg some h)
      exact Bool.false_ne_true (hfalse.symm.trans (List.find?_some hd))
  rw [publishHeard, hfind]

/-! ### A frame dropped, and a frame stored (R127, R128) -/

theorem dropFrame_eq_withChannel (s : State) (c : ChanId) :
    s.dropFrame c =
      s.withChannel c { s.ctx c with drops := min 255 ((s.ctx c).drops + 1) } s.slots
        { s.notice.channels.get c with drop := true } s.ram := rfl

theorem storePublished_withChannel (x : Context) (v : Table 64 Slot) (g : ChanFlags) (m : Memory) (d : SlotCopy)
    (p : List Byte) :
    (s.withChannel c x v g m).storePublished c d p =
      s.withChannel c { x with walker := (s.cfg c).next x.walker, msgNo := x.msgNo + 1 }
        (v.set d.slot ((v.get d.slot).writtenBack .endS p.length x.msgNo true)) (g.noting (v.get d.slot))
        (Memory.writeBytes m d.offset p) := by
  rw [storePublished, store_withChannel, writeBack_eq_withChannel, withChannel_withChannel, stepWalker_withChannel,
    modCtx_withChannel, withChannel_ctx, withChannel_flags]
  rfl

/-! ### The channel by its state, and by the end of the space search (R69, R126 to R128) -/

theorem subscribed_idle (h : (s.ctx c).state ≠ .running) : s.subscribed c f = s := if_pos h

/-- A frame longer than max payload is dropped with no search (R128). -/
theorem subscribed_long (h : (s.ctx c).state = .running) (hlong : (s.cfg c).maxPayload < f.payload.length) :
    s.subscribed c f = s.dropFrame c := by
  rw [subscribed, if_neg (not_not.2 h), if_pos hlong]

/-- What becomes of a frame that a space search has been made for (R127, R128). -/
def searchEnded (t : State) (c : ChanId) (f : Frame) : Search → State
  | .found d => t.storePublished c d f.payload
  | .noSpace | .badRange => t.dropFrame c

theorem subscribed_searched {r : Search} (h : (s.ctx c).state = .running) (hfits : f.payload.length ≤ (s.cfg c).maxPayload)
    (hr : s.search c = (t, r)) : s.subscribed c f = t.searchEnded c f r := by
  rw [subscribed, if_neg (not_not.2 h), if_neg (Nat.not_lt.2 hfits), hr]
  cases r <;> rfl

/-- A frame dropped after `n` slots passed (R128). -/
theorem passed_dropFrame (s : State) (c : ChanId) (n : Nat) :
    (s.passed c n).dropFrame c =
      s.withChannel c
        { s.ctx c with walker := (s.cfg c).after (s.ctx c).walker n, drops := min 255 ((s.ctx c).drops + 1) }
        (s.unfitSlots c n) { s.unfitFlags c n with drop := true } s.ram := by
  rw [passed_eq_withChannel, dropFrame_eq_withChannel, withChannel_withChannel, withChannel_ctx, withChannel_flags]
  rfl

/-- A frame stored in the slot that a search finds after `n` slots passed (R127). -/
theorem passed_storePublished (s : State) (c : ChanId) (n : Nat) (h : n < 64) (hn : n < (s.cfg c).ringLength.toNat)
    (p : List Byte) :
    let i := (s.cfg c).after (s.ctx c).walker n
    (s.passed c n).storePublished c ((s.slot i).copy i) p =
      s.withChannel c { s.ctx c with walker := (s.cfg c).after (s.ctx c).walker (n + 1), msgNo := (s.ctx c).msgNo + 1 }
        ((s.unfitSlots c n).set i ((s.slot i).writtenBack .endS p.length (s.ctx c).msgNo true))
        ((s.unfitFlags c n).noting (s.slot i)) (Memory.writeBytes s.ram (s.slot i).offset p) := by
  intro i
  have hslot : (s.unfitSlots c n).get i = s.slot i := passed_next s c n h hn
  rw [passed_eq_withChannel, storePublished_withChannel, show ((s.slot i).copy i).slot = i from rfl, hslot]
  rfl

/-- What a part with one channel at other values shows of it. -/
theorem withChannel_reads {x : Context} {v : Table 64 Slot} {g : ChanFlags} {m : Memory} (h : t = s.withChannel c x v g m) :
    t.ctx c = x ∧ t.slots = v ∧ t.ram = m ∧ t.notice.channels.get c = g := by
  rw [h]
  exact ⟨s.withChannel_ctx c x v g m, rfl, rfl, s.withChannel_flags c x v g m⟩

end State

/-- Settles O40: the matching channel in the part whose source has been heard, by its state, the length of the frame, and the ends of
the space search (`search_gives`). -/
theorem publicationStoredOrDropped : Obligations.PublicationStoredOrDropped := by
  intro s f c hears hm hk hkind hpeer hchannel hothers
  have has := State.deciding_hasHeard s hears.admitted hk
  have hrun := hears.receiveFrame_publish hm hk
  generalize s.deciding f = u at has hrun
  have hmatch (d : ChanId) : u.matches f d = s.matches f d := by rw [State.matches, State.matches, has.cfg]
  rw [State.publishHeard_matched ((hmatch c).trans (State.matches_iff.2 ⟨hkind, hpeer, hchannel⟩))
    fun d hd => (hmatch d).trans (hothers d hd)] at hrun
  have hlocal := u.subscribed_local c f
  refine ⟨_, congrArg Host.Outcome.next hrun, (u.subscribed_line c f).trans has.line, (u.subscribed_mc c f).trans has.mc,
    (u.subscribed_station c f).trans has.station, (u.subscribed_configs c f).trans has.configs,
    (u.subscribed_port c f).trans has.port, (u.subscribed_pending c f).trans has.pending, ?_⟩
  simp only [has.ctx, has.cfg, has.slot, has.searchPasses, has.unfitSlots, has.unfitFlags, ← has.slots, ← has.ram, ← has.channels]
  refine ⟨fun d hd => ⟨hlocal.ctx d hd, hlocal.flags d hd⟩, fun hx => ?idle, fun hx hlong => ?long,
    fun hx hfits n h64 hn hpasses => ?searched⟩
  case idle =>
    rw [State.subscribed_idle hx]
    exact ⟨rfl, rfl, rfl, rfl⟩
  case long => exact State.withChannel_reads ((State.subscribed_long hx hlong).trans (u.dropFrame_eq_withChannel c))
  case searched =>
    obtain ⟨hnone, hsome⟩ := u.search_gives c n h64 hn hpasses
    refine ⟨fun hend => ?noSpace, fun hlt hring hother hvalid => ⟨fun hpast => ?badRange, fun hin hlong => ?found⟩⟩
    case noSpace =>
      exact State.withChannel_reads ((State.subscribed_searched hx hfits (hnone hend)).trans (u.passed_dropFrame c n))
    case badRange =>
      rw [State.subscribed_searched hx hfits ((hsome hlt hring hother hvalid).1 hpast)]
      obtain ⟨hctx, hslots, hflags⟩ := u.passed_badRange c n hlt hring
      obtain ⟨hctx', hslots', hram', hflags'⟩ := State.withChannel_reads (State.dropFrame_eq_withChannel _ c)
      rw [hctx] at hctx'
      rw [hflags] at hflags'
      exact ⟨hctx', hslots'.trans hslots, hram'.trans (by simp [State.passed]), hflags'⟩
    case found =>
      exact State.withChannel_reads ((State.subscribed_searched hx hfits ((hsome hlt hring hother hvalid).2 hin hlong)).trans
        (u.passed_storePublished c n hlt hring f.payload))

end Sys2Proof.Machine

/-! PROOFS. A write of the own address (R130, R139, R145): SELF moves from the entry of the old address to that of the new one, and both
entries are marked. -/

namespace Sys2Proof.Machine

/-- The station a five-bit address names (R130). -/
theorem stationOf_eq_some_iff (w : BitVec 5) (a : Station) : stationOf w = some a ↔ a.val = w.toNat := by
  unfold stationOf
  split
  case isTrue h => simp [Fin.ext_iff, eq_comm]
  case isFalse h => exact iff_of_false (by nofun) (by omega)

/-- Two addresses that name one station are one (R130). -/
theorem stationOf_inj {w u : BitVec 5} {a : Station} (hw : stationOf w = some a) (hu : stationOf u = some a) : w = u :=
  BitVec.eq_of_toNat_eq (((stationOf_eq_some_iff w a).1 hw).symm.trans ((stationOf_eq_some_iff u a).1 hu))

namespace State

theorem setOwnAddress_station (s : State) (a : BitVec 5) :
    (s.setOwnAddress a).station = { s.station with ownAddress := a } := by
  simp [setOwnAddress]

/-- Each entry after the write, by the address it belongs to (R130). -/
theorem setOwnAddress_entry (s : State) (a : BitVec 5) (b : Station) :
    (s.setOwnAddress a).entry b =
      if s.station.ownAddress = a then s.entry b
      else if stationOf a = some b then Entry.self
      else if stationOf s.station.ownAddress = some b then Entry.absent
      else s.entry b := by
  rw [setOwnAddress, replaceEntries, lookWhere_entry, withEntries_entry, moveSelf]
  split
  · rfl
  · exact Table.get_mapIdx _ _ _

/-! ### The write as the host makes it (R139, R145) -/

/-- A write of the own address, taken (R130, R178). -/
theorem exec_ownAddressWrite {s : State} (h : s.hostOpen = true) (v : Byte) :
    exec (.ownAddressWrite v) s = .next (s.accessed.writeStationByte 0 v) :=
  congrArg Host.Outcome.next (access_open h _)

/-- Outside SETUP the station configuration is frozen (R145). -/
theorem writeStationByte_frozen {s : State} (hm : s.mc.mode ≠ .setup) (addr : Nat) (v : Byte) :
    s.accessed.writeStationByte addr v = s.writeRefused .configFrozen none := if_pos hm

theorem writeStationByte_ownAddress {s : State} (hm : s.mc.mode = .setup) (v : Byte) :
    s.writeStationByte 0 v = s.setOwnAddress (v.extractLsb' 0 5) := by
  rw [writeStationByte, if_neg (not_not_intro hm), if_pos rfl]

/-- Each entry after the write, by the number of its station: where both addresses are one, the entry that it names is kept. -/
theorem setOwnAddress_entry_number (s : State) (a : BitVec 5) (b : Station) :
    (s.setOwnAddress a).entry b =
      if b.val = a.toNat then (if a = s.station.ownAddress then s.entry b else Entry.self)
      else if b.val = s.station.ownAddress.toNat then Entry.absent
      else s.entry b := by
  rw [setOwnAddress_entry]
  simp only [stationOf_eq_some_iff]
  by_cases hsame : s.station.ownAddress = a
  · simp +contextual [hsame]
  · rw [if_neg hsame, if_neg (Ne.symm hsame)]

/-- An entry's changed mark is set where the write changes the entry (R139). -/
theorem setOwnAddress_mark (s : State) (a : BitVec 5) (b : Station) :
    (s.setOwnAddress a).notice.marks.get b =
      (s.notice.marks.get b || (s.entry b).changed ((s.setOwnAddress a).entry b)) := by
  rw [setOwnAddress, replaceEntries, lookWhere_notice, lookWhere_entry]
  exact Table.get_mapIdx _ _ _

/-- Where SELF stands on the entry of the old address alone, a write of another address changes the entries of the two addresses,
and no other (R130). -/
theorem SelfExact.setOwnAddress_changed {s : State} (h : s.SelfExact) (a : BitVec 5) (b : Station) :
    (s.entry b).changed ((s.setOwnAddress a).entry b) = true ↔
      a ≠ s.station.ownAddress ∧ (b.val = a.toNat ∨ b.val = s.station.ownAddress.toNat) := by
  have hself := h b
  rw [setOwnAddress_entry, ← stationOf_eq_some_iff, ← stationOf_eq_some_iff]
  by_cases hsame : s.station.ownAddress = a
  · simp [hsame, Entry.changed]
  rw [if_neg hsame]
  by_cases hnew : stationOf a = some b
  · have hother : (s.entry b).state ≠ .self := fun hs => hsame (stationOf_inj (hself.1 hs) hnew)
    simp [hnew, Ne.symm hsame, Entry.changed, Entry.self, hother]
  · by_cases hold : stationOf s.station.ownAddress = some b
    · simp [hnew, hold, Ne.symm hsame, Entry.changed, Entry.absent, hself.2 hold]
    · simp [hnew, hold, Entry.changed]

end State

/-- Settles O24: the entries by the address each belongs to, and the marks by which of them change where SELF is exact. -/
theorem ownAddressWriteMovesSelf : Obligations.OwnAddressWriteMovesSelf := by
  intro s v hopen
  have hexec := State.exec_ownAddressWrite hopen v
  refine ⟨fun hm => ?frozen, fun hm hself => ?written⟩
  case frozen => rw [hexec, State.writeStationByte_frozen hm]
  case written =>
    rw [State.writeStationByte_ownAddress (s := s.accessed) hm] at hexec
    refine ⟨_, hexec, State.setOwnAddress_station _ _, fun a => ?entry, fun a => ?mark, ?frame⟩
    case entry => exact s.accessed.setOwnAddress_entry_number _ a
    case mark =>
      have hexact : s.accessed.SelfExact := hself
      rw [State.setOwnAddress_mark, Bool.or_eq_true, hexact.setOwnAddress_changed]
      rfl
    case frame => simp [State.setOwnAddress, State.replaceEntries, State.accessed]

end Sys2Proof.Machine

/-! PROOFS. SELF in the Presence Table (R130): no operation but a write of the own address and RESET makes an entry SELF or an entry
other than SELF. -/

namespace Sys2Proof.Machine

/-- Which stations' entries are SELF (R130). -/
def PresenceTable.selves (p : PresenceTable) (a : Station) : Bool := (p.entries.get a).state == .self

namespace State

theorem selfExact_iff (s : State) :
    s.SelfExact ↔ ∀ a, s.presence.selves a = true ↔ stationOf s.station.ownAddress = some a := by
  simp [SelfExact, PresenceTable.selves, entry]

end State

/-! ### Changes of one entry (R131 to R138) -/

namespace Entry

theorem heard_ne_self (e : Entry) : e.heard.state ≠ .self := by nofun

theorem pulsed_ne_self {e : Entry} (h : e.state ≠ .self) : e.pulsed.state ≠ .self := by
  unfold pulsed
  split
  · nofun
  · exact h

theorem exhausted_ne_self {e : Entry} (h : e.state ≠ .self) : e.exhausted.state ≠ .self := by
  cases hs : e.state <;> simp_all [exhausted]

theorem timedOut_ne_self {e : Entry} (h : e.state ≠ .self) : e.timedOut.state ≠ .self := by
  cases hs : e.state <;> simp_all [timedOut]

end Entry

/-! ### The Presence Table (R130 to R138) -/

namespace PresenceTable

theorem tick_selves (p : PresenceTable) (m : Mode) : (p.tick m).selves = p.selves := by
  funext a
  by_cases hm : m.listens = true <;> simp [selves, tick, hm, Entry.tick_state]

/-- SOFT_RESET keeps SELF (R138). -/
theorem cleared_selves (p : PresenceTable) : p.cleared.selves = p.selves := by
  funext a
  by_cases h : (p.entries.get a).state = .self <;> simp [selves, cleared, h, Entry.absent]

end PresenceTable

namespace State

/-- A change of entries that makes none of the others SELF leaves SELF where it is (R130). -/
theorem updateEntries_selves (s : State) {f : Station → Entry → Entry} (h : ∀ a e, e.state ≠ .self → (f a e).state ≠ .self) :
    (s.updateEntries f).presence.selves = s.presence.selves := by
  funext a
  have hentry := s.updateEntries_entry f a
  by_cases hself : (s.entry a).state = .self
  · rw [if_pos hself] at hentry
    exact congrArg (fun e : Entry => e.state == .self) hentry
  · rw [if_neg hself] at hentry
    have hother : ((s.updateEntries f).entry a).state ≠ .self := by
      rw [hentry]
      exact h a _ hself
    exact (beq_eq_false_iff_ne.2 hother).trans (beq_eq_false_iff_ne.2 hself).symm

theorem updateEntry_selves (s : State) (a : Station) {f : Entry → Entry} (h : ∀ e, e.state ≠ .self → (f e).state ≠ .self) :
    (s.updateEntry a f).presence.selves = s.presence.selves := by
  refine s.updateEntries_selves fun b e he => ?_
  split
  · exact h e he
  · exact he

@[simp] theorem presenceHears_selves (s : State) (f : Frame) : (s.presenceHears f).presence.selves = s.presence.selves := by
  have hheard (a : Station) (g : Entry → Entry) : (s.updateEntry a fun e => (g e).heard).presence.selves = s.presence.selves :=
    s.updateEntry_selves a fun _ _ => Entry.heard_ne_self _
  unfold presenceHears
  split
  case h_1 => rfl
  case h_2 a _ =>
    cases f.kind with
    | beacon => exact hheard a fun e => e.beaconed f.payload
    | data | openF | publish => exact hheard a id
    | sleep =>
      refine s.updateEntries_selves fun b e he => ?_
      split
      · nofun
      · split
        · nofun
        · exact he

@[simp] theorem destinationHeard_selves (s : State) : s.destinationHeard.presence.selves = s.presence.selves := by
  unfold destinationHeard
  split
  · split
    · exact s.updateEntry_selves _ fun _ _ => Entry.heard_ne_self _
    · rfl
  · rfl

@[simp] theorem presencePulse_selves (s : State) : s.presencePulse.presence.selves = s.presence.selves := by
  unfold presencePulse
  rw [lookWaking_presence]
  exact updateEntries_selves _ fun _ _ => Entry.pulsed_ne_self

@[simp] theorem presenceExhausted_selves (s : State) (peer : BitVec 5) :
    (s.presenceExhausted peer).presence.selves = s.presence.selves := by
  unfold presenceExhausted
  split
  · exact s.updateEntry_selves _ fun _ => Entry.exhausted_ne_self
  · rfl

@[simp] theorem presenceClear_selves (s : State) : s.presenceClear.presence.selves = s.presence.selves :=
  updateEntries_selves _ fun _ _ _ => by nofun

theorem presenceTimedOut_selves (s : State) (a : Station) : (s.presenceTimedOut a).presence.selves = s.presence.selves := by
  unfold presenceTimedOut
  split
  · exact s.updateEntry_selves a fun _ => Entry.timedOut_ne_self
  · rfl

/-! ### The ends of attempts and the entries to modes (R35, R36, R91, R148 to R172) -/

@[simp] theorem exhaust_selves (s : State) (c : ChanId) : (s.exhaust c).presence.selves = s.presence.selves := by
  simp [exhaust]

@[simp] theorem countRetry_selves (s : State) (c : ChanId) : (s.countRetry c).presence.selves = s.presence.selves := by
  unfold countRetry
  split <;> simp

@[simp] theorem sendOutcome_selves (s : State) (c : ChanId) (img : Frame) (o : AttemptOutcome) :
    (s.sendOutcome c img o).presence.selves = s.presence.selves := by
  unfold sendOutcome
  repeat' split
  all_goals simp

@[simp] theorem channelOutcome_selves (s : State) (c : ChanId) (img : Frame) (o : AttemptOutcome) :
    (s.channelOutcome c img o).presence.selves = s.presence.selves := by
  unfold channelOutcome
  dsimp only
  split <;> simp

@[simp] theorem ownerOutcome_selves (s : State) (a : Attempt) (o : AttemptOutcome) :
    (s.ownerOutcome a o).presence.selves = s.presence.selves := by
  unfold ownerOutcome
  repeat' split
  all_goals simp

@[simp] theorem abandonLatch_selves (s : State) : s.abandonLatch.presence.selves = s.presence.selves := by
  unfold abandonLatch
  dsimp only
  repeat' split
  all_goals simp

@[simp] theorem withdraw_selves (s : State) : s.withdraw.presence.selves = s.presence.selves := by
  simp [withdraw]

@[simp] theorem enterRestart_selves (s : State) (cause : EntryCause) :
    (s.enterRestart cause).presence.selves = s.presence.selves := by
  rw [enterRestart, raiseMode_presence, withdraw_selves]

@[simp] theorem enterSafe_selves (s : State) (fault : SafeFault) :
    (s.enterSafe fault).presence.selves = s.presence.selves := by
  rw [enterSafe, raiseMode_presence, withdraw_selves]

@[simp] theorem enterSleep_selves (s : State) (cause : EntryCause) :
    (s.enterSleep cause).presence.selves = s.presence.selves :=
  congrArg PresenceTable.selves (enterSleep_spec s cause).presence

@[simp] theorem escalate_selves (s : State) : s.escalate.presence.selves = s.presence.selves := by
  unfold escalate
  split <;> simp

@[simp] theorem reportRise_selves (s : State) (n : Nat) : (s.reportRise n).presence.selves = s.presence.selves := by
  unfold reportRise
  dsimp only
  repeat' split
  all_goals simp

@[simp] theorem reportClash_selves (s : State) : s.reportClash.presence.selves = s.presence.selves := by
  unfold reportClash
  split <;> simp

@[simp] theorem wakeEvent_selves (s : State) : s.wakeEvent.presence.selves = s.presence.selves := by
  unfold wakeEvent
  repeat' split
  all_goals simp

@[simp] theorem outcomeReports_selves (s : State) (o : AttemptOutcome) :
    (s.outcomeReports o).presence.selves = s.presence.selves := by
  cases o <;> simp [outcomeReports]

@[simp] theorem finishQuiet_selves (s : State) : s.finishQuiet.presence.selves = s.presence.selves := by
  unfold finishQuiet
  split <;> simp

@[simp] theorem endAttempt_selves (s : State) (o : AttemptOutcome) :
    (s.endAttempt o).presence.selves = s.presence.selves := by
  have hhand : (s.handOver o).presence.selves = s.presence.selves := by
    unfold handOver
    split <;> simp
  unfold endAttempt
  dsimp only
  split <;> simp [hhand]

/-! ### Events of the line (R4 to R21) -/

theorem gapComplete_selves (s : State) : s.gapComplete.presence.selves = s.presence.selves := by
  unfold gapComplete startWaiting
  repeat' split
  all_goals simp

theorem resyncComplete_selves (s : State) : s.resyncComplete.presence.selves = s.presence.selves := by
  unfold resyncComplete
  repeat' split
  all_goals rfl

theorem startBit_selves (s : State) : s.startBit.presence.selves = s.presence.selves := by
  unfold startBit
  split <;> rfl

theorem badHeader_selves (s : State) (h0 h1 h2 h3 : Byte) : (s.badHeader h0 h1 h2 h3).presence.selves = s.presence.selves := by
  unfold badHeader
  split <;> simp

theorem badFraming_selves (s : State) (kind : FramingFault) : (s.badFraming kind).presence.selves = s.presence.selves := by
  unfold badFraming
  repeat' split
  all_goals simp

theorem deliver_selves (s : State) (f : Frame) : (s.deliver f).presence.selves = s.presence.selves := by
  have hrespond (t : State) : (t.respond f).presence = t.presence := t.decide_presence _ _
  have hfollow (t : State) : t.followAnnounce.presence.selves = t.presence.selves := by
    unfold followAnnounce
    split <;> simp
  unfold deliver
  dsimp only
  repeat' split
  all_goals simp [hrespond, hfollow]

theorem receiveFrame_selves (s : State) (bytes : List Byte) : (s.receiveFrame bytes).presence.selves = s.presence.selves := by
  have hgood (f : Frame) : (s.goodFrame f bytes).presence.selves = s.presence.selves := by
    unfold goodFrame
    dsimp only
    split <;> simp [deliver_selves]
  have hbad (f : Frame) : (s.badCrc f bytes).presence.selves = s.presence.selves := by simp [badCrc]
  unfold receiveFrame
  repeat' split
  all_goals simp [hgood, hbad]

theorem endResponse_presence (s : State) (r : Response) : (s.endResponse r).presence = s.presence := by
  unfold endResponse
  dsimp only
  split <;> simp

theorem responseSent_selves (s : State) : s.responseSent.presence.selves = s.presence.selves := by
  unfold responseSent
  split <;> simp [endResponse_presence]

theorem responseFaulted_selves (s : State) : s.responseFaulted.presence.selves = s.presence.selves := by
  unfold responseFaulted
  split <;> simp [endResponse_presence]

theorem closeWindow_selves (s : State) (read : Option Byte) : (s.closeWindow read).presence.selves = s.presence.selves := by
  have hanswer (t : State) : (t.takeAnswer read).presence.selves = t.presence.selves := by
    unfold takeAnswer
    repeat' split
    all_goals simp
  unfold closeWindow
  dsimp only
  repeat' split
  all_goals simp [hanswer]

theorem breakWindow_selves (s : State) : s.breakWindow.presence.selves = s.presence.selves := by
  unfold breakWindow
  repeat' split
  all_goals simp

theorem clashSeen_selves (s : State) : s.clashSeen.presence.selves = s.presence.selves := by
  unfold clashSeen
  split <;> simp

@[simp] theorem halfMs_selves (s : State) : s.halfMs.presence.selves = s.presence.selves := by
  unfold halfMs endByRun
  repeat' split
  all_goals simp

theorem countHeldError_selves (s : State) : s.countHeldError.presence.selves = s.presence.selves := by
  unfold countHeldError
  split <;> simp

theorem pulseHeard_selves (s : State) : s.pulseHeard.presence.selves = s.presence.selves := by
  have htable (t : State) : t.pulseAtTable.presence.selves = t.presence.selves := by
    unfold pulseAtTable
    split <;> simp
  have hdetector (t : State) : t.pulseAtDetector.presence.selves = t.presence.selves := by
    unfold pulseAtDetector
    split <;> simp
  unfold pulseHeard
  dsimp only
  repeat' split
  all_goals simp [htable, hdetector]

theorem stuckRun_selves (s : State) : s.stuckRun.presence.selves = s.presence.selves := by
  unfold stuckRun
  repeat' split
  all_goals simp

/-! ### Events of the station's own attempts (R26 to R34) -/

theorem pickOffer_selves (s : State) (atOnce : Bool) : (s.pickOffer atOnce).presence.selves = s.presence.selves := by
  unfold pickOffer
  dsimp only
  repeat' split
  all_goals simp

theorem loseArbitration_selves (s : State) : s.loseArbitration.presence.selves = s.presence.selves := by
  unfold loseArbitration
  split <;> simp

theorem readBackFault_selves (s : State) (fault : ReadBackFault) :
    (s.readBackFault fault).presence.selves = s.presence.selves := by
  unfold readBackFault
  repeat' split
  all_goals simp

theorem collide_selves (s : State) : s.collide.presence.selves = s.presence.selves := by
  unfold collide
  split <;> simp

theorem ownFrameDone_selves (s : State) : s.ownFrameDone.presence.selves = s.presence.selves := by
  unfold ownFrameDone
  dsimp only
  repeat' split
  all_goals simp

theorem pulseDone_selves (s : State) (held : Bool) : (s.pulseDone held).presence.selves = s.presence.selves := by
  unfold pulseDone
  split <;> simp

/-! ### Timers, the WAKE pin and the part's own clock (R90 to R174) -/

theorem backoffExpired_selves (s : State) (c : ChanId) : (s.backoffExpired c).presence.selves = s.presence.selves := by
  unfold backoffExpired
  split <;> simp

theorem pacingExpired_selves (s : State) (c : ChanId) : (s.pacingExpired c).presence.selves = s.presence.selves := by
  unfold pacingExpired
  split <;> simp

theorem beaconExpired_selves (s : State) : s.beaconExpired.presence.selves = s.presence.selves := by
  unfold beaconExpired
  split <;> rfl

theorem settleExpired_selves (s : State) : s.settleExpired.presence.selves = s.presence.selves := by
  unfold settleExpired
  split
  · rw [lookWaking_presence]
    rfl
  · rfl

theorem listenExpired_selves (s : State) : s.listenExpired.presence.selves = s.presence.selves := by
  unfold listenExpired
  split <;> simp

theorem restartExpired_selves (s : State) : s.restartExpired.presence.selves = s.presence.selves := by
  unfold restartExpired
  split <;> simp

theorem safeExpired_selves (s : State) : s.safeExpired.presence.selves = s.presence.selves := by
  unfold safeExpired
  split <;> simp

theorem pinShows_selves (s : State) (pin : PinEvent) : (s.pinShows pin).presence.selves = s.presence.selves := by
  cases pin with
  | moves level => rfl
  | held level =>
    unfold pinShows pinAccepted
    dsimp only
    repeat' split
    all_goals simp

theorem tick_selves (s : State) : s.tick.presence.selves = s.presence.selves := s.presence.tick_selves _

/-- The part's own clock moves no SELF (R134). -/
theorem idle_selves (s : State) : s.idle.presence.selves = s.presence.selves := by
  have hbit : s.h0Bit.presence = s.presence := by
    unfold h0Bit
    dsimp only
    split <;> simp
  unfold idle bitStep msStep
  dsimp only
  repeat' split
  all_goals simp [tick_selves, hbit]

/-! ### Commands of the host (R48 to R54, R73, R161 to R175) -/

theorem clearChannelFlags_selves (s : State) (c : ChanId) (mask : Byte) :
    (s.clearChannelFlags c mask).presence.selves = s.presence.selves := by
  unfold clearChannelFlags release
  dsimp only
  repeat' split
  all_goals simp

theorem startChannel_selves (s : State) (c : ChanId) : (s.startChannel c).presence.selves = s.presence.selves := by
  unfold startChannel
  split <;> simp

theorem haltChannel_selves (s : State) (c : ChanId) : (s.haltChannel c).presence.selves = s.presence.selves := by
  unfold haltChannel
  split <;> simp

theorem clearChannel_selves (s : State) (c : ChanId) : (s.clearChannel c).presence.selves = s.presence.selves := by
  unfold clearChannel clearSending clearTaking
  split <;> simp

theorem kickChannel_selves (s : State) (c : ChanId) : (s.kickChannel c).presence.selves = s.presence.selves := by
  unfold kickChannel
  split <;> simp

/-- A channel command moves no SELF where its effect moves none (R48). -/
theorem channelCommand_selves {effect : State → ChanId → State}
    (h : ∀ t c, (effect t c).presence.selves = t.presence.selves) (s : State) (arg : Byte) (kindOk : Kind → Bool)
    (stateOk : ChanState → Bool) : (s.channelCommand arg kindOk stateOk effect).presence.selves = s.presence.selves := by
  unfold channelCommand
  repeat' split
  all_goals simp [h]

theorem sleepCommand_selves (s : State) (arg : Byte) : (s.sleepCommand arg).presence.selves = s.presence.selves := by
  unfold sleepCommand
  repeat' split
  all_goals simp

theorem wakeCommand_selves (s : State) : s.wakeCommand.presence.selves = s.presence.selves := by
  unfold wakeCommand
  repeat' split
  all_goals simp

theorem resume_selves (s : State) : s.resume.presence.selves = s.presence.selves := by
  unfold resume
  repeat' split
  all_goals simp

theorem clearLimp_selves (s : State) : s.clearLimp.presence.selves = s.presence.selves := by
  unfold clearLimp
  split <;> simp

theorem writeSlot_selves (s : State) (i : SlotId) (bytes : List Byte) :
    (s.writeSlot i bytes).presence.selves = s.presence.selves := by
  unfold writeSlot
  split <;> simp

end State

/-! ### What a step keeps -/

/-- What one step keeps, as it is stated: SELF stands on the entry of the own address alone (R130). -/
def SelfKept (s t : State) : Prop := s.SelfExact → t.SelfExact

namespace SelfKept

variable {s t u : State}

theorem trans (h : SelfKept s t) (k : SelfKept t u) : SelfKept s u := k ∘ h

/-- An operation that leaves the own address, and SELF where it is. -/
theorem of_selves (haddress : t.station.ownAddress = s.station.ownAddress) (hselves : t.presence.selves = s.presence.selves) :
    SelfKept s t := by
  unfold SelfKept
  rw [State.selfExact_iff, State.selfExact_iff, haddress, hselves]
  exact id

/-- An operation that leaves the station configuration, as every one does that `Upholds` speaks of. -/
theorem of_upholds (h : Upholds s t) (hselves : t.presence.selves = s.presence.selves) : SelfKept s t :=
  .of_selves (congrArg _ h.station) hselves

/-- An operation that leaves the station configuration and the Presence Table. -/
theorem of_same (hstation : t.station = s.station) (hpresence : t.presence = s.presence) : SelfKept s t :=
  .of_selves (congrArg _ hstation) (congrArg _ hpresence)

/-! ### Registers (R130, R145, R178) -/

/-- A write of the own address takes SELF from the entry of the old address to that of the new one (R130). -/
theorem setOwnAddress (s : State) (a : BitVec 5) : SelfKept s (s.setOwnAddress a) := by
  intro hs b
  have hb := hs b
  rw [State.setOwnAddress_entry, State.setOwnAddress_station]
  by_cases hsame : s.station.ownAddress = a
  · rwa [if_pos hsame, ← hsame]
  · rw [if_neg hsame]
    split
    case isTrue hnew => simp [hnew, Entry.self]
    case isFalse hnew =>
      split
      case isTrue => simp [hnew, Entry.absent]
      case isFalse hold => exact iff_of_false (mt hb.1 hold) hnew

theorem writeByte_ownAddress (g : StationConfig) (addr : Nat) (v : Byte) : (g.writeByte addr v).ownAddress = g.ownAddress := by
  unfold StationConfig.writeByte
  split <;> rfl

theorem writeStationByte (s : State) (addr : Nat) (v : Byte) : SelfKept s (s.writeStationByte addr v) := by
  unfold State.writeStationByte
  split
  · exact .of_same rfl rfl
  split
  · exact .setOwnAddress s _
  split
  · unfold State.writeRestartLimit
    split
    · exact .of_same rfl rfl
    · exact .of_selves rfl rfl
  · exact .of_selves (writeByte_ownAddress s.station addr v) rfl

theorem clearChannelFlags (s : State) (c : ChanId) (mask : Byte) : SelfKept s (s.clearChannelFlags c mask) :=
  .of_upholds (.clearChannelFlags s c mask) (s.clearChannelFlags_selves c mask)

theorem writeRegister (s : State) (addr : Word) (v : Byte) : SelfKept s (s.writeRegister addr v) := by
  unfold State.writeRegister
  dsimp only
  split
  · exact .writeStationByte s _ v
  split
  · exact .of_same rfl rfl
  split
  · exact .of_same rfl rfl
  split
  · exact .of_same rfl rfl
  split
  · exact .of_same rfl rfl
  split
  · exact .clearChannelFlags s _ v
  split
  · unfold State.writeChannelByte
    split <;> exact .of_same rfl rfl
  · exact .of_same rfl rfl

/-! ### JOIN, the resets and the transactions of the host (R146, R164, R165, R177) -/

theorem join (s : State) : SelfKept s s.join := by
  unfold State.join
  repeat' split
  all_goals exact .of_same rfl rfl

theorem softReset (s : State) : SelfKept s s.softReset := .of_selves rfl s.presence.cleared_selves

/-- After RESET the own address is 0, and its entry alone is SELF (R165). -/
theorem hardReset (s : State) : SelfKept s s.hardReset := fun _ a => by
  have hentry : s.hardReset.entry a = if a = 0 then Entry.self else Entry.absent :=
    (Table.get_set _ 0 a _).trans (by rw [Table.get_replicate])
  have haddress : stationOf s.hardReset.station.ownAddress = some 0 := rfl
  rw [hentry, haddress, Option.some_inj]
  split
  case isTrue ha => simp [ha, Entry.self]
  case isFalse ha => simp [Ne.symm ha, Entry.absent]

theorem access {f : State → State} (h : ∀ t, SelfKept t (f t)) (s : State) : SelfKept s (s.access f) := by
  have hport : SelfKept s s.portAccess := .of_same rfl rfl
  unfold State.access
  split
  · exact hport.trans (h _)
  · exact .of_same rfl rfl

theorem atRise {f : State → State} (h : ∀ t, SelfKept t (f t)) (s : State) : SelfKept s (s.atRise f) := by
  have hport : SelfKept s (s.setTransfer .none) := .of_same rfl rfl
  unfold State.atRise
  split
  · exact hport.trans (h _)
  · exact hport

theorem control {f : State → State} (h : ∀ t, SelfKept t (f t)) (s : State) : SelfKept s (s.control f) := by
  have hport (t : State) (g : HostPort → HostPort) : SelfKept t (t.modPort g) := .of_same rfl rfl
  refine .atRise (fun t => ?_) s
  unfold State.commanded
  exact ((hport t _).trans (h _)).trans (hport _ _)

/-- A channel command keeps it where its effect moves no SELF (R48). -/
theorem channelCommand {effect : State → ChanId → State} (hupholds : ∀ t c, Upholds t (effect t c))
    (hselves : ∀ t c, (effect t c).presence.selves = t.presence.selves) (arg : Byte) (kindOk : Kind → Bool)
    (stateOk : ChanState → Bool) (s : State) : SelfKept s (s.channelCommand arg kindOk stateOk effect) :=
  .of_upholds (.channelCommand (hupholds s) arg kindOk stateOk) (s.channelCommand_selves hselves arg kindOk stateOk)

end SelfKept

/-! ### The step -/

/-- Every command keeps SELF on the entry of the own address (R130). -/
theorem exec_selfKept {i : Instr} {s t : State} (hrun : exec i s = .next t) : SelfKept s t := by
  cases i
  case clearNoticeFlags reg mask =>
    cases reg with
    | station =>
      obtain rfl := Host.Outcome.next.inj hrun
      exact .access (fun _ => by exact .of_same rfl rfl) s
    | channel c =>
      obtain rfl := Host.Outcome.next.inj hrun
      exact .access (fun t => .clearChannelFlags t c mask) s
  all_goals obtain rfl := Host.Outcome.next.inj hrun
  case reset => exact .hardReset s
  case softReset => exact .control .softReset s
  case join => exact .control .join s
  case registerWrite addr v => exact .access (fun t => .writeRegister t addr v) s
  case ownAddressWrite v => exact .access (fun t => .writeStationByte t 0 v) s
  case sleep arg => exact .control (fun t => .of_upholds (.sleepCommand t arg) (t.sleepCommand_selves arg)) s
  case wake => exact .control (fun t => .of_upholds (.wakeCommand t) t.wakeCommand_selves) s
  case start arg => exact .control (.channelCommand .startChannel State.startChannel_selves arg _ _) s
  case halt arg => exact .control (.channelCommand .haltChannel State.haltChannel_selves arg _ _) s
  case clear arg => exact .control (.channelCommand .clearChannel State.clearChannel_selves arg _ _) s
  case kick arg => exact .control (.channelCommand .kickChannel State.kickChannel_selves arg _ _) s
  case resume => exact .control (fun t => .of_upholds (.resume t) t.resume_selves) s
  case clearLimp => exact .control (fun t => .of_upholds (.clearLimp t) t.clearLimp_selves) s
  case clearRestarts | unknownCommand => exact .control (fun _ => by exact .of_same rfl rfl) s
  case clearDone c => exact .access (fun t => .clearChannelFlags t c 1) s
  case clearChangedMarks | bufferWrite | bufferRead | descriptorRead => exact .access (fun _ => by exact .of_same rfl rfl) s
  case descriptorWrite index bytes =>
    exact .access (fun t => .of_upholds (.writeSlot t _ bytes) (t.writeSlot_selves _ bytes)) s
  case transactionEnd => exact .atRise (fun _ => by exact .of_same rfl rfl) s
  case wakePinAccepted pin => exact .of_upholds (.pinShows s pin) (s.pinShows_selves pin)
  case pick atOnce => exact .of_upholds (.pickOffer s atOnce) (s.pickOffer_selves atOnce)
  case formatError h0 h1 h2 h3 => exact .of_upholds (.badHeader s h0 h1 h2 h3) (s.badHeader_selves h0 h1 h2 h3)
  case framingError kind => exact .of_upholds (.badFraming s kind) (s.badFraming_selves kind)
  case frameEnd bytes => exact .of_upholds (.receiveFrame s bytes) (s.receiveFrame_selves bytes)
  case responseByteEnd => exact .of_upholds (.responseSent s) s.responseSent_selves
  case responseBitError => exact .of_upholds (.responseFaulted s) s.responseFaulted_selves
  case windowClose read => exact .of_upholds (.closeWindow s read) (s.closeWindow_selves read)
  case windowOutOfPlace => exact .of_upholds (.breakWindow s) s.breakWindow_selves
  case clashResponseSeen => exact .of_upholds (.clashSeen s) s.clashSeen_selves
  case clashWatchDisarmed => exact .of_same rfl rfl
  case idleGapComplete => exact .of_upholds (.gapComplete s) s.gapComplete_selves
  case resyncEnd => exact .of_upholds (.resyncComplete s) s.resyncComplete_selves
  case dominantRunHalfMs => exact .of_upholds (.halfMs s) s.halfMs_selves
  case heldErrorCounted => exact .of_upholds (.countHeldError s) s.countHeldError_selves
  case wakePulseHeard => exact .of_upholds (.pulseHeard s) s.pulseHeard_selves
  case lineStuck => exact .of_upholds (.stuckRun s) s.stuckRun_selves
  case arbitrationLost => exact .of_upholds (.loseArbitration s) s.loseArbitration_selves
  case bitError fault => exact .of_upholds (.readBackFault s fault) (s.readBackFault_selves fault)
  case wakeCollision => exact .of_upholds (.collide s) s.collide_selves
  case ownFrameEnd => exact .of_upholds (.ownFrameDone s) s.ownFrameDone_selves
  case pulseSent held => exact .of_upholds (.pulseDone s held) (s.pulseDone_selves held)
  case startBitBegins => exact .of_upholds (.startBit s) s.startBit_selves
  case backoffExpiry c => exact .of_upholds (.backoffExpired s c) (s.backoffExpired_selves c)
  case pacingExpiry c => exact .of_upholds (.pacingExpired s c) (s.pacingExpired_selves c)
  case beaconTimerExpiry => exact .of_upholds (.beaconExpired s) s.beaconExpired_selves
  case wakeSettleExpiry => exact .of_upholds (.settleExpired s) s.settleExpired_selves
  case presenceTimeout a => exact .of_upholds (.presenceTimedOut s a) (s.presenceTimedOut_selves a)
  case listenTimerExpiry => exact .of_upholds (.listenExpired s) s.listenExpired_selves
  case restartTimerExpiry => exact .of_upholds (.restartExpired s) s.restartExpired_selves
  case safeTimerExpiry => exact .of_upholds (.safeExpired s) s.safeExpired_selves

/-- Settles O57: a write of the own address moves SELF with it, RESET sets both, and every other operation leaves both. -/
theorem stepKeepsSelfOnTheOwnAddress : Obligations.StepKeepsSelfOnTheOwnAddress := by
  intro s t hself hrun
  unfold step at hrun
  split at hrun
  case h_1 =>
    obtain rfl := Host.Outcome.next.inj hrun
    exact SelfKept.of_upholds (.idle s) s.idle_selves hself
  case h_2 i rest _ => exact exec_selfKept hrun hself

end Sys2Proof.Machine

/-! PROOFS. A SLEEP frame heard (R133, R172): the Presence Table after it, and the station that follows the announce. -/

namespace Sys2Proof.Machine

namespace State

variable {s : State} {f : Frame} {a : Station}

/-! ### The announce at the Presence Table (R133) -/

theorem announceHeard_entry_same (h : (s.entry a).state ≠ .self) :
    (s.announceHeard a).entry a = { s.entry a with state := .asleep, age := 0, wakeTried := false } := by
  rw [announceHeard, updateEntries_entry, if_neg h, if_pos rfl]

/-- A PRESENT peer that follows sleep falls asleep with the announcer. -/
theorem announceHeard_entry_ne (s : State) {b : Station} (h : b ≠ a) :
    (s.announceHeard a).entry b =
      if (s.entry b).state = .present ∧ (s.entry b).follows = some true then { s.entry b with state := .asleep }
      else s.entry b := by
  rw [announceHeard, updateEntries_entry, if_neg h]
  by_cases hself : (s.entry b).state = .self <;> simp [hself]

/-! ### Channels that keep the station awake (R172) -/

theorem busyChannel_iff (s : State) (c : ChanId) :
    s.busyChannel c = true ↔
      ((s.cfg c).kind = .send ∨ (s.cfg c).kind = .publish)
          ∧ ((s.ctx c).state = .opening ∨ (s.ctx c).state = .running ∨ (s.ctx c).state = .holding)
        ∨ (s.cfg c).kind = .send ∧ (s.ctx c).state = .drained ∧ 0 < (s.ctx c).stream := by
  unfold busyChannel
  cases (s.cfg c).kind <;> simp [or_assoc]

theorem idleChannels_iff (s : State) : chanList.all (fun c => !s.busyChannel c) = true ↔ ¬ ∃ c, s.busyChannel c = true := by
  simp [chanList]

/-! ### The part that has heard the announce (R15, R133) -/

/-- The part at the end of a SLEEP frame of a station, before the Mode Controller takes it (R12, R133). -/
def announced (s : State) (f : Frame) (a : Station) : State := (s.frameTaken f).announceHeard a

theorem announced_line (s : State) (hk : f.kind = .sleep) (a : Station) : (s.announced f a).line = s.line.after f .observer := by
  rw [announced, announceHeard_line]
  simp [frameTaken, LineRecord.after, hk]

theorem announced_mc (s : State) (f : Frame) (a : Station) :
    (s.announced f a).mc = { s.mc with lineErrors := s.mc.lineErrors - 1 } := announceHeard_mc _ a

theorem announced_busyChannel (s : State) (f : Frame) (a : Station) (c : ChanId) :
    (s.announced f a).busyChannel c = s.busyChannel c := by
  simp only [announced, busyChannel, announceHeard_cfg, announceHeard_ctx]
  rfl

/-- Whether the station follows an announce (R172). -/
def Follows (s : State) : Prop :=
  s.mc.mode = .active ∧ s.station.followSleep = true ∧ ¬ ∃ c, s.busyChannel c = true

theorem Hears.receiveFrame_sleep (h : s.Hears f) (ha : f.source.toNat = a.val) (hk : f.kind = .sleep) :
    s.receiveFrame f.bytes = if s.mc.mode = .active then (s.announced f a).followAnnounce else s.announced f a := by
  have hheard : (s.frameTaken f).presenceHears f = s.announced f a := by
    simp only [presenceHears, stationOf_of_toNat ha, hk, announced]
  rw [receiveFrame_valid (receiving_of h.mode h.line h.silent) h.admitted,
    goodFrame_foreign ((Mode.listens_iff _).2 h.mode) h.source, deliver]
  simp only [hk, hheard]
  rfl

/-- The Mode Controller reads of the part that has heard the announce what it was before the frame (R172). -/
theorem announced_follows_iff (s : State) (f : Frame) (a : Station) :
    (s.announced f a).station.followSleep = true ∧ chanList.all (fun c => !(s.announced f a).busyChannel c) = true ↔
      s.station.followSleep = true ∧ ¬ ∃ c, s.busyChannel c = true := by
  have hstation : (s.announced f a).station = s.station := announceHeard_station _ a
  rw [idleChannels_iff, hstation]
  simp only [announced_busyChannel]

/-- In ACTIVE a station that follows sleep, with no busy channel, falls asleep (R172). -/
theorem Hears.receiveFrame_followed (h : s.Hears f) (ha : f.source.toNat = a.val) (hk : f.kind = .sleep) (hf : s.Follows) :
    s.receiveFrame f.bytes = (s.announced f a).enterSleep .follow := by
  rw [h.receiveFrame_sleep ha hk, if_pos hf.1]
  exact if_pos ((s.announced_follows_iff f a).2 hf.2)

/-- Any other station stays in its mode. -/
theorem Hears.receiveFrame_unfollowed (h : s.Hears f) (ha : f.source.toNat = a.val) (hk : f.kind = .sleep) (hf : ¬ s.Follows) :
    s.receiveFrame f.bytes = s.announced f a := by
  rw [h.receiveFrame_sleep ha hk]
  split
  case isTrue hm => exact if_neg fun hfollows => hf ⟨hm, (s.announced_follows_iff f a).1 hfollows⟩
  case isFalse => rfl

end State

/-- Settles O39: the Presence Table by `announced`, which the entry to SLEEP leaves, and whether it comes by `Follows`. -/
theorem announceHeardIsFollowedUnlessBusy : Obligations.AnnounceHeardIsFollowedUnlessBusy := by
  intro s f a hears ha hself hk
  simp only [← State.busyChannel_iff]
  have hsame : (s.announced f a).entry a = { s.entry a with state := .asleep, age := 0, wakeTried := false } :=
    State.announceHeard_entry_same (s := s.frameTaken f) hself
  have hothers (b : Station) (hb : b ≠ a) : (s.announced f a).entry b = _ := (s.frameTaken f).announceHeard_entry_ne hb
  by_cases hfollows : s.Follows
  · have hasleep := State.enterSleep_spec (s.announced f a) .follow
    have hentry (b : Station) : ((s.announced f a).enterSleep .follow).entry b = (s.announced f a).entry b := by
      rw [State.entry, hasleep.presence, ← State.entry]
    refine ⟨_, congrArg Host.Outcome.next (hears.receiveFrame_followed ha hk hfollows), (hentry a).trans hsame,
      fun b hb => (hentry b).trans (hothers b hb), fun _ => ⟨?mc, hasleep.latch, hasleep.beaconTimer, hasleep.beaconOffer,
        hasleep.announceOffer, hasleep.detector, hasleep.modeNotice, hasleep.lineState⟩, fun h => absurd hfollows h, ?frame⟩
    case mc => rw [hasleep.mc, State.announced_mc]
    case frame =>
      rw [hasleep.slots]
      simp [State.announced, State.frameTaken]
  · refine ⟨_, congrArg Host.Outcome.next (hears.receiveFrame_unfollowed ha hk hfollows), hsame, hothers,
      fun h => absurd h hfollows, fun _ => ⟨s.announced_mc f a, ?contexts, s.announced_line hk a, ?latch, ?beacon⟩, ?frame⟩
    all_goals simp [State.announced, State.frameTaken]

end Sys2Proof.Machine

/-! PROOFS. Counts, mode, LIMP and WARN (R144, R150 to R173): what the invariants of the mode read of a part, what an operation does to
it, and the entries to the modes. -/

namespace Sys2Proof.Machine

namespace State

/-- What the invariants of the mode read of a part, with WARN. -/
def modeView (s : State) : BitVec 4 × (Mode × Nat × Nat × Bool) × Bool × Bool × Bool :=
  (s.station.restartLimit, (s.mc.mode, s.mc.lineErrors, s.mc.restarts, s.mc.limp), s.arb.latch.isSome, s.wake.on,
    s.notice.station.warn)

/-! ### WARN where no report is made (R139, R151) -/

@[simp] theorem replaceEntries_warn (s : State) (new : Table 31 Entry) :
    (s.replaceEntries new).notice.station.warn = s.notice.station.warn := by
  simp [replaceEntries, NoticeUnit.mark]

@[simp] theorem updateEntries_warn (s : State) (f : Station → Entry → Entry) :
    (s.updateEntries f).notice.station.warn = s.notice.station.warn := s.replaceEntries_warn _

@[simp] theorem presencePulse_warn (s : State) : s.presencePulse.notice.station.warn = s.notice.station.warn := by
  simp [presencePulse]

theorem presenceExhausted_warn (s : State) (p : BitVec 5) :
    (s.presenceExhausted p).notice.station.warn = s.notice.station.warn := by
  unfold presenceExhausted updateEntry
  split <;> simp

end State

/-- An operation of one channel sets no station flag. -/
theorem Local.warn {s t : State} {c : ChanId} (h : Local s t c) : t.notice.station.warn = s.notice.station.warn :=
  congrArg StationFlags.warn h.station

namespace State

theorem countRetry_warn (s : State) (c : ChanId) : (s.countRetry c).notice.station.warn = s.notice.station.warn := by
  unfold countRetry
  split
  · rfl
  · exact presenceExhausted_warn _ _

theorem sendOutcome_warn (s : State) (c : ChanId) (img : Frame) (o : AttemptOutcome) :
    (s.sendOutcome c img o).notice.station.warn = s.notice.station.warn := by
  unfold sendOutcome
  split
  case h_1 =>
    split
    · exact (openAcked_local s c).warn
    · exact (dataAcked_local s c img).warn
  case h_2 => exact (nakAnswered_local s c).warn
  case h_3 => exact (enterHalted_local s c _).warn
  case h_4 =>
    split
    · exact s.countRetry_warn c
    · rfl
  case h_5 | h_6 => exact s.countRetry_warn c
  all_goals rfl

theorem channelOutcome_warn (s : State) (c : ChanId) (img : Frame) (o : AttemptOutcome) :
    (s.channelOutcome c img o).notice.station.warn = s.notice.station.warn := by
  unfold channelOutcome
  dsimp only
  refine (settleHalt_local _ c).warn.trans ?_
  split
  · exact s.sendOutcome_warn c img o
  · exact (publishOutcome_local s c o).warn
  · rfl
  all_goals rfl

theorem enterSleep_warn (s : State) (cause : EntryCause) :
    (s.enterSleep cause).notice.station.warn = s.notice.station.warn := by
  let t := s.dropPendingSleep.stopBeacon
  show t.abandonLatch.notice.station.warn = t.notice.station.warn
  rw [(abandonLatch_flags t).2.2]

/-- The view after an operation of one channel that leaves configuration, Mode Controller, latch and Wake Detector. -/
theorem modeView_of_local {s t : State} {c : ChanId} (h : Local s t c)
    (hview : (t.station, t.mc, t.arb.latch, t.wake) = (s.station, s.mc, s.arb.latch, s.wake)) : t.modeView = s.modeView := by
  simp only [Prod.mk.injEq] at hview
  obtain ⟨hstation, hmc, hlatch, hwake⟩ := hview
  simp only [modeView, hstation, hmc, hlatch, hwake, h.warn]

end State

/-! ### What an operation does -/

/-- From `s` to `t` the counts stay in bounds and the mode consistent, and LIMP is asserted by an entry to SAFE alone (R162). -/
structure ModeSound (s t : State) : Prop where
  restarts : s.RestartsBounded → t.RestartsBounded
  errors : s.ErrorsBounded → t.ErrorsBounded
  consistent : s.ModeConsistent → t.ModeConsistent
  asserted : s.mc.limp = false → t.mc.limp = true → t.mc.mode = .safe

/-- An operation that besides neither releases LIMP nor clears WARN. -/
structure ModeStep (s t : State) : Prop extends ModeSound s t where
  limp : s.mc.limp = true → t.mc.limp = true
  warn : s.notice.station.warn = true → t.notice.station.warn = true

/-- An operation that besides does not leave SAFE; these compose. -/
structure ModeMove (s t : State) : Prop extends ModeStep s t where
  safe : s.mc.mode = .safe → t.mc.mode = .safe

/-- An operation that leaves LIMP. -/
theorem ModeStep.of_limp {s t : State} (hlimp : t.mc.limp = s.mc.limp)
    (hwarn : s.notice.station.warn = true → t.notice.station.warn = true) (hrestarts : s.RestartsBounded → t.RestartsBounded)
    (herrors : s.ErrorsBounded → t.ErrorsBounded) (hconsistent : s.ModeConsistent → t.ModeConsistent) : ModeStep s t := by
  refine ⟨⟨hrestarts, herrors, hconsistent, fun hs ht => ?_⟩, fun hs => hlimp.trans hs, hwarn⟩
  rw [hlimp, hs] at ht
  cases ht

namespace ModeMove

variable {s t u : State}

/-- An operation that leaves LIMP and the mode. -/
theorem of_limp (hlimp : t.mc.limp = s.mc.limp) (hmode : t.mc.mode = s.mc.mode)
    (hwarn : s.notice.station.warn = true → t.notice.station.warn = true) (hrestarts : s.RestartsBounded → t.RestartsBounded)
    (herrors : s.ErrorsBounded → t.ErrorsBounded) (hconsistent : s.ModeConsistent → t.ModeConsistent) : ModeMove s t :=
  ⟨.of_limp hlimp hwarn hrestarts herrors hconsistent, fun hs => hmode.trans hs⟩

/-- An operation that leaves what the view shows. -/
theorem of_view (h : t.modeView = s.modeView) : ModeMove s t := by
  simp only [State.modeView, Prod.mk.injEq] at h
  obtain ⟨hlimit, ⟨hmode, herrors, hrestarts, hlimp⟩, hlatch, hwake, hwarn⟩ := h
  refine .of_limp hlimp hmode (fun hs => hwarn.trans hs) ?_ ?_ ?_
  · simp only [State.RestartsBounded, hlimit, hmode, hrestarts, imp_self]
  · simp only [State.ErrorsBounded, hmode, herrors, imp_self]
  · simp only [State.ModeConsistent, hmode, hlimp, hlatch, hwake, imp_self]

theorem refl (s : State) : ModeMove s s := of_view rfl

theorem trans (h : ModeMove s t) (k : ModeMove t u) : ModeMove s u := by
  refine ⟨⟨⟨k.restarts ∘ h.restarts, k.errors ∘ h.errors, k.consistent ∘ h.consistent, fun hs hu => ?_⟩, k.limp ∘ h.limp,
    k.warn ∘ h.warn⟩, k.safe ∘ h.safe⟩
  cases ht : t.mc.limp with
  | true => exact k.safe (h.asserted hs ht)
  | false => exact k.asserted ht hu

/-- An operation of one channel that leaves configuration, Mode Controller, latch and Wake Detector. -/
theorem of_local {c : ChanId} (h : Local s t c)
    (hview : (t.station, t.mc, t.arb.latch, t.wake) = (s.station, s.mc, s.arb.latch, s.wake)) : ModeMove s t :=
  of_view (State.modeView_of_local h hview)

end ModeMove

namespace ModeStep

variable {s t u : State}

theorem of_view (h : t.modeView = s.modeView) : ModeStep s t := (ModeMove.of_view h).toModeStep

theorem refl (s : State) : ModeStep s s := of_view rfl

/-- An operation after one that leaves LIMP. -/
theorem after (k : ModeStep t u) (h : ModeMove s t) (hlimp : t.mc.limp = s.mc.limp) : ModeStep s u :=
  ⟨⟨k.restarts ∘ h.restarts, k.errors ∘ h.errors, k.consistent ∘ h.consistent, fun hs => k.asserted (hlimp.trans hs)⟩,
    k.limp ∘ h.limp, k.warn ∘ h.warn⟩

end ModeStep

/-! ### The entries to RESTART, SAFE and SLEEP (R153, R157, R159, R171) -/

/-- An entry to a mode off the line: no attempt is latched, and LIMP is as before but for an entry to SAFE. -/
theorem ModeStep.of_entry {s t : State} {m : Mode} (hmode : t.mc.mode = m) (hm : m = .restart ∨ m = .safe ∨ m = .sleep)
    (hstation : t.station = s.station) (hrestarts : s.RestartsBounded → t.mc.restarts < s.station.restartLimit.toNat)
    (hlatch : t.arb.latch = none) (hwake : t.wake.on = m.dozes)
    (hlimp : t.mc.limp = if m = .safe then true else s.mc.limp)
    (hwarn : s.notice.station.warn = true → t.notice.station.warn = true) : ModeStep s t := by
  subst hmode
  have hsetup : t.mc.mode ≠ .setup := by obtain hm | hm | hm := hm <;> rw [hm] <;> nofun
  have hlistens : t.mc.mode.listens = false := by obtain hm | hm | hm := hm <;> rw [hm] <;> rfl
  refine ⟨⟨fun hs => ?_, fun _ hl => ?_, fun _ => ⟨by simp [hlatch], fun hm => ?_, hwake⟩, fun hs ht => ?_⟩, fun hs => ?_, hwarn⟩
  · obtain ⟨hlow, hhigh, -, -⟩ := id hs
    exact ⟨by rwa [hstation], by rwa [hstation], by rw [hstation]; exact hrestarts hs, fun hm => absurd hm hsetup⟩
  · rw [hlistens] at hl
    cases hl
  · rw [hlimp, if_pos hm]
  · by_contra hm
    rw [hlimp, if_neg hm, hs] at ht
    cases ht
  · rw [hlimp, hs, ite_self]

/-- An entry to RESTART from a part `u` that is `s` but for its counts and WARN. -/
theorem ModeStep.of_restarted {s t u : State} {cause : EntryCause} (h : Restarted u t cause) (hstation : u.station = s.station)
    (hrestarts : s.RestartsBounded → u.mc.restarts < s.station.restartLimit.toNat) (hlimp : u.mc.limp = s.mc.limp)
    (hwarn : s.notice.station.warn = true → u.notice.station.warn = true) : ModeStep s t :=
  .of_entry (m := .restart) (by rw [h.mc]) (.inl rfl) (h.station.trans hstation) (by rw [h.mc]; exact hrestarts) h.latch h.detector
    (by rw [h.mc]; exact hlimp) fun hs => h.warn.trans (hwarn hs)

/-- An entry to SAFE from a part `u` that is `s` but for its counts and WARN. -/
theorem ModeMove.of_safeEntered {s t u : State} {fault : SafeFault} (h : SafeEntered u t fault) (hstation : u.station = s.station)
    (hrestarts : s.RestartsBounded → u.mc.restarts < s.station.restartLimit.toNat)
    (hwarn : s.notice.station.warn = true → u.notice.station.warn = true) : ModeMove s t :=
  { ModeStep.of_entry (m := .safe) (by rw [h.mc]) (.inr (.inl rfl)) (h.station.trans hstation) (by rw [h.mc]; exact hrestarts) h.latch
      h.detector (by rw [h.mc]; rfl) fun hs => h.warn.trans (hwarn hs) with
    safe := fun _ => by rw [h.mc] }

namespace ModeMove

variable {s : State}

theorem enterSafe (s : State) (fault : SafeFault) : ModeMove s (s.enterSafe fault) :=
  .of_safeEntered (s.enterSafe_spec fault) rfl (fun ⟨_, _, hbelow, _⟩ => hbelow) id

theorem enterSleep (hm : s.mc.mode = .active) (cause : EntryCause) : ModeMove s (s.enterSleep cause) := by
  have h := s.enterSleep_spec cause
  exact { ModeStep.of_entry (m := .sleep) (by rw [h.mc]) (.inr (.inr rfl)) h.station (fun ⟨_, _, hbelow, _⟩ => by rw [h.mc]; exact hbelow) h.latch
            h.detector (by rw [h.mc]; rfl) fun hs => (s.enterSleep_warn cause).trans hs with
          safe := fun hs => by rw [hm] at hs; cases hs }

end ModeMove

namespace ModeStep

variable {s : State}

theorem enterRestart (s : State) (cause : EntryCause) : ModeStep s (s.enterRestart cause) :=
  .of_restarted (s.enterRestart_spec cause) rfl (fun ⟨_, _, hbelow, _⟩ => hbelow) rfl id

/-- SAFE left for SLEEP: the Wake Detector stays on, and LIMP asserted (R159). -/
theorem enterSleepFromSafe (hm : s.mc.mode = .safe) (cause : EntryCause) : ModeStep s (s.enterSleepFromSafe cause) := by
  refine .of_limp rfl id (fun ⟨hlow, hhigh, hbelow, _⟩ => ⟨hlow, hhigh, hbelow, nofun⟩) (fun _ => nofun)
    fun ⟨hlatch, _, hon⟩ => ⟨fun hl => ?_, nofun, ?_⟩
  · have hactive := hlatch hl
    rw [hm] at hactive
    cases hactive
  · rw [hm] at hon
    exact hon

/-- A wake event (R159, R160). -/
theorem wakeEvent (s : State) : ModeStep s s.wakeEvent := by
  unfold State.wakeEvent
  split
  case h_1 hm =>
    split
    · exact .enterRestart s _
    · exact .enterSleepFromSafe hm _
  case h_2 =>
    split
    · exact .enterRestart s _
    · exact .refl s
  all_goals exact .refl s

end ModeStep

end Sys2Proof.Machine

/-! PROOFS. Counts, mode, LIMP and WARN under the reports (R150 to R155), the ends of attempts (R35, R36), and the events of the line,
of the own attempts and of the timers. -/

namespace Sys2Proof.Machine

namespace ModeMove

variable {s : State} {c : ChanId}

/-! ### The operations of any channel -/

theorem modCtx (s : State) (c : ChanId) (f : Context → Context) : ModeMove s (s.modCtx c f) := .of_view rfl

theorem look (s : State) (c : ChanId) : ModeMove s (s.look c) := .of_view rfl

theorem fetch (s : State) (c : ChanId) : ModeMove s (s.fetch c) := .of_local (State.fetch_local s c) (by simp)

theorem enterHalted (s : State) (c : ChanId) (cause : HaltCause) : ModeMove s (s.enterHalted c cause) :=
  .of_local (State.enterHalted_local s c cause) (by simp)

theorem channelOutcome (s : State) (c : ChanId) (img : Frame) (o : AttemptOutcome) : ModeMove s (s.channelOutcome c img o) :=
  .of_view (by simp [State.modeView, State.channelOutcome_warn])

theorem updateEntries (s : State) (f : Station → Entry → Entry) : ModeMove s (s.updateEntries f) :=
  .of_view (by simp [State.modeView])

theorem presencePulse (s : State) : ModeMove s s.presencePulse := .of_view (by simp [State.modeView])

/-! ### Reports (R150 to R155) -/

/-- At 128 the station goes to RESTART with the restart count raised, below its limit still, or to SAFE with the count 0 (R152). -/
theorem escalate {t : State} (hm : s.mc.mode.listens = true) (hstation : t.station = s.station)
    (hlimp : t.mc.limp = s.mc.limp)
    (hwarn : s.notice.station.warn = true → t.notice.station.warn = true) : ModeMove s t.escalate := by
  have hsafe : s.mc.mode ≠ .safe := fun h => by rw [h] at hm; cases hm
  unfold State.escalate
  split
  case isTrue hbelow =>
    have hspec := (t.modMc fun m => { m with restarts := m.restarts + 1 }).enterRestart_spec .errors
    exact { ModeStep.of_restarted hspec hstation (fun _ => by rw [← hstation]; exact hbelow) hlimp hwarn with
      safe := fun h => absurd h hsafe }
  case isFalse =>
    exact .of_safeEntered ((t.modMc fun m => { m with restarts := 0 }).enterSafe_spec .restartLimit) hstation
      (fun ⟨hlow, _⟩ => hlow) hwarn

/-- A count below 128 with its WARN (R150, R151). -/
theorem withErrors {e : Nat} (he : s.mc.mode.listens = true → e < 128) : ModeMove s (s.withErrors e) :=
  .of_limp rfl rfl (fun hs => by simp [State.withErrors, hs]) id (fun _ => he) id

theorem reportRise (s : State) (n : Nat) : ModeMove s (s.reportRise n) := by
  by_cases hm : s.mc.mode.listens = true
  · rw [State.reportRise_eq hm]
    dsimp only
    split
    case isTrue => exact .escalate hm rfl rfl fun hs => by simp [State.withErrors, hs]
    case isFalse hbelow => exact .withErrors fun _ => Nat.lt_of_not_le hbelow
  · rw [State.reportRise, if_neg hm]
    exact .refl s

/-- A good report lowers the count (R150). -/
theorem reportGood (s : State) : ModeMove s s.reportGood := by
  unfold State.reportGood
  split
  · exact .of_limp rfl rfl id id (fun hs hm => Nat.lt_of_le_of_lt (Nat.sub_le _ _) (hs hm)) id
  · exact .refl s

theorem reportClash (s : State) : ModeMove s s.reportClash := by
  unfold State.reportClash
  split
  · exact .enterSafe s _
  · exact .refl s

/-! ### The end of an attempt (R25, R36, R142, R169, R170) -/

theorem ownerOutcome (s : State) (a : Attempt) (o : AttemptOutcome) : ModeMove s (s.ownerOutcome a o) := by
  unfold State.ownerOutcome
  split
  case h_1 => exact .channelOutcome s _ _ o
  case h_2 => exact .refl s
  case h_3 | h_4 =>
    split
    case h_1 | h_2 | h_3 => exact .of_view rfl
    all_goals exact .refl s
  case h_5 =>
    split
    case h_1 =>
      have hcleared : ModeMove s (s.modArb fun b => { b with wakeRequest := false }) := .of_view rfl
      exact hcleared.trans (.presencePulse _)
    all_goals exact .refl s

theorem outcomeReports (s : State) (o : AttemptOutcome) : ModeMove s (s.outcomeReports o) := by
  have hheard : ModeMove s s.heardOnLine := by
    unfold State.heardOnLine
    split
    · exact .of_view rfl
    · exact .refl s
  cases o with
  | answered _ | sent => exact hheard.trans (.reportGood _)
  | bitError => exact .reportRise s _
  | none | lost | wakeCollision | abandoned => exact .refl s

/-- The latch emptied (R23). -/
theorem unlatch (s : State) : ModeMove s (s.modArb fun b => { b with latch := none }) :=
  .of_limp rfl rfl id id id fun ⟨_, hsafe, hon⟩ => ⟨nofun, hsafe, hon⟩

theorem handOver (s : State) (o : AttemptOutcome) : ModeMove s (s.handOver o) := by
  unfold State.handOver
  split
  · exact .refl s
  · exact ((unlatch s).trans (.ownerOutcome _ _ o)).trans (.outcomeReports _ o)

theorem finishQuiet (s : State) : ModeMove s s.finishQuiet := by
  unfold State.finishQuiet
  split
  case isTrue h => exact .enterSleep h.1 _
  case isFalse => exact .refl s

theorem endAttempt (s : State) (o : AttemptOutcome) : ModeMove s (s.endAttempt o) := by
  unfold State.endAttempt
  dsimp only
  refine (ModeMove.handOver s o).trans ?_
  split
  case isTrue h =>
    obtain ⟨-, -, hactive⟩ := h
    exact .enterSleep hactive _
  case isFalse => exact .finishQuiet _

/-! ### The line in reception (R4 to R15) -/

theorem modLine (s : State) (f : LineRecord → LineRecord) : ModeMove s (s.modLine f) := .of_view rfl

theorem modClock (s : State) (f : BitClock → BitClock) : ModeMove s (s.modClock f) := .of_view rfl

/-- An attempt that begins is latched already (R30). -/
theorem beginAttempt (s : State) : ModeMove s s.beginAttempt := by
  unfold State.beginAttempt
  split
  case h_1 => exact .refl s
  case h_2 a ha => exact .of_view (by simp [State.modeView, ha])

theorem setPhase (s : State) (p : AttemptPhase) : ModeMove s (s.setPhase p) :=
  .of_view (by simp [State.modeView, State.setPhase])

theorem gapComplete (s : State) : ModeMove s s.gapComplete := by
  unfold State.gapComplete State.startWaiting
  split
  · exact .modLine s _
  split
  · split
    · exact (modLine s _).trans (.beginAttempt _)
    · exact .modLine s _
  · exact .refl s

theorem resyncComplete (s : State) : ModeMove s s.resyncComplete := by
  unfold State.resyncComplete
  split
  · exact .modLine s _
  split
  · exact .modLine s _
  · exact .refl s

theorem startBit (s : State) : ModeMove s s.startBit := by
  unfold State.startBit
  split
  · exact .modLine s _
  · exact .refl s

theorem badHeader (s : State) (h0 h1 h2 h3 : Byte) : ModeMove s (s.badHeader h0 h1 h2 h3) := by
  unfold State.badHeader
  split
  · exact (modLine s _).trans (.reportRise _ _)
  · exact .refl s

theorem badFraming (s : State) (kind : FramingFault) : ModeMove s (s.badFraming kind) := by
  unfold State.badFraming
  split
  · split
    · exact .modLine s _
    · exact (modLine s _).trans (.reportRise _ _)
  · exact .refl s

theorem presenceHears (s : State) (f : Frame) : ModeMove s (s.presenceHears f) := by
  unfold State.presenceHears
  split
  · exact .refl s
  · split <;> exact .updateEntries s _

theorem respond (s : State) (f : Frame) : ModeMove s (s.respond f) :=
  (of_local (State.decide_local s f.channel f) (by simp)).trans (.of_view rfl)

theorem publishHeard (s : State) (f : Frame) : ModeMove s (s.publishHeard f) := by
  unfold State.publishHeard
  split
  · exact .of_local (State.subscribed_local s _ f) (by simp)
  · exact .refl s

theorem presenceHears_mode (s : State) (f : Frame) : (s.presenceHears f).mc.mode = s.mc.mode := by
  unfold State.presenceHears
  split
  · rfl
  · split <;> simp

/-- The deliveries of a valid frame (R15). -/
theorem deliver (s : State) (f : Frame) : ModeMove s (s.deliver f) := by
  refine (ModeMove.presenceHears s f).trans ?_
  have hmode := presenceHears_mode s f
  unfold State.deliver
  dsimp only
  generalize s.presenceHears f = t at hmode
  split
  case isTrue hactive =>
    split
    case h_1 | h_2 =>
      split
      · exact .respond t f
      · exact .refl t
    case h_3 => exact .publishHeard t f
    case h_4 => exact .refl t
    case h_5 =>
      unfold State.followAnnounce
      split
      · exact .enterSleep (hmode.trans hactive) _
      · exact .refl t
  case isFalse =>
    split
    case h_1 | h_2 =>
      split
      · exact .modLine t _
      · exact .refl t
    case h_3 | h_4 | h_5 => exact .refl t

theorem goodFrame (s : State) (f : Frame) (bytes : List Byte) : ModeMove s (s.goodFrame f bytes) := by
  unfold State.goodFrame
  dsimp only
  split
  · exact ((modLine s _).trans (.reportGood _)).trans (.reportClash _)
  · exact ((modLine s _).trans (.reportGood _)).trans (.deliver _ f)

theorem receiveFrame (s : State) (bytes : List Byte) : ModeMove s (s.receiveFrame bytes) := by
  unfold State.receiveFrame
  split
  · split
    · exact .refl s
    split
    · exact .goodFrame s _ bytes
    · exact (modLine s _).trans (.reportRise _ _)
  · exact .refl s

/-! ### Response bytes and windows (R16 to R19, R108) -/

theorem endResponse (s : State) (r : Response) : ModeMove s (s.endResponse r) := by
  unfold State.endResponse
  dsimp only
  split
  · exact (modLine s _).trans (.of_local (State.commit_local _ _) (by simp))
  · exact .modLine s _

theorem responseSent (s : State) : ModeMove s s.responseSent := by
  unfold State.responseSent
  split
  · exact .refl s
  · exact (endResponse s _).trans (.modLine _ _)

theorem responseFaulted (s : State) : ModeMove s s.responseFaulted := by
  unfold State.responseFaulted
  split
  · exact .refl s
  · exact ((endResponse s _).trans (.modLine _ _)).trans (.reportRise _ _)

theorem takeAnswer (s : State) (read : Option Byte) : ModeMove s (s.takeAnswer read) := by
  unfold State.takeAnswer
  split
  · exact .endAttempt s _
  split
  · exact .endAttempt s _
  · exact (reportRise s 1).trans (.endAttempt _ _)

theorem destinationHeard (s : State) : ModeMove s s.destinationHeard := by
  unfold State.destinationHeard
  split
  · split
    · exact .updateEntries s _
    · exact .refl s
  · exact .refl s

theorem closeWindow (s : State) (read : Option Byte) : ModeMove s (s.closeWindow read) := by
  unfold State.closeWindow
  split
  · have hheard : ModeMove s (if s.awaitsAnswer = true ∧ (read.bind Answer.ofByte).isSome = true then s.destinationHeard else s) := by
      split
      · exact .destinationHeard s
      · exact .refl s
    dsimp only
    generalize (if s.awaitsAnswer = true ∧ (read.bind Answer.ofByte).isSome = true then s.destinationHeard else s) = t at hheard ⊢
    split
    · exact (hheard.trans (.modLine t _)).trans (.takeAnswer _ read)
    · exact hheard.trans (.modLine t _)
  · exact .refl s

/-- An attempt that ends on a line record of its own. -/
theorem endAttempt_modLine (s : State) (f : LineRecord → LineRecord) (o : AttemptOutcome) :
    ModeMove s ((s.modLine f).endAttempt o) := (modLine s f).trans (.endAttempt _ o)

theorem breakWindow (s : State) : ModeMove s s.breakWindow := by
  unfold State.breakWindow
  split
  · split
    · exact .endAttempt_modLine s _ _
    · exact .modLine s _
  · exact .refl s

theorem clashSeen (s : State) : ModeMove s s.clashSeen := by
  unfold State.clashSeen
  split
  · exact (modLine s _).trans (.reportClash _)
  · exact .refl s

/-! ### Dominant runs (R20, R21) -/

theorem endByRun (s : State) : ModeMove s s.endByRun := by
  unfold State.endByRun
  split
  case h_1 | h_2 | h_3 | h_4 => exact .endAttempt s _
  case h_5 | h_6 | h_7 => exact .refl s

theorem halfMs (s : State) : ModeMove s s.halfMs := by
  unfold State.halfMs
  split
  · exact (modLine s _).trans (.endByRun _)
  split
  · exact .modLine s _
  · exact .refl s

theorem countHeldError (s : State) : ModeMove s s.countHeldError := by
  unfold State.countHeldError
  split
  · exact (modLine s _).trans (.reportRise _ _)
  · exact .refl s

theorem stuckRun (s : State) : ModeMove s s.stuckRun := by
  unfold State.stuckRun
  split
  · exact (modLine s _).trans (.enterSafe _ _)
  split
  · exact .modLine s _
  · exact .refl s

theorem pulseAtTable (s : State) : ModeMove s s.pulseAtTable := by
  unfold State.pulseAtTable
  split
  · exact .presencePulse s
  · exact .refl s

/-! ### The station's own attempts (R26 to R34) -/

/-- A pick latches an attempt in ACTIVE (R26). -/
theorem latchAttempt (hm : s.mc.mode = .active) (o : Owner) : ModeMove s (s.latchAttempt o) := by
  have hpicked : ModeMove s (s.takeOffer o) := by
    cases o <;> exact .of_view rfl
  have hmode : (s.takeOffer o).mc.mode = .active := by
    cases o <;> exact hm
  exact hpicked.trans (.of_limp rfl rfl id id id fun ⟨_, hsafe, hon⟩ => ⟨fun _ => hmode, hsafe, hon⟩)

theorem pickOffer (s : State) (atOnce : Bool) : ModeMove s (s.pickOffer atOnce) := by
  unfold State.pickOffer
  split
  case isTrue hpick =>
    have hm : s.mc.mode = .active := by
      simp only [State.canPick, Bool.and_eq_true, beq_iff_eq] at hpick
      obtain ⟨⟨⟨hactive, -⟩, -⟩, -⟩ := hpick
      exact hactive
    split
    · exact .refl s
    · dsimp only
      split
      · exact (latchAttempt hm _).trans (.beginAttempt _)
      · exact .latchAttempt hm _
  case isFalse => exact .refl s

theorem loseArbitration (s : State) : ModeMove s s.loseArbitration := by
  unfold State.loseArbitration
  split
  · exact .endAttempt s _
  · exact .refl s

theorem readBackFault (s : State) (fault : ReadBackFault) : ModeMove s (s.readBackFault fault) := by
  cases fault with
  | dominantReadRecessive | runEnded =>
    unfold State.readBackFault
    dsimp only
    split
    · exact .endAttempt_modLine s _ _
    · exact .refl s
  | recessiveReadDominant =>
    unfold State.readBackFault
    dsimp only
    split
    · exact (modLine s _).trans (.setPhase _ _)
    · exact .refl s

theorem collide (s : State) : ModeMove s s.collide := by
  unfold State.collide
  split
  · exact .endAttempt_modLine s _ _
  · exact .refl s

theorem ownFrameDone (s : State) : ModeMove s s.ownFrameDone := by
  unfold State.ownFrameDone
  split
  · exact .refl s
  split
  · dsimp only
    split
    · exact .endAttempt_modLine s _ _
    · exact (modLine s _).trans (.setPhase _ _)
  · exact .refl s

theorem pulseDone (s : State) (held : Bool) : ModeMove s (s.pulseDone held) := by
  unfold State.pulseDone
  split
  · exact .endAttempt_modLine s _ _
  · exact .refl s

/-! ### Timers (R90, R92, R123, R134 to R141, R148, R153) -/

theorem backoffExpired (s : State) (c : ChanId) : ModeMove s (s.backoffExpired c) := by
  unfold State.backoffExpired
  split
  · exact (modCtx s c _).trans (.look _ c)
  · exact .refl s

theorem pacingExpired (s : State) (c : ChanId) : ModeMove s (s.pacingExpired c) := by
  unfold State.pacingExpired
  split
  · exact (modCtx s c _).trans (.look _ c)
  · exact .refl s

theorem beaconExpired (s : State) : ModeMove s s.beaconExpired := by
  unfold State.beaconExpired
  split
  · exact .of_view rfl
  · exact .refl s

theorem settleExpired (s : State) : ModeMove s s.settleExpired := by
  unfold State.settleExpired
  split
  · exact .of_view (by simp [State.modeView])
  · exact .refl s

theorem presenceTimedOut (s : State) (a : Station) : ModeMove s (s.presenceTimedOut a) := by
  unfold State.presenceTimedOut
  split
  · exact .updateEntries s _
  · exact .refl s

/-- LISTEN entered from SETUP or RESTART, with the line error count 0 (R148). -/
theorem enterListen (hm : s.mc.mode = .setup ∨ s.mc.mode = .restart) : ModeMove s s.enterListen := by
  refine ⟨.of_limp rfl id (fun ⟨hlow, hhigh, hbelow, _⟩ => ⟨hlow, hhigh, hbelow, nofun⟩) (fun _ _ => Nat.zero_lt_succ _)
    fun ⟨hlatch, _, hon⟩ => ⟨fun hl => ?_, nofun, hon.trans ?_⟩, fun hs => ?_⟩
  · have hactive := hlatch hl
    obtain hm | hm := hm <;> rw [hm] at hactive <;> cases hactive
  · obtain hm | hm := hm <;> rw [hm] <;> rfl
  · obtain hm | hm := hm <;> rw [hm] at hs <;> cases hs

/-- ACTIVE entered from LISTEN (R149). -/
theorem enterActive (hm : s.mc.mode = .listen) : ModeMove s s.enterActive := by
  refine ⟨.of_limp rfl id (fun ⟨hlow, hhigh, hbelow, _⟩ => ⟨hlow, hhigh, hbelow, nofun⟩) (fun hs _ => hs (by rw [hm]; rfl))
    fun ⟨_, _, hon⟩ => ⟨fun _ => rfl, nofun, hon.trans ?_⟩, fun hs => ?_⟩
  · rw [hm]
    rfl
  · rw [hm] at hs
    cases hs

theorem listenExpired (s : State) : ModeMove s s.listenExpired := by
  unfold State.listenExpired
  split
  case isTrue h => exact .enterActive h.1
  case isFalse => exact .refl s

theorem restartExpired (s : State) : ModeMove s s.restartExpired := by
  unfold State.restartExpired
  split
  case isTrue h => exact .enterListen (.inr h.1)
  case isFalse => exact .refl s

/-! ### A step with no command waiting (log entry 2) -/

/-- The Wake Detector stays on or idle at a tick (R174). -/
theorem tick (s : State) : ModeMove s s.tick := by
  have hwake : s.wake.tick.on = s.wake.on := by
    unfold WakeDetector.tick
    split <;> rfl
  exact .of_view (by simp only [State.modeView, ← hwake]; rfl)

theorem idle (s : State) : ModeMove s s.idle := by
  have hbit : ModeMove s s.h0Bit := by
    unfold State.h0Bit
    dsimp only
    split
    · exact (modClock s _).trans (.setPhase _ _)
    · exact .modClock s _
  unfold State.idle
  split
  · exact .of_view rfl
  split
  · exact .beginAttempt s
  split
  · unfold State.bitStep
    dsimp only
    split
    · exact (hbit.trans (.modClock _ _)).trans (.tick _)
    · exact hbit
  · exact (modClock s _).trans (.tick _)

end ModeMove

end Sys2Proof.Machine

/-! PROOFS. Counts, mode, LIMP and WARN under the events that may leave SAFE (R159 to R161, R174, R175), the commands of the host and
the two resets, and the step as a whole. -/

namespace Sys2Proof.Machine

namespace State

/-! ### LIMP at a run of 0.5 ms (R20, R162) -/

/-- An outcome with no report leaves LIMP (R36). -/
theorem handOver_limp (s : State) {o : AttemptOutcome} (ho : o = .none ∨ o = .wakeCollision) :
    (s.handOver o).mc.limp = s.mc.limp := by
  unfold handOver
  split
  · rfl
  · obtain rfl | rfl := ho <;> simp [outcomeReports]

theorem endAttempt_limp (s : State) {o : AttemptOutcome} (ho : o = .none ∨ o = .wakeCollision) :
    (s.endAttempt o).mc.limp = s.mc.limp := by
  have hasleep (t : State) (cause : EntryCause) : (t.enterSleep cause).mc.limp = t.mc.limp := by
    rw [(t.enterSleep_spec cause).mc]
  refine Eq.trans ?_ (s.handOver_limp ho)
  unfold endAttempt finishQuiet
  dsimp only
  split
  · exact hasleep _ _
  split
  · exact hasleep _ _
  · rfl

theorem halfMs_limp (s : State) : s.halfMs.mc.limp = s.mc.limp := by
  have hrun (t : State) : t.endByRun.mc.limp = t.mc.limp := by
    unfold endByRun
    split
    case h_1 | h_2 | h_3 => exact t.endAttempt_limp (.inr rfl)
    case h_4 => exact t.endAttempt_limp (.inl rfl)
    case h_5 | h_6 | h_7 => rfl
  unfold halfMs
  split
  · exact hrun _
  split <;> rfl

theorem pulseAtTable_limp (s : State) : s.pulseAtTable.mc.limp = s.mc.limp := by
  unfold pulseAtTable
  split
  · rw [presencePulse_mc]
  · rfl

end State

namespace ModeStep

/-! ### The events that may leave SAFE (R20, R159, R174) -/

theorem pulseHeard (s : State) : ModeStep s s.pulseHeard := by
  unfold State.pulseHeard
  split
  · have hrun := (ModeMove.halfMs s).trans (.modLine _ fun l => l.recessive 1)
    dsimp only
    split
    · exact hrun.toModeStep
    · have htable := hrun.trans (.pulseAtTable _)
      unfold State.pulseAtDetector
      split
      · exact (ModeStep.wakeEvent _).after htable ((State.pulseAtTable_limp _).trans s.halfMs_limp)
      · exact htable.toModeStep
  · exact .refl s

theorem pinShows (s : State) (pin : PinEvent) : ModeStep s (s.pinShows pin) := by
  cases pin with
  | moves level => exact .of_view rfl
  | held level =>
    unfold State.pinShows State.pinAccepted
    dsimp only
    split
    · split
      · exact (ModeStep.wakeEvent _).after (.of_view rfl) rfl
      · exact .of_view rfl
    · exact .of_view rfl

theorem safeExpired (s : State) : ModeStep s s.safeExpired := by
  unfold State.safeExpired
  split
  case isTrue h => exact .enterSleepFromSafe h.1 _
  case isFalse => exact .refl s

/-! ### Station commands that may leave SAFE (R161, R175) -/

theorem wakeCommand (s : State) : ModeStep s s.wakeCommand := by
  unfold State.wakeCommand
  split
  case h_1 => exact .of_view rfl
  case h_2 =>
    split
    · exact .enterRestart s _
    · exact .of_view rfl
  all_goals exact .of_view rfl

theorem resume (s : State) : ModeStep s s.resume := by
  unfold State.resume
  split
  · exact .of_view rfl
  split
  · exact .enterRestart s _
  · exact .of_view rfl

end ModeStep

namespace ModeMove

variable {s : State} {c : ChanId}

theorem refuse (s : State) (code : RefusalCode) (c : Option ChanId) : ModeMove s (s.refuse code c) := .of_view rfl

/-! ### Channel commands (R48 to R55) -/

theorem startChannel (s : State) (c : ChanId) : ModeMove s (s.startChannel c) := by
  unfold State.startChannel
  split
  case h_1 => exact (modCtx s c _).trans (.look _ c)
  case h_2 => exact ((modCtx s c _).trans (.fetch _ c)).trans (.look _ c)
  case h_3 | h_4 => exact .modCtx s c _
  case h_5 => exact .refl s

theorem haltChannel (s : State) (c : ChanId) : ModeMove s (s.haltChannel c) := by
  unfold State.haltChannel
  split
  · exact .modCtx s c _
  · exact .enterHalted s c _

theorem kickChannel (s : State) (c : ChanId) : ModeMove s (s.kickChannel c) := by
  unfold State.kickChannel
  split
  · exact (fetch s c).trans (.look _ c)
  · exact .refl s

/-- The walk of CLEAR sets no station flag (R53). -/
theorem abortWalk (c : ChanId) (n : Nat) (s : State) (i : SlotId) : ModeMove s (s.abortWalk c i n).1 := by
  induction n generalizing s i with
  | zero => exact .refl s
  | succ n ih =>
    unfold State.abortWalk
    split
    · exact (of_local (State.writeBack_local s c i _ _ _) (by simp)).trans (ih _ _)
    · exact .refl s

theorem clearChannel (s : State) (c : ChanId) : ModeMove s (s.clearChannel c) := by
  unfold State.clearChannel
  split
  case h_1 | h_2 => exact (abortWalk c _ s _).trans (.of_view rfl)
  case h_3 =>
    have hcut (t : State) : ModeMove t (t.cut c) := .of_local (State.cut_local t c) (by simp)
    unfold State.clearTaking
    exact ((modCtx s c _).trans (hcut _)).trans (.modCtx _ c _)
  case h_4 => exact .modCtx s c _
  case h_5 => exact .refl s

/-- A channel command does what its effect does (R48). -/
theorem channelCommand {effect : State → ChanId → State} (h : ∀ c, ModeMove s (effect s c)) (arg : Byte) (kindOk : Kind → Bool)
    (stateOk : ChanState → Bool) : ModeMove s (s.channelCommand arg kindOk stateOk effect) := by
  unfold State.channelCommand
  split
  · exact .refuse s _ _
  split
  · exact .refuse s _ _
  split
  · exact .refuse s _ _
  split
  · exact .refuse s _ _
  · exact h _

/-! ### Station commands (R146, R163, R168) -/

theorem sleepCommand (s : State) (arg : Byte) : ModeMove s (s.sleepCommand arg) := by
  have hpending : ModeMove s (s.modMc fun m => { m with pendingSleep := .quiet }) := .of_view rfl
  unfold State.sleepCommand
  split
  · exact .refuse s _ _
  split
  · exact .refuse s _ _
  split
  · exact .refuse s _ _
  split
  · exact .of_view rfl
  · exact hpending.trans (.finishQuiet _)

theorem join (s : State) : ModeMove s s.join := by
  unfold State.join
  split
  case isTrue => exact .refuse s _ _
  case isFalse hm =>
    split
    · exact .refuse s _ _
    split
    · exact .refuse s _ _
    · have hstarted : ModeMove s { s with contexts := Table.ofFn fun c => (s.cfg c).startContext } := .of_view rfl
      exact hstarted.trans (.enterListen (.inl (not_not.1 hm)))

/-- The restart count 0 lies below any restart limit (R163). -/
theorem clearRestarts (s : State) : ModeMove s s.clearRestarts :=
  .of_limp rfl rfl id (fun ⟨hlow, hhigh, _, _⟩ => ⟨hlow, hhigh, hlow, fun _ => rfl⟩) id id

/-! ### Registers and slots (R59, R145, R178, R182) -/

theorem setOwnAddress (s : State) (a : BitVec 5) : ModeMove s (s.setOwnAddress a) :=
  .of_view (by simp [State.modeView, State.setOwnAddress])

theorem writeByte_restartLimit (g : StationConfig) (addr : Nat) (v : Byte) : (g.writeByte addr v).restartLimit = g.restartLimit := by
  unfold StationConfig.writeByte
  split <;> rfl

/-- A restart limit that is stored lies in 1 to 14, above the restart count 0 of SETUP (R145). -/
theorem writeRestartLimit (hm : s.mc.mode = .setup) (v : BitVec 4) : ModeMove s (s.writeRestartLimit v) := by
  unfold State.writeRestartLimit
  split
  case isTrue => exact .refuse s _ _
  case isFalse hv =>
    obtain ⟨hlow, hhigh⟩ : 1 ≤ v.toNat ∧ v.toNat ≤ 14 := by bv_omega
    refine .of_limp rfl rfl id (fun ⟨_, _, _, hzero⟩ => ⟨hlow, hhigh, ?_, hzero⟩) id id
    show s.mc.restarts < v.toNat
    rw [hzero hm]
    exact hlow

theorem writeStationByte (s : State) (addr : Nat) (v : Byte) : ModeMove s (s.writeStationByte addr v) := by
  unfold State.writeStationByte
  split
  case isTrue => exact .refuse s _ _
  case isFalse hm =>
    split
    · exact .setOwnAddress s _
    split
    · exact .writeRestartLimit (not_not.1 hm) _
    · exact .of_view (by simp [State.modeView, writeByte_restartLimit])

theorem writeChannelByte (s : State) (c : ChanId) (i : Nat) (v : Byte) : ModeMove s (s.writeChannelByte c i v) := by
  unfold State.writeChannelByte
  split
  · exact .refuse s _ _
  · exact .of_view rfl

/-- Ones that leave WARN (R182). -/
theorem clearStationFlags {mask : Byte} (h : mask.getLsbD 3 = false) (s : State) : ModeMove s (s.clearStationFlags mask) :=
  .of_view (by
    simp only [State.modeView, State.clearStationFlags, State.modNotice, StationFlags.clearBits, h, Bool.not_false, Bool.and_true])

theorem release (s : State) (c : ChanId) : ModeMove s (s.release c) := by
  unfold State.release
  split
  · dsimp only
    split
    · exact ((modCtx s c _).trans (.fetch _ c)).trans (.look _ c)
    · exact .modCtx s c _
  · exact .refl s

theorem clearChannelFlags (s : State) (c : ChanId) (mask : Byte) : ModeMove s (s.clearChannelFlags c mask) := by
  have hflags : ModeMove s (s.modChanFlags c fun f => f.clearBits mask) := .of_view rfl
  unfold State.clearChannelFlags
  dsimp only
  split
  · exact hflags.trans (.release _ c)
  · exact hflags

/-- A register write that is none to the WARN flag (R178). -/
theorem writeRegister {addr : Word} {v : Byte} (h : addr = 0x030 → v.getLsbD 3 = false) (s : State) :
    ModeMove s (s.writeRegister addr v) := by
  unfold State.writeRegister
  dsimp only
  split
  · exact .writeStationByte s _ v
  split
  case isTrue ha => exact .clearStationFlags (h (BitVec.eq_of_toNat_eq ha)) s
  split
  · exact .of_view rfl
  split
  · exact .of_view rfl
  split
  · exact .of_view rfl
  split
  · exact .clearChannelFlags s _ v
  split
  · exact .writeChannelByte s _ _ v
  · exact .refl s

theorem writeSlot (s : State) (i : SlotId) (bytes : List Byte) : ModeMove s (s.writeSlot i bytes) := by
  unfold State.writeSlot
  split
  · exact .of_view rfl
  · exact .refl s

end ModeMove

namespace ModeSound

/-! ### What releases LIMP or clears WARN (R151, R162, R164, R165) -/

/-- Station flags cleared: the counts, the mode and LIMP stand. -/
theorem clearStationFlags (s : State) (mask : Byte) : ModeSound s (s.clearStationFlags mask) :=
  ⟨id, id, id, fun hs ht => Bool.noConfusion (hs.symm.trans ht)⟩

/-- LIMP released in ACTIVE (R162). -/
theorem clearLimp (s : State) : ModeSound s s.clearLimp := by
  unfold State.clearLimp
  split
  case isTrue hm =>
    have hsafe : s.mc.mode ≠ .safe := by rw [hm]; nofun
    exact ⟨id, id, fun ⟨hlatch, _, hon⟩ => ⟨hlatch, fun h => absurd h hsafe, hon⟩, nofun⟩
  case isFalse => exact (ModeMove.refuse s _ _).toModeSound

theorem softReset (s : State) : ModeSound s s.softReset :=
  ⟨fun ⟨hlow, hhigh, _, _⟩ => ⟨hlow, hhigh, hlow, fun _ => rfl⟩, fun _ => nofun, fun _ => ⟨nofun, nofun, rfl⟩, nofun⟩

theorem hardReset (s : State) : ModeSound s s.hardReset :=
  have ⟨hlow, hhigh⟩ : 1 ≤ StationConfig.reset.restartLimit.toNat ∧ StationConfig.reset.restartLimit.toNat ≤ 14 := by decide
  ⟨fun _ => ⟨hlow, hhigh, hlow, fun _ => rfl⟩, fun _ => nofun, fun _ => ⟨nofun, nofun, rfl⟩, nofun⟩

end ModeSound

end Sys2Proof.Machine

/-! PROOFS. Counts, mode, LIMP and WARN under every command and at a step. -/

namespace Sys2Proof

/-- Commands that may release LIMP or clear WARN (R151, R162, R164, R165). -/
def Instr.releases : Instr → Bool
  | .reset | .softReset | .clearLimp => true
  | .clearNoticeFlags .station mask => mask.getLsbD 3
  | .registerWrite addr v => addr == 0x030 && v.getLsbD 3
  | _ => false

end Sys2Proof

namespace Sys2Proof.Machine

/-! ### Transactions of the host (R165, R177) -/

namespace State

/-- What the mode's invariants see of `v` is `s`, or what `f` makes of a part seen as `s`. -/
def HostedBy (s : State) (f : State → State) (v : State) : Prop :=
  v.modeView = s.modeView ∨ ∃ t, t.modeView = s.modeView ∧ v.modeView = (f t).modeView

theorem access_hosted (s : State) (f : State → State) : s.HostedBy f (s.access f) := by
  unfold access
  split
  · exact .inr ⟨s.portAccess, rfl, rfl⟩
  · exact .inl rfl

theorem atRise_hosted (s : State) (f : State → State) : s.HostedBy f (s.atRise f) := by
  unfold atRise
  split
  · exact .inr ⟨s.setTransfer .none, rfl, rfl⟩
  · exact .inl rfl

theorem control_hosted (s : State) (f : State → State) : s.HostedBy f (s.control f) := by
  obtain h | ⟨t, ht, h⟩ := s.atRise_hosted fun t => t.commanded f
  · exact .inl h
  · exact .inr ⟨t.modPort fun p => { p with controlTaken := true, nowRefused := false }, ht, h⟩

end State

theorem ModeSound.congr {s t u v : State} (k : ModeSound t u) (hs : t.modeView = s.modeView) (hv : v.modeView = u.modeView) :
    ModeSound s v := by
  have hbefore := ModeMove.of_view hs
  have hafter := ModeMove.of_view hv
  have hlimp {a b : State} (h : a.modeView = b.modeView) : a.mc.limp = b.mc.limp := congrArg (·.2.1.2.2.2) h
  refine ⟨fun h => hafter.restarts (k.restarts (hbefore.restarts h)), fun h => hafter.errors (k.errors (hbefore.errors h)),
    fun h => hafter.consistent (k.consistent (hbefore.consistent h)), fun h hl => ?_⟩
  exact (congrArg (·.2.1.1) hv).trans (k.asserted ((hlimp hs).trans h) ((hlimp hv).symm.trans hl))

theorem ModeSound.hosted {s v : State} {f : State → State} (h : ∀ t, ModeSound t (f t)) (hv : s.HostedBy f v) : ModeSound s v := by
  obtain hsame | ⟨t, ht, hv⟩ := hv
  · exact (ModeMove.of_view hsame).toModeSound
  · exact (h t).congr ht hv

theorem ModeStep.hosted {s v : State} {f : State → State} (h : ∀ t, ModeStep t (f t)) (hv : s.HostedBy f v) : ModeStep s v := by
  refine { ModeSound.hosted (fun t => (h t).toModeSound) hv with limp := ?_, warn := ?_ }
  all_goals obtain hsame | ⟨t, ht, hv⟩ := hv
  · exact (ModeMove.of_view hsame).limp
  · exact fun hs => (ModeMove.of_view hv).limp ((h t).limp ((ModeMove.of_view ht).limp hs))
  · exact (ModeMove.of_view hsame).warn
  · exact fun hs => (ModeMove.of_view hv).warn ((h t).warn ((ModeMove.of_view ht).warn hs))

namespace ModeStep

variable {f : State → State}

theorem access (h : ∀ t, ModeMove t (f t)) (s : State) : ModeStep s (s.access f) :=
  .hosted (fun t => (h t).toModeStep) (s.access_hosted f)

theorem atRise (h : ∀ t, ModeMove t (f t)) (s : State) : ModeStep s (s.atRise f) :=
  .hosted (fun t => (h t).toModeStep) (s.atRise_hosted f)

theorem control (h : ∀ t, ModeStep t (f t)) (s : State) : ModeStep s (s.control f) := .hosted h (s.control_hosted f)

end ModeStep

/-! ### The commands -/

/-- What a command does that neither releases LIMP nor clears WARN. -/
theorem exec_modeStep {i : Instr} {s t : State} (hi : i.releases = false) (hrun : exec i s = .next t) : ModeStep s t := by
  cases i
  case reset | softReset | clearLimp => cases hi
  case clearNoticeFlags reg mask =>
    cases reg with
    | station =>
      obtain rfl := Host.Outcome.next.inj hrun
      exact .access (.clearStationFlags hi) s
    | channel c =>
      obtain rfl := Host.Outcome.next.inj hrun
      exact .access (fun t => .clearChannelFlags t c mask) s
  all_goals obtain rfl := Host.Outcome.next.inj hrun
  case registerWrite addr v =>
    refine .access (fun t => .writeRegister (fun ha => ?_) t) s
    subst ha
    exact hi
  case join => exact .control (fun t => (ModeMove.join t).toModeStep) s
  case ownAddressWrite v => exact .access (fun t => .writeStationByte t 0 v) s
  case sleep arg => exact .control (fun t => (ModeMove.sleepCommand t arg).toModeStep) s
  case wake => exact .control .wakeCommand s
  case start arg => exact .control (fun t => (ModeMove.channelCommand (.startChannel t) arg _ _).toModeStep) s
  case halt arg => exact .control (fun t => (ModeMove.channelCommand (.haltChannel t) arg _ _).toModeStep) s
  case clear arg => exact .control (fun t => (ModeMove.channelCommand (.clearChannel t) arg _ _).toModeStep) s
  case kick arg => exact .control (fun t => (ModeMove.channelCommand (.kickChannel t) arg _ _).toModeStep) s
  case resume => exact .control .resume s
  case clearRestarts => exact .control (fun t => (ModeMove.clearRestarts t).toModeStep) s
  case unknownCommand => exact .control (fun t => (ModeMove.refuse t _ _).toModeStep) s
  case clearDone c => exact .access (fun t => .clearChannelFlags t c 1) s
  case clearChangedMarks | bufferWrite | bufferRead | descriptorRead => exact .access (fun _ => by exact .of_view rfl) s
  case descriptorWrite index bytes => exact .access (fun t => .writeSlot t _ bytes) s
  case transactionEnd => exact .atRise (fun _ => by exact .of_view rfl) s
  case wakePinAccepted pin => exact .pinShows s pin
  case wakePulseHeard => exact .pulseHeard s
  case safeTimerExpiry => exact .safeExpired s
  all_goals apply ModeMove.toModeStep
  case pick atOnce => exact .pickOffer s atOnce
  case formatError h0 h1 h2 h3 => exact .badHeader s h0 h1 h2 h3
  case framingError kind => exact .badFraming s kind
  case frameEnd bytes => exact .receiveFrame s bytes
  case responseByteEnd => exact .responseSent s
  case responseBitError => exact .responseFaulted s
  case windowClose read => exact .closeWindow s read
  case windowOutOfPlace => exact .breakWindow s
  case clashResponseSeen => exact .clashSeen s
  case clashWatchDisarmed => exact .modLine s _
  case idleGapComplete => exact .gapComplete s
  case resyncEnd => exact .resyncComplete s
  case dominantRunHalfMs => exact .halfMs s
  case heldErrorCounted => exact .countHeldError s
  case lineStuck => exact .stuckRun s
  case arbitrationLost => exact .loseArbitration s
  case bitError fault => exact .readBackFault s fault
  case wakeCollision => exact .collide s
  case ownFrameEnd => exact .ownFrameDone s
  case pulseSent held => exact .pulseDone s held
  case startBitBegins => exact .startBit s
  case backoffExpiry c => exact .backoffExpired s c
  case pacingExpiry c => exact .pacingExpired s c
  case beaconTimerExpiry => exact .beaconExpired s
  case wakeSettleExpiry => exact .settleExpired s
  case presenceTimeout a => exact .presenceTimedOut s a
  case listenTimerExpiry => exact .listenExpired s
  case restartTimerExpiry => exact .restartExpired s

/-- The write of a byte to the station flags, whatever it clears (R182). -/
theorem exec_registerWrite_flags (v : Byte) (s : State) :
    exec (.registerWrite 0x030 v) s = .next (s.access fun t => t.clearStationFlags v) := rfl

/-- Every command keeps the counts in bounds and the mode consistent, and asserts LIMP with an entry to SAFE alone. -/
theorem exec_modeSound {i : Instr} {s t : State} (hrun : exec i s = .next t) : ModeSound s t := by
  by_cases hi : i.releases = false
  · exact (exec_modeStep hi hrun).toModeSound
  cases i
  case reset =>
    obtain rfl := Host.Outcome.next.inj hrun
    exact .hardReset s
  case softReset =>
    obtain rfl := Host.Outcome.next.inj hrun
    exact .hosted .softReset (s.control_hosted _)
  case clearLimp =>
    obtain rfl := Host.Outcome.next.inj hrun
    exact .hosted .clearLimp (s.control_hosted _)
  case clearNoticeFlags reg mask =>
    cases reg with
    | station =>
      obtain rfl := Host.Outcome.next.inj hrun
      exact .hosted (.clearStationFlags · mask) (s.access_hosted _)
    | channel c => exact absurd rfl hi
  case registerWrite addr v =>
    simp only [Instr.releases, Bool.not_eq_false, Bool.and_eq_true, beq_iff_eq] at hi
    obtain ⟨rfl, -⟩ := hi
    rw [exec_registerWrite_flags] at hrun
    obtain rfl := Host.Outcome.next.inj hrun
    exact .hosted (.clearStationFlags · v) (s.access_hosted _)
  all_goals exact absurd rfl hi

/-- Settles O58: `ModeMove` composes, what may leave SAFE is a last operation, and what releases LIMP or clears WARN is sound. -/
theorem stepKeepsCountsAndModeInBounds : Obligations.StepKeepsCountsAndModeInBounds := by
  intro s t hrun
  have hsound : ModeSound s t := by
    unfold step at hrun
    split at hrun
    case h_1 =>
      obtain rfl := Host.Outcome.next.inj hrun
      exact (ModeMove.idle s).toModeSound
    case h_2 i rest _ =>
      have htaken : ModeSound { s with pending := rest } t := exec_modeSound hrun
      exact ⟨htaken.restarts, htaken.errors, htaken.consistent, htaken.asserted⟩
  exact ⟨hsound.restarts, hsound.errors, hsound.consistent⟩

end Sys2Proof.Machine

/-! PROOFS. The line error count and WARN (R150 to R152), and LIMP (R162). -/

namespace Sys2Proof.Machine

namespace State

variable {s : State}

/-! ### A report (R150 to R152) -/

/-- WARN after a count has moved: as before, or set at an upward crossing of 96 (R151). -/
theorem withErrors_eq (s : State) (e : Nat) :
    s.withErrors e =
      { s with
        mc := { s.mc with lineErrors := e }
        notice :=
          { s.notice with
            station :=
              { s.notice.station with
                warn := s.notice.station.warn || (Decidable.decide (s.mc.lineErrors < 96) && Decidable.decide (96 ≤ e)) } } } := by
  unfold withErrors
  rw [Bool.decide_and]
  rfl

theorem reportRise_low (hm : s.mc.mode.listens = true) {n : Nat} (h : min 255 (s.mc.lineErrors + n) < 128) :
    s.reportRise n = s.withErrors (min 255 (s.mc.lineErrors + n)) :=
  (reportRise_eq hm n).trans (if_neg (Nat.not_le_of_lt h))

theorem reportRise_high (hm : s.mc.mode.listens = true) {n : Nat} (h : 128 ≤ min 255 (s.mc.lineErrors + n)) :
    s.reportRise n = (s.withErrors (min 255 (s.mc.lineErrors + n))).escalate :=
  (reportRise_eq hm n).trans (if_pos h)

theorem escalate_below (h : s.mc.restarts + 1 < s.station.restartLimit.toNat) :
    s.escalate = (s.modMc fun m => { m with restarts := m.restarts + 1 }).enterRestart .errors := if_pos h

theorem escalate_atLimit (h : s.station.restartLimit.toNat ≤ s.mc.restarts + 1) :
    s.escalate = (s.modMc fun m => { m with restarts := 0 }).enterSafe .restartLimit := if_neg (Nat.not_lt_of_le h)

/-- What follows at 128 leaves WARN (R152). -/
theorem escalate_warn (s : State) : s.escalate.notice.station.warn = s.notice.station.warn := by
  obtain h | h := Nat.lt_or_ge (s.mc.restarts + 1) s.station.restartLimit.toNat
  · rw [escalate_below h]
    exact (enterRestart_spec _ _).warn
  · rw [escalate_atLimit h]
    exact (enterSafe_spec _ _).warn

theorem reportRise_warn (hm : s.mc.mode.listens = true) (n : Nat) :
    (s.reportRise n).notice.station.warn = (s.withErrors (min 255 (s.mc.lineErrors + n))).notice.station.warn := by
  obtain h | h := Nat.lt_or_ge (min 255 (s.mc.lineErrors + n)) 128
  · rw [reportRise_low hm h]
  · rw [reportRise_high hm h, escalate_warn]

theorem reportRise_discarded (hm : s.mc.mode.listens = false) (n : Nat) : s.reportRise n = s := if_neg (by simp [hm])

theorem reportGood_taken (hm : s.mc.mode.listens = true) :
    s.reportGood = { s with mc := { s.mc with lineErrors := s.mc.lineErrors - 1 } } := if_pos hm

theorem reportGood_discarded (hm : s.mc.mode.listens = false) : s.reportGood = s := if_neg (by simp [hm])

end State

/-- Settles O35: the count with its WARN is `withErrors`, and at 128 `escalate` enters RESTART or SAFE. -/
theorem lineErrorCountRisesFallsAndEscalates : Obligations.LineErrorCountRisesFallsAndEscalates := by
  refine ⟨fun s n hm => ?rise, fun s hm => State.reportGood_taken ((Mode.listens_iff _).2 hm), fun s n hl ha => ?discarded⟩
  case rise =>
    have hm := (Mode.listens_iff _).2 hm
    dsimp only
    rw [← State.withErrors_eq]
    refine ⟨State.reportRise_low hm, fun he hbelow => ?_, fun he hlimit => ?_⟩
    · rw [State.reportRise_high hm he, State.escalate_below (s := s.withErrors (min 255 (s.mc.lineErrors + n))) hbelow, State.withErrors_eq]
      exact State.enterRestart_spec _ _
    · rw [State.reportRise_high hm he, State.escalate_atLimit (s := s.withErrors (min 255 (s.mc.lineErrors + n))) hlimit, State.withErrors_eq]
      exact State.enterSafe_spec _ _
  case discarded =>
    have hm : s.mc.mode.listens = false := Bool.eq_false_iff.2 fun h => ((Mode.listens_iff _).1 h).elim hl ha
    exact ⟨State.reportRise_discarded hm n, State.reportGood_discarded hm⟩

/-! ### LIMP and WARN under every command (R151, R162) -/

namespace State

variable {s : State}

theorem clearLimp_active (hm : s.mc.mode = .active) : s.clearLimp = { s with mc := { s.mc with limp := false } } := if_pos hm

theorem clearLimp_refused (hm : s.mc.mode ≠ .active) : s.clearLimp = s.refuse .wrongMode none := if_neg hm

/-- CLEAR_LIMP leaves WARN. -/
theorem clearLimp_warn (s : State) : s.clearLimp.notice.station.warn = s.notice.station.warn := by
  unfold clearLimp
  split <;> rfl

theorem HostedBy.warn {f : State → State} {v : State} (h : s.HostedBy f v)
    (hf : ∀ t, (f t).notice.station.warn = t.notice.station.warn) : v.notice.station.warn = s.notice.station.warn := by
  have hview {a b : State} (h : a.modeView = b.modeView) : a.notice.station.warn = b.notice.station.warn :=
    congrArg (·.2.2.2.2) h
  obtain h | ⟨t, ht, h⟩ := h
  · exact hview h
  · exact ((hview h).trans (hf t)).trans (hview ht)

theorem HostedBy.limp {f : State → State} {v : State} (h : s.HostedBy f v) (hf : ∀ t, t.mc.mode ≠ .active → (f t).mc.limp = t.mc.limp)
    (hm : s.mc.mode ≠ .active) : v.mc.limp = s.mc.limp := by
  have hlimp {a b : State} (h : a.modeView = b.modeView) : a.mc.limp = b.mc.limp := congrArg (·.2.1.2.2.2) h
  obtain h | ⟨t, ht, h⟩ := h
  · exact hlimp h
  · have htm : t.mc.mode = s.mc.mode := congrArg (·.2.1.1) ht
    exact ((hlimp h).trans (hf t (htm ▸ hm))).trans (hlimp ht)

end State

/-- What LIMP is released by, or WARN cleared (R151, R162). -/
theorem releases_cases {i : Instr} (h : i.releases = true) :
    i = .reset ∨ i = .softReset ∨ i = .clearLimp
      ∨ ∃ mask : Byte, mask.getLsbD 3 = true ∧ (i = .clearNoticeFlags .station mask ∨ i = .registerWrite 0x030 mask) := by
  unfold Instr.releases at h
  split at h
  case h_1 => exact .inl rfl
  case h_2 => exact .inr (.inl rfl)
  case h_3 => exact .inr (.inr (.inl rfl))
  case h_4 mask => exact .inr (.inr (.inr ⟨mask, h, .inl rfl⟩))
  case h_5 addr v =>
    simp only [Bool.and_eq_true, beq_iff_eq] at h
    obtain ⟨rfl, hv⟩ := h
    exact .inr (.inr (.inr ⟨v, hv, .inr rfl⟩))
  case h_6 => cases h

/-- A write to the station flags leaves LIMP (R182). -/
theorem access_clearStationFlags_mc (s : State) (mask : Byte) : (s.access fun t => t.clearStationFlags mask).mc = s.mc := by
  unfold State.access
  split <;> rfl

/-- LIMP is released by CLEAR_LIMP in ACTIVE, SOFT_RESET and RESET alone (R162). -/
theorem exec_limp_released {i : Instr} {s t : State} (hrun : exec i s = .next t) (hs : s.mc.limp = true) (ht : t.mc.limp = false) :
    (i = .clearLimp ∧ s.mc.mode = .active) ∨ i = .softReset ∨ i = .reset := by
  have hmoved : t.mc.limp ≠ s.mc.limp := by
    rw [hs, ht]
    nofun
  have hi : i.releases = true := by
    by_contra hi
    exact hmoved (((exec_modeStep (Bool.eq_false_iff.2 hi) hrun).limp hs).trans hs.symm)
  obtain rfl | rfl | rfl | ⟨mask, -, rfl | rfl⟩ := releases_cases hi
  · exact .inr (.inr rfl)
  · exact .inr (.inl rfl)
  · refine .inl ⟨rfl, by_contra fun hm => hmoved ?_⟩
    obtain rfl := Host.Outcome.next.inj hrun
    exact (s.control_hosted _).limp (fun t htm => by rw [State.clearLimp_refused htm]; rfl) hm
  all_goals
    obtain rfl := Host.Outcome.next.inj hrun
    exact absurd (congrArg (·.limp) (access_clearStationFlags_mc s mask)) hmoved

/-- Settles O14: CLEAR_LIMP by the mode; every other command by `exec_limp_released` and `exec_modeSound`. -/
theorem limpAssertedBySafeReleasedByTheHost : Obligations.LimpAssertedBySafeReleasedByTheHost := by
  refine ⟨fun s h hm => congrArg Host.Outcome.next ?taken, fun s h hm => congrArg Host.Outcome.next ?refused,
    fun i s t hrun hs ht => exec_limp_released hrun hs ht, fun i s t hrun hs ht => (exec_modeSound hrun).asserted hs ht, fun s => rfl⟩
  case taken =>
    have hactive : s.commanding.clearLimp = _ := State.clearLimp_active hm
    rw [State.control_takes h (by rw [hactive]), hactive]
    rfl
  case refused => exact State.control_refuses h (State.clearLimp_refused hm)

/-- Settles O36: a report by `reportRise_warn`, and every command that clears no flag of the station by `exec_modeStep`. -/
theorem warnSetAtEachUpwardCrossing : Obligations.WarnSetAtEachUpwardCrossing := by
  refine ⟨fun s n hm => ?rise, fun s => s.reportGood_notice, fun i s t hrun hs hreset hsoft hflags => ?stays, fun s m h => ?cleared⟩
  case rise =>
    rw [State.reportRise_warn ((Mode.listens_iff _).2 hm)]
    simp only [State.withErrors_eq, Bool.or_eq_true, Bool.and_eq_true, decide_eq_true_eq]
  case stays =>
    by_cases hi : i.releases = true
    · obtain rfl | rfl | rfl | ⟨mask, hmask, rfl | rfl⟩ := releases_cases hi
      · exact absurd rfl hreset
      · exact absurd rfl hsoft
      · obtain rfl := Host.Outcome.next.inj hrun
        exact ((s.control_hosted _).warn State.clearLimp_warn).trans hs
      · exact absurd rfl (hflags mask hmask).1
      · exact absurd rfl (hflags mask hmask).2
    · exact (exec_modeStep (Bool.eq_false_iff.2 hi) hrun).warn hs
  case cleared =>
    refine ⟨_, congrArg Host.Outcome.next (State.access_open h _), fun hm => ?_, rfl⟩
    simp only [State.clearStationFlags, State.modNotice, StationFlags.clearBits, hm, Bool.not_true, Bool.and_false]

end Sys2Proof.Machine

/-! PROOFS. JOIN (R41 to R46, R146, R148), RESUME and the cleared fault (R158, R161), CLEAR_RESTARTS and unknown codes (R163, R180),
SOFT_RESET (R164), the mode timers and the WAKE pin (R148 to R174). -/

namespace Sys2Proof.Machine

/-! ### JOIN (R41, R146) -/

/-- Some value of the station configuration that may not be 0 is 0 (R146). -/
def StationConfig.Zeroed (g : StationConfig) : Prop :=
  g.beaconInterval = 0 ∨ g.nakBackoff = 0 ∨ g.silenceBackoff = 0 ∨ g.safeTime = 0 ∨ g.wakeSettle = 0

namespace StationConfig

variable {g : StationConfig}

theorem not_zeroed_iff :
    ¬ g.Zeroed ↔
      g.beaconInterval ≠ 0 ∧ g.nakBackoff ≠ 0 ∧ g.silenceBackoff ≠ 0 ∧ g.safeTime ≠ 0 ∧ g.wakeSettle ≠ 0 := by
  simp only [Zeroed, not_or]

theorem check_address (h : g.ownAddress = 31) : g.check = some .badAddress := if_pos h

theorem check_rate (ha : g.ownAddress ≠ 31) (h : g.rateCode = 3) : g.check = some .badRate := (if_neg ha).trans (if_pos h)

theorem check_zeroed (ha : g.ownAddress ≠ 31) (hr : g.rateCode ≠ 3) (h : g.Zeroed) : g.check = some .badValue :=
  ((if_neg ha).trans (if_neg hr)).trans (if_pos h)

theorem check_passes (ha : g.ownAddress ≠ 31) (hr : g.rateCode ≠ 3) (h : ¬ g.Zeroed) : g.check = none :=
  ((if_neg ha).trans (if_neg hr)).trans (if_neg h)

end StationConfig

namespace State

variable {s : State}

theorem checkChannels_passes (h : ∀ c, s.checkChannel c = none) : s.checkChannels = none :=
  List.findSome?_eq_none_iff.2 fun c _ => by rw [h c]; rfl

/-- The channel check fails at the lowest channel at which a check does (R41). -/
theorem checkChannels_fails {c : ChanId} {code : RefusalCode} (h : s.checkChannel c = some code)
    (hlow : ∀ d, d < c → s.checkChannel d = none) : s.checkChannels = some (code, c) :=
  findSome?_of_lowest chanList_sorted (List.mem_finRange c) (by rw [h]; rfl) fun d _ hd => by rw [hlow d hd]; rfl

theorem join_outside (hm : s.mc.mode ≠ .setup) : s.join = s.refuse .wrongMode none := if_pos hm

theorem join_unfit (hm : s.mc.mode = .setup) {code : RefusalCode} (h : s.station.check = some code) : s.join = s.refuse code none := by
  rw [join, if_neg (not_not.2 hm), h]

theorem join_badChannel (hm : s.mc.mode = .setup) (hstation : s.station.check = none) {code : RefusalCode} {c : ChanId}
    (h : s.checkChannels = some (code, c)) : s.join = s.refuse code (some c) := by
  rw [join, if_neg (not_not.2 hm), hstation]
  dsimp only
  rw [h]

theorem join_good (hm : s.mc.mode = .setup) (hstation : s.station.check = none) (h : s.checkChannels = none) : s.join = s.joined := by
  rw [join, if_neg (not_not.2 hm), hstation]
  dsimp only
  rw [h]

end State

theorem startTimer_of_ne {n : Nat} (h : n ≠ 0) : startTimer n = some n := if_neg h

/-- Settles O6: every check passes, and `joined` is what the statement says of a beacon interval that is not 0. -/
theorem joinTakenStartsListening : Obligations.JoinTakenStartsListening := by
  intro s hopen hm haddress hrate hbeacon hnak hsilence hsafe hsettle hchannels
  have hzeroed : ¬ s.station.Zeroed :=
    StationConfig.not_zeroed_iff.2 ⟨hbeacon, hnak, hsilence, hsafe, hsettle⟩
  have hjoined : s.commanding.join = s.commanding.joined :=
    State.join_good hm (StationConfig.check_passes haddress hrate hzeroed) (State.checkChannels_passes hchannels)
  have htimer : startTimer s.station.listenMs = some (20 * s.station.beaconInterval.toNat) :=
    startTimer_of_ne (Nat.mul_ne_zero (by decide) (BitVec.toNat_ne_iff_ne.2 hbeacon))
  refine congrArg Host.Outcome.next ((State.control_takes hopen (by rw [hjoined]; rfl)).trans ?_)
  rw [hjoined, ← htimer]
  rfl

/-- Settles O7: the first check that fails, in the order of R146 and R41. -/
theorem joinRefusedAtTheFirstFailure : Obligations.JoinRefusedAtTheFirstFailure := by
  intro s hopen
  have hrefused {code : RefusalCode} {c : Option ChanId} (h : s.commanding.join = s.commanding.refuse code c) :
      exec .join s = .next (s.refusedBy code c) := congrArg Host.Outcome.next (State.control_refuses hopen h)
  refine ⟨fun hm => hrefused (State.join_outside hm), fun hm => ⟨fun ha => ?address, fun ha => ⟨fun hr => ?rate, fun hr =>
    ⟨fun hz => ?zeroed, fun c code hbeacon hnak hsilence hsafe hsettle hc hlow => ?channel⟩⟩⟩⟩
  case address => exact hrefused (State.join_unfit (s := s.commanding) hm (StationConfig.check_address ha))
  case rate => exact hrefused (State.join_unfit (s := s.commanding) hm (StationConfig.check_rate ha hr))
  case zeroed => exact hrefused (State.join_unfit (s := s.commanding) hm (StationConfig.check_zeroed ha hr hz))
  case channel =>
    have hzeroed : ¬ s.station.Zeroed := StationConfig.not_zeroed_iff.2 ⟨hbeacon, hnak, hsilence, hsafe, hsettle⟩
    exact hrefused (State.join_badChannel (s := s.commanding) hm (StationConfig.check_passes ha hr hzeroed)
      (State.checkChannels_fails (s := s.commanding) hc hlow))

/-! ### RESUME, CLEAR_RESTARTS and unknown codes (R158, R161, R163, R180) -/

/-- What the host port holds is none of what an entry to RESTART says. -/
theorem Restarted.of_withPort {s t : State} {p q : HostPort} {k : EntryCause} (h : Restarted { s with port := p } t k) :
    Restarted s { t with port := q } k :=
  { h with }

theorem State.faultCleared_iff (s : State) :
    s.faultCleared = true ↔
      s.mc.safeFault = .none ∨ s.mc.safeFault = .restartLimit ∨ (s.mc.safeFault = .stuck ∧ s.line.stuck = false) := by
  unfold State.faultCleared
  cases s.mc.safeFault <;> simp

/-- Settles O12: RESUME taken is the entry to RESTART, which leaves the host port, and it is refused by its two tests. -/
theorem resumeLeavesSafeWhenTheFaultIsCleared : Obligations.ResumeLeavesSafeWhenTheFaultIsCleared := by
  intro s hopen
  refine ⟨fun hm hf => ?taken, fun hm hf => ?present, fun hm => ?mode, s.faultCleared_iff⟩
  case taken =>
    have hresume : s.commanding.resume = s.commanding.enterRestart .resume := (if_neg (not_not.2 hm)).trans (if_pos hf)
    have hspec : Restarted s { s.commanding.enterRestart .resume with port := s.port.taken } .resume :=
      .of_withPort (s.commanding.enterRestart_spec .resume)
    have htakes : s.control State.resume = { s.commanding.enterRestart .resume with port := s.port.taken } := by
      rw [State.control_takes hopen (by rw [hresume, State.enterRestart_port]), hresume]
    exact ⟨_, congrArg Host.Outcome.next htakes, hspec, rfl, by rw [hspec.mc]⟩
  case present =>
    exact congrArg Host.Outcome.next (State.control_refuses hopen ((if_neg (not_not.2 hm)).trans (if_neg (Bool.eq_false_iff.1 hf))))
  case mode => exact congrArg Host.Outcome.next (State.control_refuses hopen (if_pos hm))

/-- Settles O13: a command that leaves the host port is taken, and one that refuses has refused. -/
theorem clearRestartsTakenAndUnknownCodesRefused : Obligations.ClearRestartsTakenAndUnknownCodesRefused :=
  ⟨fun _ hopen => congrArg Host.Outcome.next (State.control_takes hopen (f := State.clearRestarts) rfl),
    fun _ _ hopen => congrArg Host.Outcome.next (State.control_refuses hopen (f := fun t => t.refuse .badValue none) rfl)⟩

/-- Settles O5: SOFT_RESET in its control transaction, whose marks end clear. -/
theorem softResetClearsAllButTheConfiguration : Obligations.SoftResetClearsAllButTheConfiguration :=
  fun _ hopen => congrArg Host.Outcome.next (State.control_open hopen State.softReset)

/-! ### The mode timers and the WAKE pin (R148, R149, R153, R159, R174) -/

namespace State

variable {s : State} {level : Bool}

/-- The part whose detector has accepted a level of the pin (R174). -/
def pinTaken (s : State) (level : Bool) : State := { s with wake := { s.wake with pin := level, accepted := level, difference := 0 } }

theorem pinAccepted_idle (h : s.wake.on = false ∨ level = s.wake.accepted) :
    s.pinAccepted level = { s with wake := { s.wake with pin := level } } := by
  refine if_neg fun hon => ?_
  obtain h | h := h
  · rw [h] at hon
    cases hon.1
  · exact hon.2 h

theorem pinAccepted_inactive (hon : s.wake.on = true) (hl : level ≠ s.wake.accepted)
    (h : s.station.wakePinEnabled = false ∨ level ≠ s.station.wakePinHigh) : s.pinAccepted level = s.pinTaken level := by
  refine (if_pos ⟨hon, hl⟩).trans (if_neg fun hactive => ?_)
  obtain h | h := h
  · exact Bool.noConfusion (h.symm.trans hactive.1)
  · exact h hactive.2

theorem pinAccepted_active (hon : s.wake.on = true) (hl : level ≠ s.wake.accepted) (he : s.station.wakePinEnabled = true)
    (ha : level = s.station.wakePinHigh) : s.pinAccepted level = (s.pinTaken level).wakeEvent :=
  (if_pos ⟨hon, hl⟩).trans (if_pos ⟨he, ha⟩)

end State

/-- Settles O54: each timer by its branch for one that runs; the pin by whether its level is accepted, and is a wake event. -/
theorem modeTimersAndPinMoveTheMode : Obligations.ModeTimersAndPinMoveTheMode := by
  refine ⟨fun s hm ht => ?listen, fun s hm ht => ?restart, fun s hm ht => ?safe, fun s level => ⟨rfl, fun h => ?idle,
    fun hon hl => ⟨fun h => ?inactive, fun he ha => ?active⟩⟩⟩
  case listen => exact congrArg Host.Outcome.next (if_pos ⟨hm, Option.isSome_iff_ne_none.2 ht⟩)
  case restart => exact congrArg Host.Outcome.next (if_pos ⟨hm, Option.isSome_iff_ne_none.2 ht⟩)
  case safe => exact congrArg Host.Outcome.next (if_pos ⟨hm, Option.isSome_iff_ne_none.2 ht⟩)
  case idle => exact congrArg Host.Outcome.next (State.pinAccepted_idle h)
  case inactive => exact congrArg Host.Outcome.next (State.pinAccepted_inactive hon hl h)
  case active =>
    have hrun : exec (.wakePinAccepted (.held level)) s = .next (s.pinTaken level).wakeEvent :=
      congrArg Host.Outcome.next (State.pinAccepted_active hon hl he ha)
    have hwoken {cause : EntryCause} (hm : s.mc.mode = .sleep ∨ s.mc.mode = .safe) (hf : s.faultCleared = true)
        (hcause : (if s.mc.mode = .safe then .safeWake else .wake) = cause) :
        ∃ t, exec (.wakePinAccepted (.held level)) s = .next t ∧ Restarted (s.pinTaken level) t cause := by
      subst hcause
      exact ⟨_, hrun.trans (congrArg _ (State.wakeEvent_cleared (s := s.pinTaken level) hm hf)), State.enterRestart_spec _ _⟩
    have hkept (hm : s.mc.mode = .sleep ∨ s.mc.mode = .safe) (hf : s.faultCleared = false) :=
      hrun.trans (congrArg _ (State.wakeEvent_present (s := s.pinTaken level) hm hf))
    refine ⟨fun hm hf => ?_, fun hm hf => ?_, fun hm hf => ?_, fun hm hf => ?_⟩
    · exact hwoken (.inl hm) hf (if_neg (hm ▸ nofun))
    · exact (hkept (.inl hm) hf).trans (congrArg _ (if_neg (hm ▸ nofun : s.mc.mode ≠ .safe)))
    · exact hwoken (.inr hm) hf (if_pos hm)
    · exact (hkept (.inr hm) hf).trans (congrArg _ (if_pos hm))

end Sys2Proof.Machine

/-! PROOFS. RESET (R165): the transfer mark of the host port under every command of the host. -/

namespace Sys2Proof.Machine

/-! ### The transaction in progress under what it brings (R165, R177) -/

/-- An effect that leaves the mark of the transaction in progress. -/
def KeepsTransfer (f : State → State) : Prop := ∀ t, (f t).port.transfer = t.port.transfer

namespace KeepsTransfer

theorem of_port {f : State → State} (h : ∀ t, (f t).port = t.port) : KeepsTransfer f := fun t => congrArg _ (h t)

theorem clearChannelFlags (c : ChanId) (mask : Byte) : KeepsTransfer fun t => t.clearChannelFlags c mask := .of_port fun t => by
  have hrelease (u : State) : (u.release c).port = u.port := by
    unfold State.release
    split
    · dsimp only
      split <;> simp
    · rfl
  unfold State.clearChannelFlags
  dsimp only
  split
  · exact hrelease _
  · rfl

theorem writeStationByte (addr : Nat) (v : Byte) : KeepsTransfer fun t => t.writeStationByte addr v := fun t => by
  show (t.writeStationByte addr v).port.transfer = _
  unfold State.writeStationByte
  split
  · rfl
  split
  · simp [State.setOwnAddress]
  split
  · unfold State.writeRestartLimit
    split <;> rfl
  · rfl

theorem writeRegister (addr : Word) (v : Byte) : KeepsTransfer fun t => t.writeRegister addr v := fun t => by
  unfold State.writeRegister
  dsimp only
  split
  · exact writeStationByte _ v t
  split
  · rfl
  split
  · rfl
  split
  · rfl
  split
  · rfl
  split
  · exact clearChannelFlags _ v t
  split
  · unfold State.writeChannelByte
    split <;> rfl
  · rfl

theorem channelCommand {effect : State → ChanId → State} (h : ∀ t c, (effect t c).port = t.port) (arg : Byte)
    (kindOk : Kind → Bool) (stateOk : ChanState → Bool) : KeepsTransfer fun t => t.channelCommand arg kindOk stateOk effect :=
  fun t => by
    show (t.channelCommand arg kindOk stateOk effect).port.transfer = _
    unfold State.channelCommand
    split
    · rfl
    split
    · rfl
    split
    · rfl
    split
    · rfl
    · exact congrArg _ (h t _)

theorem join : KeepsTransfer State.join := fun t => by
  unfold State.join
  split
  · rfl
  split
  · rfl
  split <;> rfl

theorem sleepCommand (arg : Byte) : KeepsTransfer fun t => t.sleepCommand arg := fun t => by
  show (t.sleepCommand arg).port.transfer = _
  unfold State.sleepCommand
  split
  · rfl
  split
  · rfl
  split
  · rfl
  split
  · rfl
  · simp

theorem wakeCommand : KeepsTransfer State.wakeCommand := fun t => by
  unfold State.wakeCommand
  split
  case h_2 => split <;> simp
  all_goals rfl

theorem resume : KeepsTransfer State.resume := fun t => by
  unfold State.resume
  split
  · rfl
  split <;> simp

theorem clearLimp : KeepsTransfer State.clearLimp := fun t => by
  unfold State.clearLimp
  split <;> rfl

/-- A command in a transaction of its own. -/
theorem commanded {f : State → State} (h : KeepsTransfer f) : KeepsTransfer fun t => t.commanded f :=
  fun t => h (t.modPort fun p => { p with controlTaken := true, nowRefused := false })

end KeepsTransfer

/-- A byte of a transaction is an access whose effect leaves the transfer mark (R178, R179). -/
theorem exec_of_movesByte {i : Instr} (h : i.movesByte = true) :
    ∃ f, KeepsTransfer f ∧ ∀ s, exec i s = .next (s.access f) := by
  cases i
  case registerWrite addr v => exact ⟨_, .writeRegister addr v, fun _ => rfl⟩
  case ownAddressWrite v => exact ⟨_, .writeStationByte 0 v, fun _ => rfl⟩
  case clearDone c => exact ⟨_, .clearChannelFlags c 1, fun _ => rfl⟩
  case clearNoticeFlags reg mask =>
    cases reg with
    | station => exact ⟨fun t => t.clearStationFlags mask, fun _ => rfl, fun _ => rfl⟩
    | channel c => exact ⟨_, .clearChannelFlags c mask, fun _ => rfl⟩
  case clearChangedMarks index mask => exact ⟨fun t => t.clearMarks index.val mask, fun _ => rfl, fun _ => rfl⟩
  case bufferWrite offset v => exact ⟨fun t => t.store (offsetOf offset) [v], fun _ => rfl, fun _ => rfl⟩
  case bufferRead offset place =>
    exact ⟨fun t => t.shiftOut [Memory.read t.ram (offsetOf offset + BitVec.ofNat 12 place)], fun _ => rfl, fun _ => rfl⟩
  case descriptorWrite index bytes =>
    refine ⟨fun t => t.writeSlot (slotOf index) bytes, .of_port fun t => ?_, fun _ => rfl⟩
    unfold State.writeSlot
    split <;> rfl
  case descriptorRead index place =>
    exact ⟨fun t => t.shiftOut (t.slot (slotOf index + Fin.ofNat 64 place)).bytes, fun _ => rfl, fun _ => rfl⟩
  all_goals cases h

/-- A command at a rise of nCS is taken there with an effect that leaves the transfer mark (R177, R180). -/
theorem exec_of_atRise {i : Instr} (h : i.atRise = true) : ∃ f, KeepsTransfer f ∧ ∀ s, exec i s = .next (s.atRise f) := by
  cases i
  case join => exact ⟨_, .commanded .join, fun _ => rfl⟩
  case softReset => exact ⟨_, .commanded (f := State.softReset) fun _ => rfl, fun _ => rfl⟩
  case sleep arg => exact ⟨_, .commanded (.sleepCommand arg), fun _ => rfl⟩
  case wake => exact ⟨_, .commanded .wakeCommand, fun _ => rfl⟩
  case start arg => exact ⟨_, .commanded (.channelCommand State.startChannel_port arg _ _), fun _ => rfl⟩
  case halt arg => exact ⟨_, .commanded (.channelCommand State.haltChannel_port arg _ _), fun _ => rfl⟩
  case clear arg => exact ⟨_, .commanded (.channelCommand State.clearChannel_port arg _ _), fun _ => rfl⟩
  case kick arg => exact ⟨_, .commanded (.channelCommand State.kickChannel_port arg _ _), fun _ => rfl⟩
  case resume => exact ⟨_, .commanded .resume, fun _ => rfl⟩
  case clearRestarts => exact ⟨_, .commanded (f := State.clearRestarts) fun _ => rfl, fun _ => rfl⟩
  case clearLimp => exact ⟨_, .commanded .clearLimp, fun _ => rfl⟩
  case unknownCommand => exact ⟨_, .commanded (f := fun t => t.refuse .badValue none) fun _ => rfl, fun _ => rfl⟩
  case transactionEnd => exact ⟨State.endTransaction, fun _ => rfl, fun _ => rfl⟩
  all_goals cases h

end Sys2Proof.Machine

/-! PROOFS. The part at its reset values (R165): what RESET gives every register, what holds there, and what is held while nRESET is
low. -/

namespace Sys2Proof.Machine

namespace State

/-! ### The reset values (R165) -/

theorem hardReset_entry (s : State) (a : Station) : s.hardReset.entry a = if a = 0 then Entry.self else Entry.absent :=
  (Table.get_set _ 0 a _).trans (by rw [Table.get_replicate])

theorem hardReset_ctx (s : State) (c : ChanId) : s.hardReset.ctx c = .cleared := Table.get_replicate _ _

theorem hardReset_slot (s : State) (i : SlotId) : s.hardReset.slot i = .reset := Table.get_replicate _ _

theorem hardReset_cfg (s : State) (c : ChanId) : s.hardReset.cfg c = .reset := Table.get_replicate _ _

theorem hardReset_offer (s : State) (c : ChanId) : s.hardReset.arb.offers.get c = false := Table.get_replicate _ _

/-- The part's own entry, and no other, names its own address at the reset values. -/
theorem reset_selfExact : State.reset.SelfExact := fun a => by
  rw [show State.reset.entry a = if a = 0 then Entry.self else Entry.absent from State.reset.hardReset_entry a,
    show stationOf State.reset.station.ownAddress = some 0 from rfl, Option.some_inj]
  by_cases ha : a = 0
  · simp [ha, Entry.self]
  · simp [ha, Ne.symm ha, Entry.absent]

theorem reset_ctx (c : ChanId) : State.reset.ctx c = .cleared := Table.get_replicate _ _

/-! ### While nRESET is low (R165) -/

/-- No level of the host's byte is answered from a moment at which the host port is shut (R165, R177). -/
theorem misoByte_shut {moment : Nat → State} {j n : Nat} (hj : j ≤ n) (h : (moment j).hostOpen = false) (mosi : List Byte) :
    misoByte mosi moment n = none :=
  if_pos (List.any_eq_true.2 ⟨j, List.mem_range.2 (Nat.lt_succ_of_le hj), by rw [h]; rfl⟩)

theorem resetFalls_ctx (s : State) (c : ChanId) : s.resetFalls.ctx c = .cleared := s.hardReset_ctx c

/-- No command but RESET, the WAKE pin and those of the host port acts on the part held in reset. -/
theorem exec_resetFalls (s : State) {i : Instr} (hreset : i ≠ .reset) (hpin : ∀ p, i ≠ .wakePinAccepted p)
    (hbyte : i.movesByte = false) (hrise : i.atRise = false) : exec i s.resetFalls = .next s.resetFalls := by
  cases i
  case reset => exact absurd rfl hreset
  case wakePinAccepted p => exact absurd rfl (hpin p)
  case backoffExpiry c => exact congrArg Host.Outcome.next (if_neg (by rw [resetFalls_ctx]; nofun))
  case pacingExpiry c => exact congrArg Host.Outcome.next (if_neg (by rw [resetFalls_ctx]; nofun))
  case bitError fault => cases fault <;> rfl
  case registerWrite | ownAddressWrite | clearDone | clearNoticeFlags | clearChangedMarks | bufferWrite | bufferRead
    | descriptorWrite | descriptorRead => cases hbyte
  case join | softReset | sleep | wake | start | halt | clear | kick | resume | clearRestarts | clearLimp | unknownCommand
    | transactionEnd => cases hrise
  all_goals rfl

/-- The part's own clock moves nothing while it is held in reset. -/
theorem idle_resetFalls {s : State} (h : s.pending = []) : s.resetFalls.idle = s.resetFalls := by
  have hcontexts : s.resetFalls.contexts.mapIdx (fun _ x => x.tick) = s.resetFalls.contexts :=
    Table.ext_get fun c => by
      rw [Table.get_mapIdx]
      exact congrArg Context.tick (s.hardReset_ctx c) |>.trans (s.hardReset_ctx c).symm
  have hdue : s.resetFalls.dueEvents s.resetFalls.ticked = [] := by
    have hidle (f : Context → Option Nat) (hf : f .cleared = none) : (chanList.filter fun c => due (f (s.resetFalls.ctx c))) = [] :=
      List.filter_eq_nil_iff.2 fun c _ => by rw [resetFalls_ctx, hf]; nofun
    unfold dueEvents
    rw [hidle Context.backoff rfl, hidle Context.pacing rfl]
    rfl
  have hidle : s.resetFalls.idle =
      { s.resetFalls with
        contexts := s.resetFalls.contexts.mapIdx fun _ x => x.tick, pending := s.resetFalls.dueEvents s.resetFalls.ticked } := rfl
  rw [hidle, hcontexts, hdue, ← h]
  rfl

end State

/-- Settles O4: RESET by the rows of its tables, a transaction by `exec_of_movesByte` and `exec_of_atRise`, and the part held in reset by
`exec_resetFalls` and `idle_resetFalls`. -/
theorem resetGivesTheResetValues : Obligations.ResetGivesTheResetValues := by
  refine ⟨fun s => ⟨s.hardReset, rfl, rfl, s.hardReset_cfg, s.hardReset_ctx, fun i => ?slots, fun _ => rfl, rfl, s.hardReset_offer, rfl,
      rfl, rfl, rfl, fun _ => Table.get_replicate _ _, s.hardReset_entry, rfl, rfl, rfl, rfl, fun _ => Table.get_replicate _ _,
      fun _ => Table.get_replicate _ _, rfl, rfl, rfl, rfl, rfl, rfl, rfl, rfl, rfl, rfl, rfl, rfl⟩,
    fun s i => ⟨fun hi => ?byte, fun hi => ?rise, fun h => if_pos h, fun h => if_neg (Bool.eq_false_iff.1 h)⟩,
    fun s => ⟨rfl, rfl, rfl, rfl, fun _ => rfl, fun mosi moment j n hj hlow => ?miso, fun i h1 h2 h3 h4 => s.exec_resetFalls h1 h2 h3 h4,
      fun level p hp => ?pin, fun h => ?step⟩⟩
  case slots =>
    rw [s.hardReset_slot]
    rfl
  case byte =>
    obtain ⟨f, hf, hrun⟩ := exec_of_movesByte hi
    refine ⟨fun hopen => ⟨_, hrun s, ?_⟩, fun hshut => (hrun s).trans (congrArg _ (State.access_shut hshut f))⟩
    rw [State.access_open hopen, hf]
    rfl
  case rise =>
    obtain ⟨f, hf, hrun⟩ := exec_of_atRise hi
    refine ⟨fun hopen => ⟨_, hrun s, ?_⟩, fun hshut => (hrun s).trans (congrArg _ (State.atRise_shut hshut f))⟩
    rw [State.atRise_open hopen, hf]
    rfl
  case miso => exact State.misoByte_shut hj (by rw [hlow]; rfl) mosi
  case pin =>
    obtain rfl | rfl : p = .moves level ∨ p = .held level := by simpa using hp
    · rfl
    · exact congrArg Host.Outcome.next (State.pinAccepted_idle (s := s.resetFalls) (.inl rfl))
  case step =>
    have hstep : step s.resetFalls = .next s.resetFalls.idle := by
      unfold step
      rw [show s.resetFalls.pending = [] from h]
    rw [hstep, State.idle_resetFalls h]

/-- Settles O55: at the reset values every context is cleared, no offer stands and no attempt is latched. -/
theorem resetSatisfiesTheInvariants : Obligations.ResetSatisfiesTheInvariants := by
  have hoffers (c : ChanId) : State.reset.OfferExact c :=
    (State.offerExact_stopped (by rw [State.reset_ctx]; rfl)).2 (State.reset.hardReset_offer c)
  refine ⟨Memory.wf_nil, State.reset_selfExact, ?restarts, nofun, ⟨nofun, nofun, rfl⟩, nofun, fun c => ?opened, fun c _ => ?taking,
    ⟨hoffers, fun _ c => ?stopped⟩, fun h => absurd rfl h, fun h => absurd rfl h⟩
  case restarts => exact ⟨by decide, by decide, by decide, fun _ => rfl⟩
  case opened =>
    rw [State.reset_ctx]
    exact Context.openExact_of_unpledged (Context.unpledged_none rfl) (by simp [Context.cleared])
  case taking =>
    rw [State.reset_ctx]
    exact ⟨rfl, rfl⟩
  case stopped =>
    rw [State.reset_ctx]
    rfl

end Sys2Proof.Machine

/-! PROOFS. The SLEEP and WAKE commands (R168 to R170, R175), and the quiet sleep entered in the event that ends the latched attempt
(R170, R171): what the end of an attempt does elsewhere does not read that a sleep waits. -/

namespace Sys2Proof.Machine

namespace State

/-! ### What does not read the Mode Controller: offers and the Presence Table (R79 to R81, R130 to R139) -/

/-- A change of the Mode Controller is made after a branch as well as in it; the lemmas that follow move it so past each operation. -/
theorem ite_modMc (p : Prop) [Decidable p] (t u : State) (g : ModeController → ModeController) :
    (if p then t.modMc g else u.modMc g) = (if p then t else u).modMc g := by
  split <;> rfl

section

variable (s : State) (c : ChanId) (g : ModeController → ModeController)

@[simp] theorem modCtx_modMc (f : Context → Context) : (s.modMc g).modCtx c f = (s.modCtx c f).modMc g := rfl

@[simp] theorem modArb_modMc (f : Arbiter → Arbiter) : (s.modMc g).modArb f = (s.modArb f).modMc g := rfl

@[simp] theorem look_modMc : (s.modMc g).look c = (s.look c).modMc g := rfl

@[simp] theorem enterHalted_modMc (cause : HaltCause) : (s.modMc g).enterHalted c cause = (s.enterHalted c cause).modMc g := rfl

@[simp] theorem lookWhere_modMc (p : ChanId → Bool) : (s.modMc g).lookWhere p = (s.lookWhere p).modMc g :=
  List.foldl_hom (fun t : State => t.modMc g) fun t d => ite_modMc (p d = true) (t.look d) t g

@[simp] theorem updateEntries_modMc (f : Station → Entry → Entry) : (s.modMc g).updateEntries f = (s.updateEntries f).modMc g := by
  unfold updateEntries replaceEntries
  exact (s.withEntries _).lookWhere_modMc g _

@[simp] theorem lookWaking_modMc : (s.modMc g).lookWaking = s.lookWaking.modMc g := s.lookWhere_modMc g _

@[simp] theorem presencePulse_modMc : (s.modMc g).presencePulse = s.presencePulse.modMc g := by
  unfold presencePulse
  rw [← lookWaking_modMc, ← updateEntries_modMc]
  rfl

@[simp] theorem presenceExhausted_modMc (peer : BitVec 5) :
    (s.modMc g).presenceExhausted peer = (s.presenceExhausted peer).modMc g := by
  unfold presenceExhausted
  split
  · exact s.updateEntries_modMc g _
  · rfl

@[simp] theorem destinationHeard_modMc : (s.modMc g).destinationHeard = s.destinationHeard.modMc g := by
  unfold destinationHeard
  rw [modMc_line]
  split
  · split
    · exact s.updateEntries_modMc g _
    · rfl
  · rfl

/-! ### Rings (R57 to R67) -/

@[simp] theorem writeBack_modMc (i : SlotId) (st : Status) (n : Nat) (e : Option Bool) :
    (s.modMc g).writeBack c i st n e = (s.writeBack c i st n e).modMc g := by
  unfold writeBack
  rw [modMc_slot, ← ite_modMc]
  rfl

@[simp] theorem writeBackList_modMc (st : Status) (count : SlotCopy → Nat) (l : List SlotCopy) :
    (s.modMc g).writeBackList c st count l = (s.writeBackList c st count l).modMc g := by
  induction l generalizing s with
  | nil => rfl
  | cons d l ih => rw [writeBackList, writeBackList, writeBack_modMc, ih]

@[simp] theorem fetchTooLong_modMc : (s.modMc g).fetchTooLong c = (s.fetchTooLong c).modMc g := by
  simp [fetchTooLong]

@[simp] theorem fetchBadRange_modMc : (s.modMc g).fetchBadRange c = (s.fetchBadRange c).modMc g := by
  simp [fetchBadRange]

@[simp] theorem fetchDry_modMc : (s.modMc g).fetchDry c = (s.fetchDry c).modMc g := by
  unfold fetchDry
  rw [modMc_ctx, ← ite_modMc]
  rfl

@[simp] theorem fetchLoop_modMc (n : Nat) : (s.modMc g).fetchLoop c n = (s.fetchLoop c n).modMc g := by
  induction n generalizing s with
  | zero => rfl
  | succ n ih =>
    have hmet : (s.modMc g).fetchMet c = (s.fetchMet c).modMc g := rfl
    simp only [fetchLoop, modMc_cfg, modMc_ctx, modMc_slot, modCtx_modMc, hmet, fetchTooLong_modMc, fetchDry_modMc,
      fetchBadRange_modMc, ih, ite_modMc]

@[simp] theorem fetch_modMc : (s.modMc g).fetch c = (s.fetch c).modMc g := by
  simp only [fetch, modMc_ctx, fetchLoop_modMc, ite_modMc]

@[simp] theorem completeMessage_modMc : (s.modMc g).completeMessage c = (s.completeMessage c).modMc g := by
  simp only [completeMessage, writeBackList_modMc, modCtx_modMc, fetch_modMc, ite_modMc]
  rfl

/-! ### Outcomes (R36, R51, R82 to R91, R121, R142, R169) -/

@[simp] theorem countRetry_modMc : (s.modMc g).countRetry c = (s.countRetry c).modMc g := by
  simp only [countRetry, exhaust, modMc_ctx, modMc_cfg, modMc_station, modCtx_modMc, presenceExhausted_modMc, look_modMc, ite_modMc]

@[simp] theorem nakAnswered_modMc : (s.modMc g).nakAnswered c = (s.nakAnswered c).modMc g := by
  simp only [nakAnswered, modCtx_modMc, enterHalted_modMc, ite_modMc]
  rfl

@[simp] theorem dataAcked_modMc (img : Frame) : (s.modMc g).dataAcked c img = (s.dataAcked c img).modMc g := by
  simp only [dataAcked, advance, modMc_cfg, modCtx_modMc, completeMessage_modMc, fetch_modMc, ite_modMc]

@[simp] theorem sendOutcome_modMc (img : Frame) (o : AttemptOutcome) :
    (s.modMc g).sendOutcome c img o = (s.sendOutcome c img o).modMc g := by
  cases o with
  | answered a =>
    cases a with
    | ack => simp only [sendOutcome, openAcked, modCtx_modMc, fetch_modMc, dataAcked_modMc, ite_modMc]
    | nak => exact s.nakAnswered_modMc c g
    | halt => rfl
    | reopen => simp only [sendOutcome, countRetry_modMc, modCtx_modMc, ite_modMc]
  | none | bitError => exact s.countRetry_modMc c g
  | lost | wakeCollision | abandoned | sent => rfl

@[simp] theorem publishOutcome_modMc (o : AttemptOutcome) : (s.modMc g).publishOutcome c o = (s.publishOutcome c o).modMc g := by
  cases o with
  | sent => simp only [publishOutcome, modMc_cfg, modCtx_modMc, completeMessage_modMc]
  | answered _ | none | bitError | lost | wakeCollision | abandoned => rfl

@[simp] theorem settleHalt_modMc : (s.modMc g).settleHalt c = (s.settleHalt c).modMc g := by
  simp only [settleHalt, enterHalted_modMc, look_modMc, ite_modMc]
  rfl

@[simp] theorem channelOutcome_modMc (img : Frame) (o : AttemptOutcome) :
    (s.modMc g).channelOutcome c img o = (s.channelOutcome c img o).modMc g := by
  unfold channelOutcome
  rw [modMc_cfg]
  cases (s.cfg c).kind <;> simp only [sendOutcome_modMc, publishOutcome_modMc, settleHalt_modMc]

end

/-! ### A quiet sleep that waits (R170) -/

/-- The part with a QUIET sleep waiting for the end of its attempt (R170). -/
def drowsy (s : State) : State := s.modMc fun m => { m with pendingSleep := .quiet }

variable {s : State}

theorem drowsy_of_quiet (h : s.mc.pendingSleep = .quiet) :
    ({ s with mc := { s.mc with pendingSleep := .none } } : State).drowsy = s := by
  unfold drowsy modMc
  rw [← h]

/-- Neither a waiting quiet sleep nor none offers the announce again (R169). -/
theorem ownerOutcome_drowsy (h : s.mc.pendingSleep = .none) (a : Attempt) (o : AttemptOutcome) :
    s.drowsy.ownerOutcome a o = (s.ownerOutcome a o).drowsy := by
  obtain ⟨owner, form, phase⟩ := a
  cases owner with
  | channel c =>
    cases form with
    | frame img => exact s.channelOutcome_modMc c _ img o
    | pulse => rfl
  | beacon => cases o <;> rfl
  | announcer =>
    have hoffer : (s.drowsy.mc.pendingSleep == .announce) = (s.mc.pendingSleep == .announce) := by rw [h]; rfl
    cases o with
    | lost | bitError | wakeCollision => exact congrArg (fun b => s.drowsy.modArb fun x => { x with announceOffer := b }) hoffer
    | answered _ | none | sent | abandoned => rfl
  | wakeRequest =>
    cases o with
    | sent => simp only [ownerOutcome, drowsy, modArb_modMc, presencePulse_modMc]
    | answered _ | none | lost | bitError | wakeCollision | abandoned => rfl

/-- A report that leaves the station on the line. -/
theorem reportRise_drowsy (hm : s.mc.mode = .active) {n : Nat} (h : (s.reportRise n).mc.mode = .active) :
    s.drowsy.reportRise n = (s.reportRise n).drowsy := by
  have hlistens : s.mc.mode.listens = true := (Mode.listens_iff _).2 (.inr hm)
  obtain hlow | hhigh := Nat.lt_or_ge (min 255 (s.mc.lineErrors + n)) 128
  · rw [reportRise_low hlistens hlow]
    exact reportRise_low (s := s.drowsy) hlistens hlow
  · rw [reportRise_high hlistens hhigh] at h
    exact absurd h (escalate_leaves _).2

theorem outcomeReports_drowsy (hm : s.mc.mode = .active) {o : AttemptOutcome} (h : (s.outcomeReports o).mc.mode = .active) :
    s.drowsy.outcomeReports o = (s.outcomeReports o).drowsy := by
  have hgood : s.drowsy.heardOnLine.reportGood = s.heardOnLine.reportGood.drowsy := by
    have hbeacon : s.drowsy.heardOnLine = s.heardOnLine.drowsy := by
      rw [heardOnLine, heardOnLine, if_pos hm, if_pos (show s.drowsy.mc.mode = .active from hm)]
      rfl
    have hlistens : s.heardOnLine.mc.mode.listens = true := by rw [heardOnLine_mc, hm]; rfl
    rw [hbeacon, reportGood_taken hlistens]
    exact reportGood_taken (s := s.heardOnLine.drowsy) hlistens
  cases o with
  | answered _ | sent => exact hgood
  | bitError => exact reportRise_drowsy hm h
  | none | lost | wakeCollision | abandoned => rfl

/-- The outcome and its reports are those of the part with no sleep waiting (R36, R170). -/
theorem handOver_drowsy (hm : s.mc.mode = .active) (hp : s.mc.pendingSleep = .none) {o : AttemptOutcome}
    (h : (s.handOver o).mc.mode = .active) : s.drowsy.handOver o = (s.handOver o).drowsy := by
  cases hl : s.arb.latch with
  | none => simp only [handOver, hl, show s.drowsy.arb.latch = none from hl]
  | some a =>
    have howner : s.drowsy.unlatched.ownerOutcome a o = (s.unlatched.ownerOutcome a o).drowsy :=
      ownerOutcome_drowsy (s := s.unlatched) hp a o
    have hactive : (s.unlatched.ownerOutcome a o).mc.mode = .active := by rw [ownerOutcome_mc]; exact hm
    rw [handOver_latched hl] at h ⊢
    rw [handOver_latched (s := s.drowsy) hl, howner]
    exact outcomeReports_drowsy hactive h

/-! ### The events that end an attempt (R31 to R34) -/

/-- Where an operation leaves a station ACTIVE with no attempt latched, with a quiet sleep waiting it leaves the station asleep from
there (R170, R171). -/
def QuietEnters (s : State) (f : State → State) : Prop :=
  (f s).arb.latch = none → (f s).mc.mode = .active → f s.drowsy = (f s).drowsy.enterSleep .command

/-- The end of an attempt after which no sleep of the announcer has been entered. -/
theorem endAttempt_stays {o : AttemptOutcome} (hp : s.mc.pendingSleep = .none) (h : (s.endAttempt o).mc.mode = .active) :
    ¬ (s.announcing = true ∧ o = .sent ∧ (s.handOver o).mc.mode = .active) ∧ s.endAttempt o = s.handOver o := by
  have hannounced : ¬ (s.announcing = true ∧ o = .sent ∧ (s.handOver o).mc.mode = .active) := fun hsent => by
    rw [endAttempt, if_pos hsent, (enterSleep_spec _ _).mc] at h
    cases h
  have hawake : (s.handOver o).mc.pendingSleep ≠ .quiet := by
    cases hl : s.arb.latch with
    | none => simp only [handOver, hl, hp]; nofun
    | some a =>
      rw [handOver_latched hl]
      exact outcomeReports_awake (by rw [ownerOutcome_mc]; exact hp ▸ nofun) o
  exact ⟨hannounced, (if_neg hannounced).trans (if_neg fun ⟨_, hquiet, _⟩ => hawake hquiet)⟩

theorem endAttempt_quietEnters (hm : s.mc.mode = .active) (hp : s.mc.pendingSleep = .none) (o : AttemptOutcome) :
    s.QuietEnters (·.endAttempt o) := by
  intro hlatch hactive
  dsimp only at hlatch hactive ⊢
  obtain ⟨hannounced, hends⟩ := endAttempt_stays hp hactive
  rw [hends] at hlatch hactive ⊢
  have hdrowsy : s.drowsy.handOver o = (s.handOver o).drowsy := handOver_drowsy hm hp hactive
  have hsilent : ¬ (s.drowsy.announcing = true ∧ o = .sent ∧ (s.handOver o).drowsy.mc.mode = .active) := hannounced
  have hquiet : (s.handOver o).drowsy.finishQuiet = (s.handOver o).drowsy.enterSleep .command :=
    if_pos ⟨hactive, rfl, hlatch⟩
  rw [endAttempt, hdrowsy, ← hquiet]
  exact if_neg hsilent

namespace QuietEnters

variable {f : State → State}

/-- An event that is an operation on the part as the event has left it so far. -/
theorem after {t : State} {h : State → State} (ht : t.QuietEnters h) (hf : f s = h t) (hd : f s.drowsy = h t.drowsy) :
    s.QuietEnters f := by
  unfold QuietEnters
  rw [hf, hd]
  exact ht

/-- An event that ends the attempt on a line record of its own. -/
theorem of_ends {g : LineRecord → LineRecord} {o : AttemptOutcome} (hm : s.mc.mode = .active) (hp : s.mc.pendingSleep = .none)
    (hf : f s = (s.modLine g).endAttempt o) (hd : f s.drowsy = (s.drowsy.modLine g).endAttempt o) : s.QuietEnters f :=
  (endAttempt_quietEnters (s := s.modLine g) hm hp o).after hf hd

/-- An event that leaves an attempt latched. -/
theorem of_keeps {t : State} (hf : f s = t) (hl : t.arb.latch ≠ none) : s.QuietEnters f := fun h => absurd (hf ▸ h) hl

/-- An event that takes the station off the line. -/
theorem of_leaves (h : (f s).mc.mode ≠ .active) : s.QuietEnters f := fun _ hactive => absurd hactive h

end QuietEnters

theorem setPhase_latch_ne (hl : s.arb.latch ≠ none) (p : AttemptPhase) : (s.setPhase p).arb.latch ≠ none := by
  simpa [setPhase] using hl

theorem closeWindow_heard (hw : s.inWindow = true) (ha : s.awaitsAnswer = true) {b : Byte} {a : Answer}
    (hb : Answer.ofByte b = some a) :
    s.closeWindow (some b) =
      (s.destinationHeard.modLine fun l => l.closeWindow (idleAtClose (some b))).endAttempt (.answered a) := by
  simp [closeWindow, hw, ha, hb, takeAnswer]

/-- The end NONE of an attempt whose answer is damaged, after one receive error (R18, R33). -/
theorem reportRise_endAttempt_quietEnters (hm : s.mc.mode = .active) (hp : s.mc.pendingSleep = .none) :
    s.QuietEnters fun t => (t.reportRise 1).endAttempt .none := by
  have hlistens : s.mc.mode.listens = true := (Mode.listens_iff _).2 (.inr hm)
  obtain hlow | hhigh := Nat.lt_or_ge (min 255 (s.mc.lineErrors + 1)) 128
  · have hrise := reportRise_low hlistens hlow
    have hdrowsy : s.drowsy.reportRise 1 = (s.reportRise 1).drowsy := reportRise_drowsy hm (by rw [hrise]; exact hm)
    rw [hrise] at hdrowsy
    exact (endAttempt_quietEnters (s := s.withErrors (min 255 (s.mc.lineErrors + 1))) hm hp .none).after
      (congrArg (endAttempt · .none) hrise) (congrArg (endAttempt · .none) hdrowsy)
  · obtain ⟨hlatch, hmode⟩ := escalate_leaves (s.withErrors (min 255 (s.mc.lineErrors + 1)))
    refine .of_leaves ?_
    rw [reportRise_high hlistens hhigh, endAttempt_off hlatch hmode]
    exact hmode

section

variable (hm : s.mc.mode = .active) (hp : s.mc.pendingSleep = .none) (hl : s.arb.latch ≠ none)
include hm hp hl

theorem loseArbitration_quietEnters : s.QuietEnters loseArbitration := by
  by_cases h : s.mc.mode = .active ∧ s.phase? = some .arbitration
  · exact .of_ends (g := id) hm hp (if_pos h) (if_pos h)
  · exact .of_keeps (if_neg h) hl

theorem readBackFault_quietEnters (fault : ReadBackFault) : s.QuietEnters (·.readBackFault fault) := by
  cases fault with
  | dominantReadRecessive =>
    by_cases h : s.sendingFrame = true
    · exact .of_ends hm hp (readBackFault_dominant h) (readBackFault_dominant (s := s.drowsy) h)
    · exact .of_keeps (if_neg h) hl
  | recessiveReadDominant =>
    by_cases h : s.sendingFrame = true
    · exact .of_keeps (readBackFault_recessive h) (setPhase_latch_ne hl _)
    · exact .of_keeps (if_neg h) hl
  | runEnded =>
    by_cases h : s.checking = true
    · exact .of_ends hm hp (readBackFault_runEnded h) (readBackFault_runEnded (s := s.drowsy) h)
    · exact .of_keeps (if_neg h) hl

theorem collide_quietEnters : s.QuietEnters collide := by
  by_cases h : s.sendingFrame = true ∨ s.checking = true
  · exact .of_ends hm hp (if_pos h) (if_pos h)
  · exact .of_keeps (if_neg h) hl

theorem ownFrameDone_quietEnters : s.QuietEnters ownFrameDone := by
  cases hi : s.image? with
  | none => exact .of_keeps (by rw [ownFrameDone, hi]) hl
  | some f =>
    have hi' : s.drowsy.image? = some f := hi
    by_cases h : s.sendingFrame = true
    · by_cases hk : f.kind.broadcast = true
      · refine .of_ends hm hp (g := fun l => l.frameDone f f.bytes .sender) (o := .sent) ?_ ?_
        · simp only [ownFrameDone, hi, if_pos h, if_pos hk]
        · simp only [ownFrameDone, hi', if_pos hk]
          exact if_pos h
      · refine .of_keeps (t := (s.modLine fun l => l.frameDone f f.bytes .sender).setPhase .answer) ?_ (setPhase_latch_ne hl _)
        simp only [ownFrameDone, hi, if_pos h, if_neg hk]
    · exact .of_keeps (by simp only [ownFrameDone, hi, if_neg h]) hl

theorem pulseDone_quietEnters (held : Bool) : s.QuietEnters (·.pulseDone held) := by
  by_cases h : s.mc.mode = .active ∧ s.phase? = some .pulse
  · exact .of_ends hm hp (if_pos h) (if_pos h)
  · exact .of_keeps (if_neg h) hl

theorem endByRun_quietEnters : s.QuietEnters endByRun := by
  cases h : s.phase? with
  | none => exact .of_keeps (by rw [endByRun, h]) hl
  | some p =>
    have h' : s.drowsy.phase? = some p := h
    cases p with
    | arbitration | sending | checking =>
      exact .of_ends (g := id) (o := .wakeCollision) hm hp (by rw [endByRun, h]; rfl) (by rw [endByRun, h']; rfl)
    | answer => exact .of_ends (g := id) (o := .none) hm hp (by rw [endByRun, h]; rfl) (by rw [endByRun, h']; rfl)
    | waiting | pulse => exact .of_keeps (by rw [endByRun, h]) hl

theorem halfMs_quietEnters : s.QuietEnters halfMs :=
  have hlistens : s.mc.mode.listens = true := (Mode.listens_iff _).2 (.inr hm)
  (endByRun_quietEnters (s := s.modLine LineRecord.halfMs) hm hp hl).after (if_pos hlistens) (if_pos hlistens)

theorem breakWindow_quietEnters : s.QuietEnters breakWindow := by
  by_cases hw : s.inWindow = true
  · by_cases ha : s.awaitsAnswer = true
    · exact .of_ends hm hp (breakWindow_sender hw ha) (breakWindow_sender (s := s.drowsy) hw ha)
    · exact .of_keeps (breakWindow_follower hw (Bool.eq_false_iff.2 ha)) hl
  · exact .of_keeps (if_neg hw) hl

theorem closeWindow_quietEnters (read : Option Byte) : s.QuietEnters (·.closeWindow read) := by
  by_cases hw : s.inWindow = true
  · by_cases ha : s.awaitsAnswer = true
    · cases read with
      | none => exact .of_ends hm hp (closeWindow_sender hw ha rfl) (closeWindow_sender (s := s.drowsy) hw ha rfl)
      | some b =>
        cases hb : Answer.ofByte b with
        | none =>
          have hdamaged (t : State) (hw : t.inWindow = true) (ha : t.awaitsAnswer = true) :
              t.closeWindow (some b) = ((t.modLine fun l => l.closeWindow (idleAfter b)).reportRise 1).endAttempt .none :=
            (closeWindow_sender (read := some b) hw ha hb).trans (takeAnswer_damaged _ hb)
          exact (reportRise_endAttempt_quietEnters (s := s.modLine fun l => l.closeWindow (idleAfter b)) hm hp).after
            (hdamaged s hw ha) (hdamaged s.drowsy hw ha)
        | some a =>
          have hheard : s.drowsy.destinationHeard = s.destinationHeard.drowsy := s.destinationHeard_modMc _
          have hmc := (s.heard_attended b).mc
          refine (endAttempt_quietEnters (hmc ▸ hm) (hmc ▸ hp) (.answered a)).after (closeWindow_heard hw ha hb) ?_
          refine (closeWindow_heard (s := s.drowsy) hw ha hb).trans ?_
          rw [hheard]
          rfl
    · exact .of_keeps (closeWindow_follower hw (Bool.eq_false_iff.2 ha) read) hl
  · exact .of_keeps (if_neg hw) hl

end

/-! ### The entry to SLEEP with no attempt latched (R171) -/

theorem enterSleep_unlatched (h : s.arb.latch = none) (cause : EntryCause) :
    s.enterSleep cause =
      { s with
        mc := { s.mc with mode := .sleep, entryCause := cause, pendingSleep := .none }
        arb := { s.arb with beaconOffer := false, announceOffer := false }
        beaconTimer := none
        contexts := s.contexts.mapIdx fun _ x => { x with acceptance := none }
        line := s.line.doze, wake := s.wake.turnOn, notice := s.notice.modeSet } := by
  have hnone : s.dropPendingSleep.stopBeacon.abandonLatch = s.dropPendingSleep.stopBeacon := by
    simp only [abandonLatch, stopBeacon_arb, dropPendingSleep_arb, h]
  rw [enterSleep, hnone]
  rfl

end State

/-! ### The commands -/

/-- That a quiet sleep has waited is none of what an entry to SLEEP says. -/
theorem FallenAsleep.of_drowsy {s t : State} {k : EntryCause} (h : FallenAsleep s.drowsy t k) : FallenAsleep s t k :=
  { h with }

/-- Nor is what the host port holds. -/
theorem FallenAsleep.of_withPort {s t : State} {p q : HostPort} {k : EntryCause} (h : FallenAsleep { s with port := p } t k) :
    FallenAsleep s { t with port := q } k :=
  { h with }

/-- Each event that can end the latched attempt is an operation after which a quiet sleep that has waited is entered (R170). -/
theorem exec_quietEnters {i : Instr}
    (hi : i = .arbitrationLost ∨ i = .wakeCollision ∨ i = .ownFrameEnd ∨ i = .windowOutOfPlace ∨ i = .dominantRunHalfMs
      ∨ (∃ held, i = .pulseSent held) ∨ (∃ read, i = .windowClose read) ∨ (∃ fault, i = .bitError fault)) :
    ∃ f, (∀ s, exec i s = .next (f s)) ∧
      ∀ s : State, s.mc.mode = .active → s.mc.pendingSleep = .none → s.arb.latch ≠ none → s.QuietEnters f := by
  obtain rfl | rfl | rfl | rfl | rfl | ⟨held, rfl⟩ | ⟨read, rfl⟩ | ⟨fault, rfl⟩ := hi
  · exact ⟨_, fun _ => rfl, fun _ => State.loseArbitration_quietEnters⟩
  · exact ⟨_, fun _ => rfl, fun _ => State.collide_quietEnters⟩
  · exact ⟨_, fun _ => rfl, fun _ => State.ownFrameDone_quietEnters⟩
  · exact ⟨_, fun _ => rfl, fun _ => State.breakWindow_quietEnters⟩
  · exact ⟨_, fun _ => rfl, fun _ => State.halfMs_quietEnters⟩
  · exact ⟨_, fun _ => rfl, fun _ hm hp hl => State.pulseDone_quietEnters hm hp hl held⟩
  · exact ⟨_, fun _ => rfl, fun _ hm hp hl => State.closeWindow_quietEnters hm hp hl read⟩
  · exact ⟨_, fun _ => rfl, fun _ hm hp hl => State.readBackFault_quietEnters hm hp hl fault⟩

namespace State

variable {s : State} {arg : Byte}

theorem sleepCommand_outside (hm : s.mc.mode ≠ .active) : s.sleepCommand arg = s.refuse .wrongMode none := if_pos hm

theorem sleepCommand_unknown (hm : s.mc.mode = .active) (h0 : arg ≠ 0) (h1 : arg ≠ 1) :
    s.sleepCommand arg = s.refuse .badValue none :=
  (if_neg (not_not.2 hm)).trans (if_pos (by bv_omega))

theorem sleepCommand_pending (hm : s.mc.mode = .active) (harg : arg = 0 ∨ arg = 1) (hp : s.mc.pendingSleep ≠ .none) :
    s.sleepCommand arg = s.refuse .wrongState none :=
  ((if_neg (not_not.2 hm)).trans (if_neg (by bv_omega))).trans (if_pos hp)

theorem sleepCommand_announce (hm : s.mc.mode = .active) (hp : s.mc.pendingSleep = .none) :
    s.sleepCommand 1 =
      { s with mc := { s.mc with pendingSleep := .announce }, arb := { s.arb with announceOffer := true } } :=
  ((if_neg (not_not.2 hm)).trans (if_neg (by decide))).trans ((if_neg (not_not.2 hp)).trans (if_pos rfl))

theorem sleepCommand_quiet (hm : s.mc.mode = .active) (hp : s.mc.pendingSleep = .none) :
    s.sleepCommand 0 = s.drowsy.finishQuiet :=
  ((if_neg (not_not.2 hm)).trans (if_neg (by decide))).trans ((if_neg (not_not.2 hp)).trans (if_neg (by decide)))

theorem wakeCommand_active (hm : s.mc.mode = .active) :
    s.wakeCommand = { s with arb := { s.arb with wakeRequest := true } } := by
  rw [wakeCommand, hm]
  rfl

theorem wakeCommand_cleared (hm : s.mc.mode = .sleep) (hf : s.faultCleared = true) : s.wakeCommand = s.enterRestart .wake := by
  rw [wakeCommand, hm]
  exact if_pos hf

theorem wakeCommand_present (hm : s.mc.mode = .sleep) (hf : s.faultCleared = false) :
    s.wakeCommand = s.refuse .faultPresent none := by
  rw [wakeCommand, hm]
  exact if_neg (Bool.eq_false_iff.1 hf)

theorem wakeCommand_elsewhere (hm : s.mc.mode = .setup ∨ s.mc.mode = .listen ∨ s.mc.mode = .restart ∨ s.mc.mode = .safe) :
    s.wakeCommand = s.refuse .wrongMode none := by
  obtain hm | hm | hm | hm := hm <;> rw [wakeCommand, hm]

end State

/-- Settles O10: the command by the first of its tests that applies; the sleep that waits by `exec_quietEnters`. -/
theorem sleepCommandTakenOrRefused : Obligations.SleepCommandTakenOrRefused := by
  refine ⟨fun s arg hopen => ?command, fun s u i hm hq hl hi hrun hlatch hactive => ?waited⟩
  case command =>
    have hrefused {code : RefusalCode} (h : s.commanding.sleepCommand arg = s.commanding.refuse code none) :
        exec (.sleep arg) s = .next (s.refusedBy code none) := congrArg Host.Outcome.next (State.control_refuses hopen h)
    have htaken {t : State} (h : s.commanding.sleepCommand arg = t) (hport : t.port = s.commanding.port) :
        exec (.sleep arg) s = .next { t with port := s.port.taken } := by
      subst h
      exact congrArg Host.Outcome.next (State.control_takes hopen hport)
    refine ⟨fun hm => hrefused (State.sleepCommand_outside hm), fun hm h0 h1 => hrefused (State.sleepCommand_unknown hm h0 h1),
      fun hm harg hp => hrefused (State.sleepCommand_pending hm harg hp), fun hm harg hp => ?announce,
      fun hm harg hp hl => ?waits, fun hm harg hp hl => ?atOnce⟩
    all_goals subst harg
    case announce => exact htaken (State.sleepCommand_announce (s := s.commanding) hm hp) rfl
    case waits =>
      have hwaits : s.commanding.drowsy.finishQuiet = s.commanding.drowsy := if_neg fun ⟨_, _, h⟩ => hl h
      exact htaken ((State.sleepCommand_quiet (s := s.commanding) hm hp).trans hwaits) rfl
    case atOnce =>
      have hsleeps : s.commanding.drowsy.finishQuiet = s.commanding.drowsy.enterSleep .command := if_pos ⟨hm, rfl, hl⟩
      have hspec : FallenAsleep s { s.commanding.drowsy.enterSleep .command with port := s.port.taken } .command :=
        .of_withPort (.of_drowsy (s.commanding.drowsy.enterSleep_spec .command))
      have hnone : ∀ c, s.ownsLatch c = false := fun c => by rw [State.ownsLatch, hl]
      have hentry := State.enterSleep_unlatched (s := s.commanding.drowsy) hl .command
      refine ⟨_, htaken ((State.sleepCommand_quiet (s := s.commanding) hm hp).trans hsleeps) (State.enterSleep_port _ _), hspec,
        rfl, fun c => hspec.contexts c (hnone c), ?_, ?_, ?_⟩
      all_goals
        rw [hentry]
        rfl
  case waited =>
    obtain ⟨f, hexec, henters⟩ := exec_quietEnters hi
    have hu := Host.Outcome.next.inj ((hexec _).symm.trans hrun)
    have henter := henters { s with mc := { s.mc with pendingSleep := .none } } hm rfl hl
    rw [State.QuietEnters, State.drowsy_of_quiet hq, hu] at henter
    have hsleeps : f s = u.drowsy.enterSleep .command := henter hlatch hactive
    have hentry := State.enterSleep_unlatched (s := u.drowsy) hlatch .command
    refine ⟨_, (hexec s).trans (congrArg _ hsleeps), .of_drowsy (State.enterSleep_spec _ .command), ?_, ?_, ?_⟩
    all_goals
      rw [hentry]
      rfl

/-- Settles O11: by the mode; in SLEEP the wake event taken is the entry to RESTART, which leaves the host port. -/
theorem wakeCommandByMode : Obligations.WakeCommandByMode := by
  intro s hopen
  refine ⟨fun hm => ?active, fun hm hf => ?woken, fun hm hf => ?present, fun hm => ?elsewhere⟩
  case active =>
    have hwake := State.wakeCommand_active (s := s.commanding) hm
    refine congrArg Host.Outcome.next ((State.control_takes hopen (by rw [hwake])).trans ?_)
    rw [hwake]
    rfl
  case woken =>
    have hwake : s.commanding.wakeCommand = s.commanding.enterRestart .wake := State.wakeCommand_cleared (s := s.commanding) hm hf
    have htakes : s.control State.wakeCommand = { s.commanding.enterRestart .wake with port := s.port.taken } := by
      rw [State.control_takes hopen (by rw [hwake, State.enterRestart_port]), hwake]
    exact ⟨_, congrArg Host.Outcome.next htakes, .of_withPort (s.commanding.enterRestart_spec .wake), rfl⟩
  case present =>
    exact congrArg Host.Outcome.next (State.control_refuses hopen (State.wakeCommand_present (s := s.commanding) hm hf))
  case elsewhere =>
    exact congrArg Host.Outcome.next (State.control_refuses hopen (State.wakeCommand_elsewhere (s := s.commanding) hm))

end Sys2Proof.Machine

/-! PROOFS. Register writes that are refused or ignored (R145, R178): the branch of the register window that each address takes. -/

namespace Sys2Proof.Machine

namespace State

variable {s : State} {addr : Word}

/-- A byte of the channel records is written to the record that holds its address (R40, R178). -/
theorem writeRegister_record (h1 : 0x200 ≤ addr.toNat) (h2 : addr.toNat ≤ 0x27F) (v : Byte) :
    s.writeRegister addr v = s.writeChannelByte (recordOf addr) (addr.toNat % 8) v := by
  simp only [writeRegister]
  rw [if_neg (by omega), if_neg (by omega), if_neg (by omega), if_neg (by omega), if_neg (by omega), if_neg (by omega),
    if_pos ⟨h1, h2⟩]
  rfl

/-- A read-only register and an address in no register ignore a write (R178). -/
theorem writeRegister_ignored
    (h : (0x00A < addr.toNat ∧ addr.toNat < 0x030) ∨ addr.toNat = 0x033 ∨ (0x037 < addr.toNat ∧ addr.toNat < 0x040)
      ∨ (0x04F < addr.toNat ∧ addr.toNat < 0x200) ∨ 0x27F < addr.toNat) (v : Byte) :
    s.writeRegister addr v = s := by
  simp only [writeRegister]
  rw [if_neg (by omega), if_neg (by omega), if_neg (by omega), if_neg (by omega), if_neg (by omega), if_neg (by omega),
    if_neg (by omega)]

/-- A restart limit of 0 or 15 is refused (R145). -/
theorem writeRegister_restartLimit (hm : s.mc.mode = .setup) (haddr : addr.toNat = 8) {v : Byte}
    (hv : v.extractLsb' 0 4 = 0 ∨ v.extractLsb' 0 4 = 15) : s.writeRegister addr v = s.refuse .badValue none := by
  simp only [writeRegister]
  rw [if_pos (by omega), haddr]
  exact (if_neg (not_not_intro hm)).trans (if_pos hv)

end State

/-- Settles O22: by the branch of the window that holds the address, and its first test. -/
theorem registerWritesRefusedOrIgnored : Obligations.RegisterWritesRefusedOrIgnored := by
  intro s addr v hopen
  rw [State.exec_registerWrite hopen]
  refine ⟨fun hm _ h2 => ?station, fun c hm h1 hc => ?channel, fun hm haddr hv => ?limit, fun h => ?ignored⟩
  case station =>
    have hstation : s.accessed.writeRegister addr v = s.accessed.writeStationByte addr.toNat v := if_pos h2
    rw [hstation, State.writeStationByte_frozen hm]
  case channel =>
    have hrecord : recordOf addr = c := by rw [recordOf, hc, Fin.ofNat_val_eq_self]
    rw [State.writeRegister_record h1 (by omega), hrecord]
    exact congrArg Host.Outcome.next (if_pos hm)
  case limit => exact congrArg Host.Outcome.next (State.writeRegister_restartLimit (s := s.accessed) hm haddr hv)
  case ignored => rw [State.writeRegister_ignored h]

end Sys2Proof.Machine

/-! PROOFS. The Notice Unit (R183): what the NOTICE output says, and who keeps the enables. -/

namespace Sys2Proof.Machine

theorem StationFlags.enabled_iff (f e : StationFlags) :
    f.enabled e = true ↔
      (f.mode = true ∧ e.mode = true) ∨ (f.peers = true ∧ e.peers = true) ∨ (f.refused = true ∧ e.refused = true)
        ∨ (f.warn = true ∧ e.warn = true) := by
  simp only [enabled, Bool.or_eq_true, Bool.and_eq_true, or_assoc]

theorem ChanFlags.enabled_iff (f e : ChanFlags) :
    f.enabled e = true ↔
      (f.done = true ∧ e.done = true) ∨ (f.halted = true ∧ e.halted = true) ∨ (f.drained = true ∧ e.drained = true)
        ∨ (f.drop = true ∧ e.drop = true) := by
  simp only [enabled, Bool.or_eq_true, Bool.and_eq_true, or_assoc]

/-- NOTICE is low exactly when the master enable is set with an enabled flag of the station or of some channel (R183). -/
theorem NoticeUnit.low_iff (n : NoticeUnit) :
    n.low = true ↔
      n.master = true
        ∧ (n.station.enabled n.stationEnables = true ∨ ∃ c, (n.channels.get c).enabled n.channelEnables = true) := by
  simp [low, chanList]

/-- Bits 4 and 3 of the status byte: NOTICE-pending and last-refused (R177, R184). -/
theorem statusBits (m : BitVec 3) (pending refused : Bool) :
    (m ++ bit pending ++ bit refused ++ 0#3).getLsbD 4 = pending
      ∧ (m ++ bit pending ++ bit refused ++ 0#3).getLsbD 3 = refused := by
  revert m pending refused
  decide

namespace State

theorem statusByte_noticePending (s : State) : s.statusByte.getLsbD 4 = s.noticeLow :=
  (statusBits s.mc.mode.code s.notice.low s.port.lastRefused).1

theorem statusByte_lastRefused (s : State) : s.statusByte.getLsbD 3 = s.port.lastRefused :=
  (statusBits s.mc.mode.code s.notice.low s.port.lastRefused).2

end State

/-- SOFT_RESET keeps the enables, taken or not (R164, R183). -/
theorem exec_softReset_enables {s t : State} (h : exec .softReset s = .next t) :
    t.notice.stationEnables = s.notice.stationEnables ∧ t.notice.channelEnables = s.notice.channelEnables
      ∧ t.notice.master = s.notice.master := by
  obtain rfl : s.control State.softReset = t := Host.Outcome.next.inj h
  cases hopen : s.hostOpen with
  | true =>
    rw [State.control_open hopen]
    exact ⟨rfl, rfl, rfl⟩
  | false =>
    rw [State.control_shut hopen]
    exact ⟨rfl, rfl, rfl⟩

/-- Settles O23: the two enable registers, the resets, and `NoticeUnit.low_iff` flag by flag. -/
theorem noticeFollowsTheEnabledFlags : Obligations.NoticeFollowsTheEnabledFlags := by
  refine ⟨fun s v hopen => ⟨State.exec_registerWrite hopen 0x031 v, State.exec_registerWrite hopen 0x032 v⟩,
    fun s t hrun => ?reset, fun s t hrun => exec_softReset_enables hrun, fun s => ?low, fun s m => rfl,
    State.statusByte_noticePending⟩
  case reset =>
    obtain rfl : s.hardReset = t := Host.Outcome.next.inj hrun
    exact ⟨rfl, rfl, rfl⟩
  case low =>
    rw [State.noticeLow, NoticeUnit.low_iff]
    simp only [StationFlags.enabled_iff, ChanFlags.enabled_iff, or_assoc]

end Sys2Proof.Machine

/-! PROOFS. Notice flags and changed marks cleared by ones (R139, R182), with the release that a DONE flag brings (R73). -/

namespace Sys2Proof.Machine

namespace State

/-- The release of a sending channel in HOLDING: it runs, fetches with each end of a fetch, and looks at its offer (R62, R73). -/
theorem release_gives {s : State} {c : ChanId} (h : (s.ctx c).state = .holding) (hk : (s.cfg c).kind.sends = true) :
    ∃ u, FetchGives s u c { s.ctx c with state := .running } ∧ s.release c = (s.withRing u c).look c := by
  let running := s.modCtx c fun x => { x with state := .running }
  have hgives := fetch_gives running c
  rw [modCtx_ctx_same] at hgives
  refine ⟨running.fetch c, hgives.congr ⟨rfl, rfl, rfl⟩ ⟨rfl, rfl, rfl⟩ rfl, ?_⟩
  rw [release_sending h hk]
  exact ((Ringed.modCtx s c _).trans (Ringed.fetch running c)).look

/-- The part with a byte access begun and flags of a channel cleared by ones, a release apart (R182). -/
def flagsCleared (s : State) (c : ChanId) (m : Byte) : State := s.accessed.modChanFlags c fun f => f.clearBits m

theorem exec_clearStationFlags {s : State} (h : s.hostOpen = true) (m : Byte) :
    exec (.clearNoticeFlags .station m) s = .next (s.accessed.clearStationFlags m) :=
  congrArg Host.Outcome.next (access_open h _)

theorem exec_clearChannelFlags {s : State} (h : s.hostOpen = true) (c : ChanId) (m : Byte) :
    exec (.clearNoticeFlags (.channel c) m) s =
      .next (if m.getLsbD 0 then (s.flagsCleared c m).release c else s.flagsCleared c m) :=
  congrArg Host.Outcome.next (access_open h _)

theorem exec_clearChangedMarks {s : State} (h : s.hostOpen = true) (i : Fin 4) (m : Byte) :
    exec (.clearChangedMarks i m) s = .next (s.accessed.clearMarks i.val m) :=
  congrArg Host.Outcome.next (access_open h _)

/-- A changed mark stays set unless a one stands at its place (R139, R184). -/
theorem clearMarks_mark (s : State) (i : Nat) (m : Byte) (a : Station) :
    (s.clearMarks i m).notice.marks.get a = true ↔
      s.notice.marks.get a = true ∧ ¬ (a.val / 8 = i ∧ m.getLsbD (a.val % 8) = true) := by
  simp [clearMarks, imp_iff_not_or]

end State

/-- Settles O26: by the register, and for a channel by whether the byte clears the DONE flag of a channel in HOLDING. -/
theorem onesClearFlagsAndMarks : Obligations.OnesClearFlagsAndMarks := by
  refine ⟨fun s m hopen => State.exec_clearStationFlags hopen m, ?channel, fun s i m hopen => ?marks⟩
  case marks => exact ⟨_, State.exec_clearChangedMarks hopen i m, s.accessed.clearMarks_mark i.val m, rfl⟩
  case channel =>
    intro s c m hopen cleared
    rw [State.exec_clearChannelFlags hopen]
    refine ⟨fun h => ?kept, fun hdone h => ?released⟩
    case kept =>
      by_cases hdone : m.getLsbD 0 = true
      · have hstate : (s.ctx c).state ≠ .holding := h.resolve_left (by simp [hdone])
        rw [if_pos hdone, State.release_idle (s := s.flagsCleared c m) hstate]
        rfl
      · rw [if_neg hdone]
        rfl
    case released =>
      rw [if_pos hdone]
      refine ⟨fun hk => ?taking, fun hk => ?sending⟩
      case taking => exact congrArg Host.Outcome.next (State.release_taking (s := s.flagsCleared c m) h hk)
      case sending =>
        obtain ⟨u, hgives, hrelease⟩ := State.release_gives (s := s.flagsCleared c m) h hk
        exact ⟨u, hgives, congrArg Host.Outcome.next hrelease⟩

end Sys2Proof.Machine

/-! PROOFS. The end of a transaction, and what it shifts out on MISO (R177 to R179): the moment at which each byte is taken. -/

namespace Sys2Proof.Machine

/-! ### The fields of two and three bytes (R178, R184) -/

/-- The register fields of more than one byte, by first address and length: the timers, the ages of the presence entries, and the counts
and the chain sum of each context (R184). -/
def wideFields : List (Nat × Nat) :=
  [(0x016, 2), (0x019, 3), (0x025, 2)] ++ ((List.range 31).map fun n => (0x101 + 8 * n, 2))
    ++ ((List.range 16).flatMap fun c =>
        [(0x307 + 32 * c, 3), (0x30A + 32 * c, 3), (0x30D + 32 * c, 2), (0x30F + 32 * c, 2)])

/-- An address of a byte after the first of a wide field. -/
def LaterByte (a : Nat) : Prop := ∃ f ∈ wideFields, ∃ j, 1 ≤ j ∧ j < f.2 ∧ a = f.1 + j

/-- The low byte of an age. -/
theorem laterByte_age {a : Nat} (h1 : 0x100 ≤ a) (h2 : a < 0x1F8) (h : a % 8 = 2) : LaterByte a := by
  have hentry : (a - 0x100) / 8 ∈ List.range 31 := List.mem_range.2 (by omega)
  refine ⟨_, List.mem_append_left _ (List.mem_append_right _ (List.mem_map_of_mem hentry)), 1, le_rfl, Nat.one_lt_two, ?_⟩
  dsimp only
  omega

/-- A byte of a context, `j` places after the first byte of a wide field of it. -/
theorem laterByte_context {a j n : Nat} (h1 : 0x300 ≤ a) (h2 : a < 0x500) (hj : 1 ≤ j) (hn : j < n)
    (h : (a % 32 - j, n) ∈ [(7, 3), (10, 3), (13, 2), (15, 2)]) : LaterByte a := by
  have hrecord : (a - 0x300) / 32 ∈ List.range 16 := List.mem_range.2 (by omega)
  refine ⟨(a - j, n), List.mem_append_right _ (List.mem_flatMap.2 ⟨_, hrecord, ?_⟩), j, hj, hn, ?_⟩
  all_goals
    simp only [List.mem_cons, List.not_mem_nil, or_false, Prod.mk.injEq] at h ⊢
    omega

/-- Every byte of a wide field has the first address of that field as the start of its own. -/
theorem fieldStart_wide : ∀ f ∈ wideFields, ∀ j < f.2, fieldStart (f.1 + j) = f.1 := by decide +kernel

/-- A byte whose field starts before it is a later byte of a wide field. -/
theorem laterByte_of_fieldStart_ne {a : Nat} (h : fieldStart a ≠ a) : LaterByte a := by
  unfold fieldStart at h
  split at h
  case isTrue =>
    split at h
    · exact ⟨(0x016, 2), by decide, 1, by decide⟩
    · exact ⟨(0x019, 3), by decide, 1, by decide⟩
    · exact ⟨(0x019, 3), by decide, 2, by decide⟩
    · exact ⟨(0x025, 2), by decide, 1, by decide⟩
    · exact absurd rfl h
  case isFalse h1 =>
    split at h
    case isTrue h2 =>
      split at h
      case isTrue hage => exact laterByte_age (Nat.le_of_not_lt h1) h2 hage
      case isFalse => exact absurd rfl h
    case isFalse =>
      split at h
      case isFalse => exact absurd rfl h
      case isTrue hin =>
        obtain ⟨hlow, hhigh⟩ := hin
        split at h
        case h_1 hi | h_2 hi => exact laterByte_context (j := 1) (n := 3) hlow hhigh (by decide) (by decide) (by rw [hi]; decide)
        case h_3 hi | h_4 hi => exact laterByte_context (j := 1) (n := 2) hlow hhigh (by decide) (by decide) (by rw [hi]; decide)
        case h_5 hi | h_6 hi => exact laterByte_context (j := 2) (n := 3) hlow hhigh (by decide) (by decide) (by rw [hi]; decide)
        case h_7 => exact absurd rfl h

/-! ### The moment of a data byte (R178; log entry 38) -/

section

variable {addr : Word} {k : Nat}

/-- A byte of a wide field is taken with the field's first byte, where the read includes that byte. -/
theorem takenAt_wide {f : Nat × Nat} {j : Nat} (hf : f ∈ wideFields) (hj : j < f.2)
    (ha : (addr + BitVec.ofNat 16 k).toNat = f.1 + j) (hk : j ≤ k) : takenAt addr k = k - j := by
  simp only [takenAt]
  rw [ha, fieldStart_wide f hf j hj, Nat.add_sub_cancel_left, if_pos hk]

/-- Any other byte is taken at its own moment. -/
theorem takenAt_own (h : ∀ f ∈ wideFields, ∀ j, 1 ≤ j → j ≤ k → j < f.2 → (addr + BitVec.ofNat 16 k).toNat ≠ f.1 + j) :
    takenAt addr k = k := by
  by_cases hstart : fieldStart (addr + BitVec.ofNat 16 k).toNat = (addr + BitVec.ofNat 16 k).toNat
  · simp only [takenAt]
    rw [hstart, Nat.sub_self, if_pos (Nat.zero_le k), Nat.sub_zero]
  · obtain ⟨f, hf, j, h1, hj, ha⟩ := laterByte_of_fieldStart_ne hstart
    have hbefore : ¬ j ≤ k := fun hk => h f hf j h1 hk hj ha
    simp only [takenAt]
    rw [ha, fieldStart_wide f hf j hj, Nat.add_sub_cancel_left, if_neg hbefore]

end

/-! ### MISO (R177 to R179) -/

section

variable {moment : Nat → State}

theorem misoByte_open (h : ∀ j, (moment j).hostOpen = true) (mosi : List Byte) (n : Nat) :
    misoByte mosi moment n = some (if n = 0 then (moment 0).statusByte else readData mosi moment n) :=
  if_neg (by simp [h])

/-- After the status byte MISO shifts out read data. -/
theorem misoByte_data (h : ∀ j, (moment j).hostOpen = true) (mosi : List Byte) {n : Nat} (hn : 1 ≤ n) :
    misoByte mosi moment n = some (readData mosi moment n) := by
  rw [misoByte_open h, if_neg (Nat.ne_of_gt hn)]

/-- Byte `k` of the data of a register read, after the access code and the address (R178). -/
theorem readData_register (moment : Nat → State) (hi lo : Byte) (rest : List Byte) (k : Nat) :
    readData (0x20 :: hi :: lo :: rest) moment (k + 3) =
      (moment (takenAt (wordOf hi lo) k + 3)).readRegister (wordOf hi lo + BitVec.ofNat 16 k) := by
  simp only [readData]
  exact if_neg (Nat.not_lt.2 (Nat.le_add_left 3 k))

/-- Byte `k` of the data of a buffer read, after the access code and the offset (R179). -/
theorem readData_buffer (moment : Nat → State) (hi lo : Byte) (rest : List Byte) (k : Nat) :
    readData (0x40 :: hi :: lo :: rest) moment (k + 3) =
      Memory.read (moment (k + 3)).ram (offsetOf (wordOf hi lo) + BitVec.ofNat 12 k) := by
  simp only [readData]
  exact if_neg (Nat.not_lt.2 (Nat.le_add_left 3 k))

/-- Byte `r` of slot `k` of a descriptor read, as the slot stood at the moment of its first byte (R179). -/
theorem readData_slot (moment : Nat → State) (index : Byte) (rest : List Byte) (k : Nat) {r : Nat} (hr : r < 8) :
    readData (0x60 :: index :: rest) moment (8 * k + r + 2) =
      ((moment (8 * k + 2)).slot (Fin.ofNat 64 (index.toNat + k))).bytes.getD r 0 := by
  have hplace : (8 * k + r) % 8 = r := by omega
  have hslot : (8 * k + r) / 8 = k := by omega
  have hfirst : 8 * k + r + 2 - r = 8 * k + 2 := by omega
  simp only [readData, Nat.add_sub_cancel, hplace, hslot, hfirst, slotOf_add]
  exact if_neg (Nat.not_lt.2 (Nat.le_add_left 2 _))

/-- While the access code and what it names are taken, and in a form without read data, MISO is 0x00 (R177). -/
theorem readData_none (moment : Nat → State) {access : Byte} (rest : List Byte) {n : Nat}
    (hword : access = 0x20 ∨ access = 0x40 → n < 3) (hindex : access = 0x60 → n < 2) :
    readData (access :: rest) moment n = 0x00 := by
  unfold readData
  split
  case h_1 => rfl
  case h_2 heq =>
    obtain ⟨rfl, rfl⟩ := List.cons.inj heq
    split
    case h_1 hcode => exact if_pos (hword (.inl (BitVec.eq_of_toNat_eq hcode)))
    case h_2 hcode => exact if_pos (hword (.inr (BitVec.eq_of_toNat_eq hcode)))
    case h_3 hcode => exact if_pos (hindex (BitVec.eq_of_toNat_eq hcode))
    case h_4 => rfl

end

/-- An access code that names no form gives no command but the end of its transaction (R177; log entry 37). -/
theorem transaction_unknown {access : Byte} (h : access ∉ ([0x20, 0x21, 0x40, 0x41, 0x60, 0x61, 0x80] : List Byte))
    (rest : List Byte) : transaction (access :: rest) = [.transactionEnd] := by
  have hcode {b : Byte} (hb : b ∈ ([0x20, 0x21, 0x40, 0x41, 0x60, 0x61, 0x80] : List Byte)) : access.toNat ≠ b.toNat :=
    fun he => h (BitVec.eq_of_toNat_eq he ▸ hb)
  simp only [transaction]
  split
  case h_1 | h_8 => rfl
  case h_2 he => exact absurd he (hcode (b := 0x21) (by decide))
  case h_3 he => exact absurd he (hcode (b := 0x40) (by decide))
  case h_4 he => exact absurd he (hcode (b := 0x41) (by decide))
  case h_5 he => exact absurd he (hcode (b := 0x60) (by decide))
  case h_6 he => exact absurd he (hcode (b := 0x61) (by decide))
  case h_7 he => exact absurd he (hcode (b := 0x80) (by decide))

theorem State.exec_transactionEnd {s : State} (h : s.hostOpen = true) :
    exec .transactionEnd s = .next (s.setTransfer .none).endTransaction :=
  congrArg Host.Outcome.next (State.atRise_open h _)

/-- Settles O29: a data byte of a register read by its moment (`takenAt_wide`, `takenAt_own`), any other byte by the form of its
transaction. -/
theorem transactionEndSetsLastRefused : Obligations.TransactionEndSetsLastRefused := by
  refine ⟨fun s hopen => ⟨State.exec_transactionEnd hopen, State.statusByte_lastRefused s⟩,
    fun access rest h => transaction_unknown h rest, fun mosi moment j n hj hshut => State.misoByte_shut hj hshut mosi,
    fun moment hopen => ⟨fun mosi => misoByte_open hopen mosi 0,
      fun hi lo rest k => ⟨fun f hf j hj ha hk => ?wide, fun h => ?own, ?buffer⟩,
      fun index rest k r hr => ?slot, fun access rest n hn hword hindex => ?none⟩⟩
  all_goals rw [misoByte_data hopen _ (by omega)]
  case wide =>
    have htaken : takenAt (wordOf hi lo) k = k - j := takenAt_wide hf hj ha hk
    rw [readData_register, htaken]
    rfl
  case own =>
    have htaken : takenAt (wordOf hi lo) k = k := takenAt_own h
    rw [readData_register, htaken]
    rfl
  case buffer =>
    rw [readData_buffer]
    rfl
  case slot => rw [readData_slot moment index rest k hr]
  case none => rw [readData_none moment rest hword hindex]

end Sys2Proof.Machine

/-! PROOFS. The step at the front of the queue, and the queue of commands (log entry 28) under every command: an operation of the
part leaves the commands that wait as they are. -/

namespace Sys2Proof.Machine

/-- Settles O1: a queue with a command at its front takes the second branch of `step`. -/
theorem stepRunsFrontCommand : Obligations.StepRunsFrontCommand := fun _ _ _ => rfl

namespace State

/-! ### Channel commands (R48 to R55) -/

@[simp] theorem startChannel_pending (s : State) (c : ChanId) : (s.startChannel c).pending = s.pending := by
  unfold startChannel
  split <;> simp

@[simp] theorem haltChannel_pending (s : State) (c : ChanId) : (s.haltChannel c).pending = s.pending := by
  unfold haltChannel
  split <;> simp

@[simp] theorem clearChannel_pending (s : State) (c : ChanId) : (s.clearChannel c).pending = s.pending := by
  unfold clearChannel clearSending clearTaking
  split <;> simp

@[simp] theorem kickChannel_pending (s : State) (c : ChanId) : (s.kickChannel c).pending = s.pending := by
  unfold kickChannel
  split <;> simp

/-! ### Station commands (R146, R161 to R165, R168, R175) -/

@[simp] theorem join_pending (s : State) : s.join.pending = s.pending := by
  unfold join
  split
  · rfl
  split
  · rfl
  split <;> rfl

@[simp] theorem wakeCommand_pending (s : State) : s.wakeCommand.pending = s.pending := by
  unfold wakeCommand
  repeat' split
  all_goals simp

@[simp] theorem resume_pending (s : State) : s.resume.pending = s.pending := by
  unfold resume
  repeat' split
  all_goals simp

@[simp] theorem clearLimp_pending (s : State) : s.clearLimp.pending = s.pending := by
  unfold clearLimp
  split <;> rfl

/-! ### What a transaction of the host writes (R178, R179, R182) -/

@[simp] theorem release_pending (s : State) (c : ChanId) : (s.release c).pending = s.pending := by
  unfold release
  dsimp only
  repeat' split
  all_goals simp

@[simp] theorem clearChannelFlags_pending (s : State) (c : ChanId) (mask : Byte) :
    (s.clearChannelFlags c mask).pending = s.pending := by
  unfold clearChannelFlags
  dsimp only
  split <;> simp

@[simp] theorem writeStationByte_pending (s : State) (addr : Nat) (v : Byte) :
    (s.writeStationByte addr v).pending = s.pending := by
  unfold writeStationByte setOwnAddress writeRestartLimit
  repeat' split
  all_goals simp

@[simp] theorem writeRegister_pending (s : State) (addr : Word) (v : Byte) :
    (s.writeRegister addr v).pending = s.pending := by
  unfold writeRegister
  dsimp only
  split
  · exact s.writeStationByte_pending _ v
  split
  · rfl
  split
  · rfl
  split
  · rfl
  split
  · rfl
  split
  · exact s.clearChannelFlags_pending _ v
  split
  · unfold writeChannelByte
    split <;> rfl
  · rfl

@[simp] theorem writeSlot_pending (s : State) (i : SlotId) (bytes : List Byte) :
    (s.writeSlot i bytes).pending = s.pending := by
  unfold writeSlot
  split <;> rfl

/-! ### Events of the line up to the deliveries of a frame (R4 to R15) -/

@[simp] theorem startBit_pending (s : State) : s.startBit.pending = s.pending := by
  unfold startBit
  split <;> rfl

@[simp] theorem gapComplete_pending (s : State) : s.gapComplete.pending = s.pending := by
  unfold gapComplete startWaiting
  repeat' split
  all_goals simp

@[simp] theorem resyncComplete_pending (s : State) : s.resyncComplete.pending = s.pending := by
  unfold resyncComplete
  repeat' split
  all_goals rfl

@[simp] theorem badHeader_pending (s : State) (h0 h1 h2 h3 : Byte) : (s.badHeader h0 h1 h2 h3).pending = s.pending := by
  unfold badHeader
  split <;> simp

@[simp] theorem badFraming_pending (s : State) (kind : FramingFault) : (s.badFraming kind).pending = s.pending := by
  unfold badFraming
  repeat' split
  all_goals simp

@[simp] theorem presenceHears_pending (s : State) (f : Frame) : (s.presenceHears f).pending = s.pending := by
  unfold presenceHears
  repeat' split
  all_goals simp

@[simp] theorem respond_pending (s : State) (f : Frame) : (s.respond f).pending = s.pending := s.decide_pending _ _

@[simp] theorem followAnnounce_pending (s : State) : s.followAnnounce.pending = s.pending := by
  unfold followAnnounce
  split <;> simp

@[simp] theorem deliver_pending (s : State) (f : Frame) : (s.deliver f).pending = s.pending := by
  unfold deliver
  dsimp only
  repeat' split
  all_goals simp

@[simp] theorem badCrc_pending (s : State) (f : Frame) (bytes : List Byte) : (s.badCrc f bytes).pending = s.pending := by
  simp [badCrc]

@[simp] theorem goodFrame_pending (s : State) (f : Frame) (bytes : List Byte) :
    (s.goodFrame f bytes).pending = s.pending := by
  unfold goodFrame
  dsimp only
  split <;> simp

@[simp] theorem receiveFrame_pending (s : State) (bytes : List Byte) : (s.receiveFrame bytes).pending = s.pending := by
  unfold receiveFrame
  repeat' split
  all_goals simp

/-! ### Response windows and clashes (R16 to R19) -/

@[simp] theorem endResponse_pending (s : State) (r : Response) : (s.endResponse r).pending = s.pending := by
  unfold endResponse
  dsimp only
  split <;> simp

@[simp] theorem responseSent_pending (s : State) : s.responseSent.pending = s.pending := by
  unfold responseSent
  split <;> simp

@[simp] theorem responseFaulted_pending (s : State) : s.responseFaulted.pending = s.pending := by
  unfold responseFaulted
  split <;> simp

@[simp] theorem destinationHeard_pending (s : State) : s.destinationHeard.pending = s.pending := by
  unfold destinationHeard
  repeat' split
  all_goals simp

@[simp] theorem takeAnswer_pending (s : State) (read : Option Byte) : (s.takeAnswer read).pending = s.pending := by
  unfold takeAnswer
  repeat' split
  all_goals simp

@[simp] theorem closeWindow_pending (s : State) (read : Option Byte) : (s.closeWindow read).pending = s.pending := by
  unfold closeWindow
  dsimp only
  repeat' split
  all_goals simp

@[simp] theorem breakWindow_pending (s : State) : s.breakWindow.pending = s.pending := by
  unfold breakWindow
  repeat' split
  all_goals simp

@[simp] theorem clashSeen_pending (s : State) : s.clashSeen.pending = s.pending := by
  unfold clashSeen
  split <;> simp

/-! ### Dominant runs (R20, R21) -/

@[simp] theorem halfMs_pending (s : State) : s.halfMs.pending = s.pending := by
  unfold halfMs endByRun
  repeat' split
  all_goals simp

@[simp] theorem countHeldError_pending (s : State) : s.countHeldError.pending = s.pending := by
  unfold countHeldError
  split <;> simp

@[simp] theorem pulseAtTable_pending (s : State) : s.pulseAtTable.pending = s.pending := by
  unfold pulseAtTable
  split <;> simp

@[simp] theorem pulseAtDetector_pending (s : State) : s.pulseAtDetector.pending = s.pending := by
  unfold pulseAtDetector
  split <;> simp

@[simp] theorem pulseHeard_pending (s : State) : s.pulseHeard.pending = s.pending := by
  unfold pulseHeard
  dsimp only
  repeat' split
  all_goals simp

@[simp] theorem stuckRun_pending (s : State) : s.stuckRun.pending = s.pending := by
  unfold stuckRun
  repeat' split
  all_goals simp

/-! ### Events of the station's own attempts (R26 to R34) -/

@[simp] theorem pickOffer_pending (s : State) (atOnce : Bool) : (s.pickOffer atOnce).pending = s.pending := by
  unfold pickOffer
  dsimp only
  repeat' split
  all_goals simp

@[simp] theorem loseArbitration_pending (s : State) : s.loseArbitration.pending = s.pending := by
  unfold loseArbitration
  split <;> simp

@[simp] theorem readBackFault_pending (s : State) (fault : ReadBackFault) : (s.readBackFault fault).pending = s.pending := by
  unfold readBackFault
  repeat' split
  all_goals simp

@[simp] theorem collide_pending (s : State) : s.collide.pending = s.pending := by
  unfold collide
  split <;> simp

@[simp] theorem ownFrameDone_pending (s : State) : s.ownFrameDone.pending = s.pending := by
  unfold ownFrameDone
  dsimp only
  repeat' split
  all_goals simp

@[simp] theorem pulseDone_pending (s : State) (held : Bool) : (s.pulseDone held).pending = s.pending := by
  unfold pulseDone
  split <;> simp

/-! ### Timers and the WAKE pin (R90, R92, R134, R136, R141, R148, R153, R159, R174) -/

@[simp] theorem backoffExpired_pending (s : State) (c : ChanId) : (s.backoffExpired c).pending = s.pending := by
  unfold backoffExpired
  split <;> simp

@[simp] theorem pacingExpired_pending (s : State) (c : ChanId) : (s.pacingExpired c).pending = s.pending := by
  unfold pacingExpired
  split <;> simp

@[simp] theorem beaconExpired_pending (s : State) : s.beaconExpired.pending = s.pending := by
  unfold beaconExpired
  split <;> rfl

@[simp] theorem settleExpired_pending (s : State) : s.settleExpired.pending = s.pending := by
  unfold settleExpired
  split <;> simp

@[simp] theorem presenceTimedOut_pending (s : State) (a : Station) : (s.presenceTimedOut a).pending = s.pending := by
  unfold presenceTimedOut
  split <;> simp

@[simp] theorem listenExpired_pending (s : State) : s.listenExpired.pending = s.pending := by
  unfold listenExpired
  split <;> simp

@[simp] theorem restartExpired_pending (s : State) : s.restartExpired.pending = s.pending := by
  unfold restartExpired
  split <;> simp

@[simp] theorem safeExpired_pending (s : State) : s.safeExpired.pending = s.pending := by
  unfold safeExpired
  split <;> simp

@[simp] theorem pinShows_pending (s : State) (pin : PinEvent) : (s.pinShows pin).pending = s.pending := by
  cases pin with
  | moves level => rfl
  | held level =>
    unfold pinShows pinAccepted
    dsimp only
    repeat' split
    all_goals simp

end State

/-- An operation that leaves the commands waiting in the queue. -/
def KeepsQueue (f : State → State) : Prop := ∀ s, (f s).pending = s.pending

namespace KeepsQueue

/-! ### Commands of the host, by the form in which they are taken (R165, R177) -/

theorem access {f : State → State} (h : KeepsQueue f) : KeepsQueue fun s => s.access f := fun s => by
  dsimp only
  unfold State.access
  split
  · exact h _
  · rfl

theorem atRise {f : State → State} (h : KeepsQueue f) : KeepsQueue fun s => s.atRise f := fun s => by
  dsimp only
  unfold State.atRise
  split
  · exact h _
  · rfl

theorem control {f : State → State} (h : KeepsQueue f) : KeepsQueue fun s => s.control f :=
  .atRise (f := fun s => s.commanded f) fun _ => h _

/-- A channel command leaves the queue where its effect does. -/
theorem channelCommand {effect : State → ChanId → State} (h : ∀ s c, (effect s c).pending = s.pending) (arg : Byte)
    (kindOk : Kind → Bool) (stateOk : ChanState → Bool) :
    KeepsQueue fun s => s.channelCommand arg kindOk stateOk effect := fun s => by
  dsimp only
  unfold State.channelCommand
  split
  · rfl
  split
  · rfl
  split
  · rfl
  split
  · rfl
  · exact h s _

theorem sleepCommand (arg : Byte) : KeepsQueue fun s => s.sleepCommand arg := fun s => by
  dsimp only
  unfold State.sleepCommand
  repeat' split
  all_goals simp

end KeepsQueue

/-! ### The commands -/

/-- Every command is an operation that leaves the commands waiting behind it. -/
theorem exec_keepsQueue (i : Instr) : ∃ f, KeepsQueue f ∧ ∀ s, exec i s = .next (f s) := by
  cases i
  case join => exact ⟨_, .control State.join_pending, fun _ => rfl⟩
  case softReset => exact ⟨_, .control (f := State.softReset) fun _ => rfl, fun _ => rfl⟩
  case sleep arg => exact ⟨_, .control (.sleepCommand arg), fun _ => rfl⟩
  case wake => exact ⟨_, .control State.wakeCommand_pending, fun _ => rfl⟩
  case start arg => exact ⟨_, .control (.channelCommand State.startChannel_pending arg _ _), fun _ => rfl⟩
  case halt arg => exact ⟨_, .control (.channelCommand State.haltChannel_pending arg _ _), fun _ => rfl⟩
  case clear arg => exact ⟨_, .control (.channelCommand State.clearChannel_pending arg _ _), fun _ => rfl⟩
  case kick arg => exact ⟨_, .control (.channelCommand State.kickChannel_pending arg _ _), fun _ => rfl⟩
  case resume => exact ⟨_, .control State.resume_pending, fun _ => rfl⟩
  case clearRestarts => exact ⟨_, .control (f := State.clearRestarts) fun _ => rfl, fun _ => rfl⟩
  case clearLimp => exact ⟨_, .control State.clearLimp_pending, fun _ => rfl⟩
  case unknownCommand => exact ⟨_, .control (f := fun s => s.refuse .badValue none) fun _ => rfl, fun _ => rfl⟩
  case registerWrite addr v => exact ⟨_, .access fun s => s.writeRegister_pending addr v, fun _ => rfl⟩
  case ownAddressWrite v => exact ⟨_, .access fun s => s.writeStationByte_pending 0 v, fun _ => rfl⟩
  case clearDone c => exact ⟨_, .access fun s => s.clearChannelFlags_pending c 1, fun _ => rfl⟩
  case clearNoticeFlags reg mask =>
    cases reg with
    | station => exact ⟨_, .access (f := fun s => s.clearStationFlags mask) fun _ => rfl, fun _ => rfl⟩
    | channel c => exact ⟨_, .access fun s => s.clearChannelFlags_pending c mask, fun _ => rfl⟩
  case clearChangedMarks index mask =>
    exact ⟨_, .access (f := fun s => s.clearMarks index.val mask) fun _ => rfl, fun _ => rfl⟩
  case bufferWrite offset v => exact ⟨_, .access (f := fun s => s.store (offsetOf offset) [v]) fun _ => rfl, fun _ => rfl⟩
  case bufferRead offset place =>
    exact ⟨_, .access (f := fun s => s.shiftOut [Memory.read s.ram (offsetOf offset + BitVec.ofNat 12 place)]) fun _ => rfl,
      fun _ => rfl⟩
  case descriptorWrite index bytes => exact ⟨_, .access fun s => s.writeSlot_pending (slotOf index) bytes, fun _ => rfl⟩
  case descriptorRead index place =>
    exact ⟨_, .access (f := fun s => s.shiftOut (s.slot (slotOf index + Fin.ofNat 64 place)).bytes) fun _ => rfl, fun _ => rfl⟩
  case reset => exact ⟨State.hardReset, fun _ => rfl, fun _ => rfl⟩
  case transactionEnd => exact ⟨_, .atRise (f := State.endTransaction) fun _ => rfl, fun _ => rfl⟩
  case wakePinAccepted pin => exact ⟨_, fun s => s.pinShows_pending pin, fun _ => rfl⟩
  case pick atOnce => exact ⟨_, fun s => s.pickOffer_pending atOnce, fun _ => rfl⟩
  case formatError h0 h1 h2 h3 => exact ⟨_, fun s => s.badHeader_pending h0 h1 h2 h3, fun _ => rfl⟩
  case framingError kind => exact ⟨_, fun s => s.badFraming_pending kind, fun _ => rfl⟩
  case frameEnd bytes => exact ⟨_, fun s => s.receiveFrame_pending bytes, fun _ => rfl⟩
  case responseByteEnd => exact ⟨_, State.responseSent_pending, fun _ => rfl⟩
  case responseBitError => exact ⟨_, State.responseFaulted_pending, fun _ => rfl⟩
  case windowClose read => exact ⟨_, fun s => s.closeWindow_pending read, fun _ => rfl⟩
  case windowOutOfPlace => exact ⟨_, State.breakWindow_pending, fun _ => rfl⟩
  case clashResponseSeen => exact ⟨_, State.clashSeen_pending, fun _ => rfl⟩
  case clashWatchDisarmed => exact ⟨State.disarmWatch, fun _ => rfl, fun _ => rfl⟩
  case idleGapComplete => exact ⟨_, State.gapComplete_pending, fun _ => rfl⟩
  case resyncEnd => exact ⟨_, State.resyncComplete_pending, fun _ => rfl⟩
  case dominantRunHalfMs => exact ⟨_, State.halfMs_pending, fun _ => rfl⟩
  case heldErrorCounted => exact ⟨_, State.countHeldError_pending, fun _ => rfl⟩
  case wakePulseHeard => exact ⟨_, State.pulseHeard_pending, fun _ => rfl⟩
  case lineStuck => exact ⟨_, State.stuckRun_pending, fun _ => rfl⟩
  case arbitrationLost => exact ⟨_, State.loseArbitration_pending, fun _ => rfl⟩
  case bitError fault => exact ⟨_, fun s => s.readBackFault_pending fault, fun _ => rfl⟩
  case wakeCollision => exact ⟨_, State.collide_pending, fun _ => rfl⟩
  case ownFrameEnd => exact ⟨_, State.ownFrameDone_pending, fun _ => rfl⟩
  case pulseSent held => exact ⟨_, fun s => s.pulseDone_pending held, fun _ => rfl⟩
  case startBitBegins => exact ⟨_, State.startBit_pending, fun _ => rfl⟩
  case backoffExpiry c => exact ⟨_, fun s => s.backoffExpired_pending c, fun _ => rfl⟩
  case pacingExpiry c => exact ⟨_, fun s => s.pacingExpired_pending c, fun _ => rfl⟩
  case beaconTimerExpiry => exact ⟨_, State.beaconExpired_pending, fun _ => rfl⟩
  case wakeSettleExpiry => exact ⟨_, State.settleExpired_pending, fun _ => rfl⟩
  case presenceTimeout a => exact ⟨_, fun s => s.presenceTimedOut_pending a, fun _ => rfl⟩
  case listenTimerExpiry => exact ⟨_, State.listenExpired_pending, fun _ => rfl⟩
  case restartTimerExpiry => exact ⟨_, State.restartExpired_pending, fun _ => rfl⟩
  case safeTimerExpiry => exact ⟨_, State.safeExpired_pending, fun _ => rfl⟩

/-- Settles O3: the operation that `exec_keepsQueue` gives for the command answers the next state. -/
theorem everyCommandAnswersNextAndKeepsTheQueue : Obligations.EveryCommandAnswersNextAndKeepsTheQueue := fun c s =>
  have ⟨f, hkeeps, hrun⟩ := exec_keepsQueue c
  ⟨f s, hrun s, hkeeps s⟩

end Sys2Proof.Machine
